-- ==== Sys2Proof/Word.lean ====
section
/-! DEFINITION. The plain types every other file uses: bytes, services, classes, channels, station numbers, quantities
kept once per service or once per class, and the contents of a plant-line frame (R2, R34). -/

namespace Sys2Proof

/-- One byte, as the service line and the setting memory carry it (R198, R203). -/
abbrev Byte := BitVec 8

/-- A field channel: `0` is C1, `15` is C16 (00_scope, Ranges). -/
abbrev Chan := Fin 16

/-- A station number less one, as a frame carries it: `0` is station 1, `31` is station 32 (R34). -/
abbrev Stn := Fin 32

/-- The two shared services. -/
inductive Svc where
  | hw
  | st
  deriving DecidableEq, Repr

/-- The four load classes: 0 Core, 1 Guest, 2 Service, 3 Deferrable. -/
inductive Cls where
  | c0
  | c1
  | c2
  | c3
  deriving DecidableEq, Repr

/-- A quantity kept once per service. -/
structure Per2 (α : Type) where
  hw : α
  st : α
  deriving DecidableEq, Repr

/-- A quantity kept once per class. -/
structure Per4 (α : Type) where
  c0 : α
  c1 : α
  c2 : α
  c3 : α
  deriving DecidableEq, Repr

/-- A quantity kept once per class of each service, eight in all. -/
abbrev Per8 (α : Type) := Per2 (Per4 α)

def Per2.get {α : Type} (p : Per2 α) : Svc → α
  | .hw => p.hw
  | .st => p.st

def Per2.set {α : Type} (p : Per2 α) (v : Svc) (a : α) : Per2 α :=
  match v with
  | .hw => { p with hw := a }
  | .st => { p with st := a }

def Per2.map {α β : Type} (f : α → β) (p : Per2 α) : Per2 β := ⟨f p.hw, f p.st⟩

def Per4.get {α : Type} (p : Per4 α) : Cls → α
  | .c0 => p.c0
  | .c1 => p.c1
  | .c2 => p.c2
  | .c3 => p.c3

def Per4.set {α : Type} (p : Per4 α) (k : Cls) (a : α) : Per4 α :=
  match k with
  | .c0 => { p with c0 := a }
  | .c1 => { p with c1 := a }
  | .c2 => { p with c2 := a }
  | .c3 => { p with c3 := a }

def Per4.map {α β : Type} (f : α → β) (p : Per4 α) : Per4 β := ⟨f p.c0, f p.c1, f p.c2, f p.c3⟩

def Per4.toList {α : Type} (p : Per4 α) : List α := [p.c0, p.c1, p.c2, p.c3]

/-- The same value in all classes. -/
def Per4.all {α : Type} (a : α) : Per4 α := ⟨a, a, a, a⟩

/-- The same value in both services. -/
def Per2.both {α : Type} (a : α) : Per2 α := ⟨a, a⟩

def Per8.get {α : Type} (p : Per8 α) (v : Svc) (k : Cls) : α := (Per2.get p v).get k

def Per8.set {α : Type} (p : Per8 α) (v : Svc) (k : Cls) (a : α) : Per8 α :=
  Per2.set p v ((Per2.get p v).set k a)

def Per8.all {α : Type} (a : α) : Per8 α := Per2.both (Per4.all a)

/-- Sum over the four classes. -/
def Per4.sum (p : Per4 Nat) : Nat := p.c0 + p.c1 + p.c2 + p.c3

/-- The service block of a KEEP: four holdings, the want and the offer, twelve bits each (R34). -/
structure Account where
  holdings : Per4 (BitVec 12)
  want : BitVec 12
  offer : BitVec 12
  deriving DecidableEq, Repr

/-- What a frame carries beside the sender and the sequence, by kind (R34). -/
inductive Body where
  | lapse (target : Stn) (targetSeq : BitVec 8)
  | give (svc : Svc) (cls : Cls) (amount : BitVec 12)
  | offer (svc : Svc) (forced : Bool) (amount : BitVec 12)
  | hail (weight : BitVec 6) (profile : BitVec 16)
  | take (svc : Svc) (cls : Cls) (amount : BitVec 12)
  | want (svc : Svc) (amount : BitVec 12)
  | keep (weight : BitVec 6) (profile : BitVec 16) (hw st : Account)
  deriving DecidableEq, Repr

/-- A plant-line frame (R34). -/
structure Frame where
  sender : Stn
  seq : BitVec 8
  body : Body
  deriving DecidableEq, Repr

end Sys2Proof
end

