-- ==== Sys2Proof/Syntax.lean ====
section
/-! DEFINITION. The commands of the station: one constructor per row of spec/opcode_table.json. The table gives its rows
no operand; the operands are what the row's rule reads from outside the part (log 1, DESIGN CHOICE). -/

namespace Sys2Proof

/-- One command: one whole and indivisible event at the station (95_what_each_step_holds). -/
inductive Instr where
  /-- POWER_ON (R198). -/
  | powerOn
  /-- RESET_PIN_ASSERTED (R198). -/
  | resetPinAsserted
  /-- RESET_PIN_RELEASED (R198). -/
  | resetPinReleased
  /-- SETTINGS_READ_COMPLETES (R201): the memory's status byte and the bytes it sent from offset 0 onward. -/
  | settingsReadCompletes (status : Byte) (bytes : List Byte)
  /-- START_OF_ATTEMPT (R35). -/
  | startOfAttempt
  /-- ARBITRATION_LOST (R36). -/
  | arbitrationLost
  /-- ATTEMPT_FAILS (R41): whether a bit from the sequence field on read back differently from what was sent (R37). -/
  | attemptFails (mismatch : Bool := false)
  /-- RETRY_PAUSE_EXPIRES (R44). -/
  | retryPauseExpires
  /-- FRAME_NOT_LANDED (R40): the line bits read from the start bit to the end of the check sequence, stuff bits
  included (`true` is recessive, a bit of value 1), and the changes of participation since the start bit. -/
  | frameNotLanded (bits : List Bool) (turns : Nat := 0)
  /-- PARTIAL_FRAME_DROPPED (R32). -/
  | partialFrameDropped
  /-- TAKE lands (R14). Here and in the six rows below, `turns` is how many times this station's participation in the line
  has changed since the frame's start bit (R38; log 8): 0 for a frame that no change overtook. -/
  | take (sender : Stn) (seq : BitVec 8) (svc : Svc) (cls : Cls) (amount : BitVec 12) (turns : Nat := 0)
  /-- GIVE lands (R15). -/
  | give (sender : Stn) (seq : BitVec 8) (svc : Svc) (cls : Cls) (amount : BitVec 12) (turns : Nat := 0)
  /-- WANT lands (R16). -/
  | want (sender : Stn) (seq : BitVec 8) (svc : Svc) (amount : BitVec 12) (turns : Nat := 0)
  /-- OFFER lands (R17, R18). -/
  | offer (sender : Stn) (seq : BitVec 8) (svc : Svc) (forced : Bool) (amount : BitVec 12) (turns : Nat := 0)
  /-- KEEP lands (R19, R20). -/
  | keep (sender : Stn) (seq : BitVec 8) (weight : BitVec 6) (profile : BitVec 16) (hw st : Account) (turns : Nat := 0)
  /-- HAIL lands (R21). -/
  | hail (sender : Stn) (seq : BitVec 8) (weight : BitVec 6) (profile : BitVec 16) (turns : Nat := 0)
  /-- LAPSE lands (R22). -/
  | lapse (sender : Stn) (seq : BitVec 8) (target : Stn) (targetSeq : BitVec 8) (turns : Nat := 0)
  /-- OWN_LANDING_TIMER_T_KEEP (R60). -/
  | ownLandingTimerTKeep
  /-- OWN_LANDING_TIMER_T_SELF (R64). -/
  | ownLandingTimerTSelf
  /-- SYNCING_WINDOW_EXPIRES (R57). -/
  | syncingWindowExpires
  /-- SILENCE_TIMER_T_SELF of a peer (R65). -/
  | silenceTimerTSelf (peer : Stn)
  /-- SILENCE_TIMER_T_EXP of a peer (R62). -/
  | silenceTimerTExp (peer : Stn)
  /-- SPARE_TIMER_EXPIRES (R86). -/
  | spareTimerExpires (svc : Svc) (cls : Cls)
  /-- RECLAIM_TIMER_EXPIRES (R94). -/
  | reclaimTimerExpires (svc : Svc)
  /-- BLOCK_TIMER_EXPIRES (R129). -/
  | blockTimerExpires (svc : Svc) (cls : Cls)
  /-- DEMAND_INPUT_CHANGE (R101): the new voltage of the demand input in millivolts. -/
  | demandInputChange (ch : Chan) (millivolts : Nat)
  /-- IDLE_TIMER_EXPIRES (R103). -/
  | idleTimerExpires (ch : Chan)
  /-- PULSE_TIMER_EXPIRES (R107). -/
  | pulseTimerExpires (ch : Chan)
  /-- PULSE_LENGTH_TIMER_EXPIRES (R110). -/
  | pulseLengthTimerExpires (ch : Chan)
  /-- IN_POSITION_RISES (R135). -/
  | inPositionRises (ch : Chan)
  /-- IN_POSITION_FALLS (R139). -/
  | inPositionFalls (ch : Chan)
  /-- STROKE_TIMER_EXPIRES (R136). -/
  | strokeTimerExpires (ch : Chan)
  /-- STROKE_OVERRUN (R138). -/
  | strokeOverrun (ch : Chan)
  /-- DRIFT (R139). -/
  | drift (ch : Chan)
  /-- METER_PULSE (R140). -/
  | meterPulse (ch : Chan)
  /-- METER_WINDOW_ENDS, of every channel together (R140). -/
  | meterWindowEnds
  /-- CALL_INPUT_RISES (R161). -/
  | callInputRises (ch : Chan)
  /-- RUN_REMAINING_ZERO (R169). -/
  | runRemainingZero (ch : Chan)
  /-- RUN_SPOILT (R168). -/
  | runSpoilt (ch : Chan)
  /-- STAGE_READY_RISES (R176). -/
  | stageReadyRises (ch : Chan)
  /-- STAGE_READY_FALLS (R177). -/
  | stageReadyFalls (ch : Chan)
  /-- TRIP_INPUT_ASSERTS (R177). -/
  | tripInputAsserts (ch : Chan)
  /-- TRIP_INPUT_CLEARS (R178). -/
  | tripInputClears (ch : Chan)
  /-- WARM_UP_TIMER_EXPIRES (R176). -/
  | warmUpTimerExpires (ch : Chan)
  /-- LOCKOUT_TIMER_EXPIRES (R178). -/
  | lockoutTimerExpires (ch : Chan)
  /-- CALL_TIMER_EXPIRES (R182). -/
  | callTimerExpires (svc : Svc)
  /-- DROP_HOLD_TIMER_EXPIRES (R184). -/
  | dropHoldTimerExpires (svc : Svc)
  /-- READ_STATION (R205). -/
  | readStation (page : Byte)
  /-- READ_ENTRY (R31). -/
  | readEntry (n : Byte)
  /-- READ_OUTLET (R120). -/
  | readOutlet (n : Byte)
  /-- READ_STAGE (R187). -/
  | readStage (n : Byte)
  /-- READ_FLAGS (R197). -/
  | readFlags
  /-- CLEAR_FLAGS (R194). -/
  | clearFlags (mask : BitVec 16)
  /-- ENABLE_OUTLET (R115). -/
  | enableOutlet (n : Byte)
  /-- DISABLE_OUTLET (R116, R117, R119). -/
  | disableOutlet (n : Byte)
  /-- CLEAR_OUTLET (R119). -/
  | clearOutlet (n : Byte)
  /-- SET_GUARD (R157). -/
  | setGuard (mode count side complement : Byte) (flags : BitVec 16)
  /-- RESTART (R70). -/
  | restart
  /-- READ_SETTINGS (R205). -/
  | readSettings (segment : Byte)
  /-- WRITE_SETTINGS (R206). -/
  | writeSettings (segment : Byte) (data : List Byte)
  /-- SETTINGS_PAGE_WRITTEN (R206): the status byte the memory answers. -/
  | settingsPageWritten (status : Byte)
  /-- SETTINGS_WRITE_COMPLETES (R206): the last status byte, and the bytes read back. -/
  | settingsWriteCompletes (status : Byte) (readBack : List Byte)
  /-- BAD_FRAME (R203): the bytes received since the last frame's end or the last reset, up to the check byte. -/
  | badFrame (bytes : List Byte)
  /-- SERVICE_BYTE_GAP_TIMEOUT (R203): the bytes received before the gap, since the last frame's end or the last reset;
  unless stated, a start byte alone. -/
  | serviceByteGapTimeout (bytes : List Byte := [165])
  /-- RESPONSE_SENT (R204). -/
  | responseSent
  /-- CALL_INPUT_FALLS (R161). -/
  | callInputFalls (ch : Chan)
  /-- LOCK_INPUT_CHANGES (R157). -/
  | lockInputChanges (level : Bool)
  deriving DecidableEq, Repr

end Sys2Proof
end

