-- ==== Sys2Proof/Config.lean ====
section
/-! DEFINITION. The fields of the settings image, fixed from its load to the next full reset (R98, R174, R199, R200), the
line's fixed numbers, and the one free value of the model: the choices the manual leaves open. -/

namespace Sys2Proof

/-- FREE VALUE (logs 3, 9). Which of several possibilities is taken where the manual says that either may be: the n-th
choice made, reduced by the number of possibilities. It has no body, so nothing can be proved of it. -/
opaque Config.freeChoice : Nat → Nat

/-- A meter window is 10 s (R140), counted in half-seconds. -/
def Config.meterWindow : Nat := 20

/-- Ceiling of every hu quantity of a copy (R2). -/
def Config.maxHu : Nat := 4095

/-- Ceiling of the counters and of the pulse count (R195, R140). -/
def Config.maxCount : Nat := 65535

/-- The five outlet fault kinds (10.1). -/
inductive FaultKind where
  | strokeOverrun
  | drift
  | overdraw
  | demandRange
  | runSpoilt
  deriving DecidableEq, Repr

/-- The responses of the fault-response table (R188). -/
inductive Response where
  | note
  | isolate
  | withdraw
  deriving DecidableEq, Repr

/-- The fault-response table, one entry per outlet fault kind (R188). -/
structure ResponseTable where
  strokeOverrun : Response
  drift : Response
  overdraw : Response
  demandRange : Response
  runSpoilt : Response
  deriving DecidableEq, Repr

def ResponseTable.get (t : ResponseTable) : FaultKind → Response
  | .strokeOverrun => t.strokeOverrun
  | .drift => t.drift
  | .overdraw => t.overdraw
  | .demandRange => t.demandRange
  | .runSpoilt => t.runSpoilt

/-- NOTE for every kind (R188, before an image is loaded). -/
def ResponseTable.allNote : ResponseTable := ⟨.note, .note, .note, .note, .note⟩

inductive GuardMode where
  | range
  | each
  deriving DecidableEq, Repr

inductive GuardSide where
  | top
  | bottom
  deriving DecidableEq, Repr

/-- The shed guard (R153). Bit `n - 1` of `flags` is the flag of Cn. -/
structure Guard where
  mode : GuardMode
  count : Nat
  side : GuardSide
  complement : Bool
  flags : BitVec 16
  deriving DecidableEq, Repr

/-- The guard before an image is loaded (R153). -/
def Guard.initial : Guard := ⟨.range, 0, .top, false, 0⟩

/-- One service block of the image (R199). -/
structure ServiceCfg where
  bounds : Per4 Nat
  wantOn : Nat
  wantOff : Nat
  giveThreshold : Nat
  giveHold : Nat
  callDelay : Nat
  dropMargin : Nat
  dropHold : Nat
  deriving DecidableEq, Repr

/-- What only a MODULATING outlet's record uses (R98). Idle time and pulse period in minutes, the others in s or hu. -/
structure ModulatingCfg where
  minDraw : Nat
  idleTime : Nat
  ownFlow : Bool
  groupSource : Bool
  pulsePeriod : Nat
  pulseLength : Nat
  pulseDraw : Nat
  deriving DecidableEq, Repr

/-- What only a BATCH outlet's record uses (R98), in s or hu. -/
structure BatchCfg where
  runDraw : Nat
  runLength : Nat
  waitLimit : Nat
  maxSuspension : Nat
  deriving DecidableEq, Repr

/-- What a MODULATING and a BATCH outlet share: a valve and an activity group (R98). -/
structure ValveCfg where
  group : Nat
  ratedDraw : Nat
  strokeTime : Nat
  feedback : Bool
  deriving DecidableEq, Repr

/-- The outlet kind with the fields the kind uses (R97, R98). -/
inductive OutletKind where
  | modulating (valve : ValveCfg) (cfg : ModulatingCfg)
  | batch (valve : ValveCfg) (cfg : BatchCfg)
  | monitor (reservation : Nat)
  deriving DecidableEq, Repr

/-- The settings part of an outlet record (R98). -/
structure OutletCfg where
  svc : Svc
  cls : Cls
  pulseWeight : Nat
  tolerance : Nat
  persistence : Nat
  enabledAtStart : Bool
  guardFlag : Bool
  kind : OutletKind
  deriving DecidableEq, Repr

inductive StageMode where
  | auto
  | always
  | never
  deriving DecidableEq, Repr

/-- The settings part of a stage record (R174). -/
structure StageCfg where
  svc : Svc
  rating : Nat
  callOrder : Nat
  mode : StageMode
  warmUpLimit : Nat
  lockoutTime : Nat
  deriving DecidableEq, Repr

/-- How a field channel is set up (R97, R200). -/
inductive ChannelCfg where
  | unused
  | outlet (cfg : OutletCfg)
  | stage (cfg : StageCfg)
  deriving DecidableEq, Repr

/-- The fields of the settings image (R199). `own` is the station number less one. -/
structure Image where
  own : Stn
  weight : Nat
  nInst : Nat
  tKeep : Nat
  tStrokeMax : Nat
  tReclaim : Nat
  profile : BitVec 16
  services : Per2 ServiceCfg
  rotating : Bool
  guardMode : GuardMode
  guardSide : GuardSide
  guardComplement : Bool
  guardCount : Nat
  responses : ResponseTable
  alertMask : BitVec 9
  channels : Vector ChannelCfg 16
  deriving DecidableEq, Repr

/-- The valve of an outlet: none for a MONITOR (R113). -/
def OutletCfg.valve? (c : OutletCfg) : Option ValveCfg :=
  match c.kind with
  | .modulating v _ => some v
  | .batch v _ => some v
  | .monitor _ => none

def OutletCfg.modulating? (c : OutletCfg) : Option ModulatingCfg :=
  match c.kind with
  | .modulating _ m => some m
  | .batch _ _ => none
  | .monitor _ => none

def OutletCfg.batch? (c : OutletCfg) : Option BatchCfg :=
  match c.kind with
  | .modulating _ _ => none
  | .batch _ b => some b
  | .monitor _ => none

def OutletCfg.isMonitor (c : OutletCfg) : Bool :=
  match c.kind with
  | .modulating _ _ => false
  | .batch _ _ => false
  | .monitor _ => true

/-- Whether the in-position input is wired (R98). -/
def OutletCfg.feedback (c : OutletCfg) : Bool :=
  match c.valve? with
  | some v => v.feedback
  | none => false

/-- Stroke time in half-seconds; 0 for a MONITOR, which has no valve. -/
def OutletCfg.strokeTicks (c : OutletCfg) : Nat :=
  match c.valve? with
  | some v => 2 * v.strokeTime
  | none => 0

/-- T_self is 3 × T_keep (00_scope, Time constants). -/
def Image.tSelf (im : Image) : Nat := 3 * im.tKeep

/-- T_exp is T_self + T_strokemax (00_scope, Time constants). -/
def Image.tExp (im : Image) : Nat := im.tSelf + im.tStrokeMax

/-- The syncing window is 2 × T_keep + T_strokemax (00_scope, Time constants). -/
def Image.syncWindow (im : Image) : Nat := 2 * im.tKeep + im.tStrokeMax

/-- The quorum Q is floor(N_inst / 2) + 1 (R8). -/
def Image.quorum (im : Image) : Nat := im.nInst / 2 + 1

end Sys2Proof
end

