-- ==== Sys2Proof/Machine/State.lean ====
section
/-! DEFINITION. The state of one PS16 station: every piece of state the manual gives its ten blocks, the levels of its input
pins, the queue of waiting commands, and the state right after power-on. INVENTORY.md lists each with its rule. -/

namespace Sys2Proof.Machine

/-- A timer: `none` is stopped, `some n` runs and has counted n half-seconds (log 2). -/
abbrev Timer := Option Nat

/-- An idle timer (R103). -/
inductive IdleTimer where
  | stopped
  | running (count : Nat)
  | held
  deriving DecidableEq, Repr

/-- The state of a ledger entry (R3). -/
inductive EntryState where
  | vacant
  | member
  deriving DecidableEq, Repr

/-- The per-service fields of an entry, in hu (R2). -/
structure Shares where
  holdings : Per4 Nat
  want : Nat
  offer : Nat
  deriving DecidableEq, Repr

/-- One record of the ledger copy (R2). -/
structure Entry where
  state : EntryState
  weight : Nat
  profile : BitVec 16
  lastSeq : BitVec 8
  shares : Per2 Shares
  deriving DecidableEq, Repr

def Shares.zero : Shares := ⟨Per4.all 0, 0, 0⟩

/-- A VACANT entry: every numeric field zero (R3). -/
def Entry.blank : Entry := ⟨.vacant, 0, 0, 0, Per2.both Shares.zero⟩

/-- The Ledger Unit (R1, R61, R62). `candidates` rises by target number. -/
structure Ledger where
  copy : Vector Entry 32
  silence : Vector Timer 32
  candidates : List (Stn × BitVec 8)
  deriving DecidableEq, Repr

/-- A waiting LAPSE: target, target sequence, age (R46). -/
structure WaitingLapse where
  target : Stn
  targetSeq : BitVec 8
  age : Nat
  deriving DecidableEq, Repr

/-- A waiting GIVE: amount and age (R46). -/
structure WaitingGive where
  amount : Nat
  age : Nat
  deriving DecidableEq, Repr

/-- A waiting TAKE: class, amount and age (R46). -/
structure WaitingTake where
  cls : Cls
  amount : Nat
  age : Nat
  deriving DecidableEq, Repr

/-- What waits under the KEEP or HAIL key (R46). -/
structure WaitingRefresh where
  isHail : Bool
  age : Nat
  deriving DecidableEq, Repr

/-- The transmit queue: one place per key, sixteen keys (R46). OFFER and WANT hold their age alone, since they are
filled at transmission (R48). -/
structure TxQueue where
  lapse : Option WaitingLapse
  give : Per8 (Option WaitingGive)
  offer : Per2 (Option Nat)
  take : Per2 (Option WaitingTake)
  want : Per2 (Option Nat)
  refresh : Option WaitingRefresh
  deriving DecidableEq, Repr

def TxQueue.empty : TxQueue :=
  ⟨none, Per8.all none, Per2.both none, Per2.both none, Per2.both none, none⟩

/-- The frame in transmission, as filled at the start of its attempt (R48), with the covered set of an OFFER (R181) and
whether its kind was discarded by a state change during the attempt (R47, R51). -/
structure TxFrame where
  seq : BitVec 8
  body : Body
  age : Nat
  covered : List Chan
  discarded : Bool
  deriving DecidableEq, Repr

/-- The closing-window slot this station drove last (R39). -/
inductive Mark where
  | none
  | seen
  | void
  deriving DecidableEq, Repr

/-- The Line Interface Unit (chapter 2). `turns` counts the changes of this station's participation in the line that the frame
then on the line may span (R38, log 8). -/
structure Liu where
  seqCounter : BitVec 8
  failCount : Nat
  retryPause : Timer
  queue : TxQueue
  tx : Option TxFrame
  mark : Mark
  turns : Nat
  deriving DecidableEq, Repr

/-- The station state (R53). HALTED holds whether the withdrawal has ended. -/
inductive Station where
  | start
  | inert
  | syncing
  | joining
  | member
  | orphan
  | halted (ended : Bool)
  deriving DecidableEq, Repr

inductive LeaveMark where
  | none
  | withdraw
  | restart
  deriving DecidableEq, Repr

/-- The Membership Controller (R53, R54, R55, R68). -/
structure Membership where
  station : Station
  leaveMark : LeaveMark
  ownLanding : Timer
  syncWindow : Timer
  lapseSelfRequested : Bool
  deriving DecidableEq, Repr

/-- Which term sets a keep amount (R87, R96). -/
inductive KeepTerm where
  | normal
  | shortage
  | reclaim
  deriving DecidableEq, Repr

/-- The Holding Manager's record of one class (R75). -/
structure ClassHold where
  effBound : Nat
  bandLimit : Nat
  spareTimer : Timer
  releasing : Bool
  keep : Nat
  dutyMark : Bool
  keepTerm : KeepTerm
  carriedShortage : Nat
  carriedReclaim : Nat
  deriving DecidableEq, Repr

/-- The Holding Manager's record of one service (R75, R84, R93, R94). -/
structure ServiceHold where
  classes : Per4 ClassHold
  outstanding : Option (Cls × Nat)
  wantMark : Bool
  reclaimTimer : Timer
  unplacedShortage : Nat
  unplacedReclaim : Nat
  unplacedTrue : Bool
  overrunTrue : Bool
  deriving DecidableEq, Repr

def ClassHold.initial : ClassHold := ⟨0, 0, none, false, 0, false, .normal, 0, 0⟩

def ServiceHold.initial : ServiceHold :=
  ⟨Per4.all ClassHold.initial, none, false, none, 0, 0, false, false⟩

/-- The outlet states (5.2). -/
inductive OutletState where
  | off
  | idle
  | active
  | standby
  | waiting
  | running
  | suspended
  | fault
  deriving DecidableEq, Repr

/-- The pulse phases (R107). -/
inductive PulsePhase where
  | none
  | requested
  | opening
  | held
  | closing
  deriving DecidableEq, Repr

/-- The run-time part of an outlet record (R99, R160, R189), with the Stroke and Meter Monitor's items (R132 to R142).
The bound is the peak (R132). `runRemaining` counts half-seconds. `shut` says that the grant was 0, the valve SETTLED and
the pulse phase NONE throughout the meter window so far (R104). -/
structure Outlet where
  state : OutletState
  desired : Nat
  level : Nat
  idleTimer : IdleTimer
  pulsePhase : PulsePhase
  pulseTimer : Timer
  pulseLength : Timer
  disablePending : Bool
  runRemaining : Nat
  suspension : Timer
  repeatFlag : Bool
  endOfRun : Bool
  faultKind : Option FaultKind
  lastFault : Option FaultKind
  grant : Nat
  deferrals : Nat
  command : Nat
  peak : Nat
  moving : Bool
  stroke : Timer
  seenDeasserted : Bool
  overrun : Bool
  drift : Timer
  pulses : Nat
  metered : Nat
  largestBound : Nat
  wasOff : Bool
  shut : Bool
  excess : Nat
  outOfRange : Bool
  deriving DecidableEq, Repr

/-- The outlet record's reset values (R99, R160, R189). -/
def Outlet.initial : Outlet where
  state := .off
  desired := 0
  level := 0
  idleTimer := .stopped
  pulsePhase := .none
  pulseTimer := none
  pulseLength := none
  disablePending := false
  runRemaining := 0
  suspension := none
  repeatFlag := false
  endOfRun := false
  faultKind := none
  lastFault := none
  grant := 0
  deferrals := 0
  command := 0
  peak := 0
  moving := false
  stroke := none
  seenDeasserted := false
  overrun := false
  drift := none
  pulses := 0
  metered := 0
  largestBound := 0
  wasOff := false
  shut := true
  excess := 0
  outOfRange := false

/-- One wait queue: its members in service order, its blocker and its block timer (R121). -/
structure WaitQueue where
  members : List Chan
  blocker : Option Chan
  blockTimer : Timer
  deriving DecidableEq, Repr

def WaitQueue.empty : WaitQueue := ⟨[], none, none⟩

/-- The Apportioner (R121, R131, R149, R153). `passDue` is the model's own: a service pass is due in the present event
(R124, log 11). -/
structure Apportioner where
  queues : Per8 WaitQueue
  raiseOrder : Per8 (List Chan)
  startOrder : Per8 (List Chan)
  guard : Guard
  passDue : Per8 Bool
  deriving DecidableEq, Repr

/-- The stage states (R175). -/
inductive StageState where
  | down
  | called
  | ready
  | tripped
  | lockout
  deriving DecidableEq, Repr

/-- The run-time part of a stage record (R175). -/
structure Stage where
  state : StageState
  leaving : Bool
  warmUp : Timer
  lockout : Timer
  deriving DecidableEq, Repr

/-- A stage record from reset on: R175 gives these values once the image is loaded, and before then the call output alone (DESIGN
CHOICE before the load, unsafe: log 46). -/
def Stage.initial : Stage := ⟨.down, false, none, none⟩

/-- The Stage Manager's record of one service (R180, R182, R184). `dropCandidate` is the candidate the drop hold timer
runs for. -/
structure Supply where
  forced : Bool
  callTimer : Timer
  dropTimer : Timer
  dropCandidate : Option Chan
  deriving DecidableEq, Repr

/-- The record of a service from reset on. R180 gives the forced mark at reset, R175 the two timers once the image is loaded; before
then they are stopped too (DESIGN CHOICE, unsafe: log 46), and the candidate is none (log 26). -/
def Supply.initial : Supply := ⟨false, none, none, none⟩

/-- The seven counters (R195). -/
structure Counters where
  framesLanded : Nat
  attemptsFailed : Nat
  takeRefused : Nat
  pulseMissed : Nat
  runsSpoilt : Nat
  deferrals : Nat
  outletFaults : Nat
  deriving DecidableEq, Repr

def Counters.zero : Counters := ⟨0, 0, 0, 0, 0, 0, 0⟩

/-- The Fault and Report Unit (R188, R193, R195, R196). Flag n is bit n. -/
structure FaultUnit where
  flags : BitVec 9
  counters : Counters
  responses : ResponseTable
  alertMask : BitVec 9
  deriving DecidableEq, Repr

/-- Where the bytes of READ-SETTINGS come from (R205). -/
inductive ImageSource where
  | frozen
  | rejected
  | none
  deriving DecidableEq, Repr

/-- How far a memory write has come (R206): writing page n of twelve, asking its status again, or reading back. -/
inductive WritePhase where
  | page (n : Nat)
  | polling (n : Nat)
  | readBack
  deriving DecidableEq, Repr

/-- The Settings Loader (R198, R201, R205, R206). -/
structure Loader where
  reading : Bool
  image : Option Image
  source : ImageSource
  bytes : List Byte
  failedCheck : Nat
  staging : Vector (Option (List Byte)) 6
  write : Option WritePhase
  deriving DecidableEq, Repr

/-- The status of a response frame (R203). -/
inductive Status where
  | done
  | busy
  | refused
  | locked
  | badArg
  | badFrame
  deriving DecidableEq, Repr

/-- A response decided and not yet sent. `ofCommand` says that it is the response of the command in progress, and not a
BUSY or BAD-FRAME reply (R203). -/
structure Reply where
  status : Status
  data : List Byte
  ofCommand : Bool
  deriving DecidableEq, Repr

/-- The service line (R203, R204). `resetWaiting`: a full reset follows once the response of the command in progress has
been sent (R72, R204). -/
structure ServiceLine where
  busy : Bool
  replies : List Reply
  resetWaiting : Bool
  deriving DecidableEq, Repr

/-- The levels at the input pins, which lie outside the part and are not changed by a reset (11.6). `reset` is the RESET
pin asserted. The demand inputs are in millivolts. -/
structure Pins where
  reset : Bool
  lock : Bool
  demand : Vector Nat 16
  call : Vector Bool 16
  inPosition : Vector Bool 16
  ready : Vector Bool 16
  trip : Vector Bool 16
  deriving DecidableEq, Repr

/-- All inputs deasserted, the demand inputs at 0.50 V (0 %): DESIGN CHOICE, unsafe (log 14). -/
def Pins.initial : Pins where
  reset := false
  lock := false
  demand := Vector.replicate 16 500
  call := Vector.replicate 16 false
  inPosition := Vector.replicate 16 false
  ready := Vector.replicate 16 false
  trip := Vector.replicate 16 false

/-- The whole station. -/
structure State where
  pending : List Instr
  pins : Pins
  ledger : Ledger
  liu : Liu
  memb : Membership
  hold : Per2 ServiceHold
  outlets : Vector Outlet 16
  app : Apportioner
  stages : Vector Stage 16
  supply : Per2 Supply
  meterWindow : Timer
  fru : FaultUnit
  loader : Loader
  serial : ServiceLine
  now : Nat
  freeUses : Nat
  deriving DecidableEq, Repr

/-- A reason for the machine to stop. The manual gives the part none: no command ends in a fault, and nothing raises
this. -/
inductive Fault where
  /-- Raised by nothing; safe, since no step answers it. -/
  | unreachable
  deriving DecidableEq, Repr

/-- Why a command has no meaning in the model. -/
inductive Refusal where
  /-- Raised by `exec` for a row without a meaning yet (none is left); safe, since the model stops where the part goes
  on. -/
  | notModelled (mnemonic : String)
  deriving DecidableEq, Repr

def Ledger.initial : Ledger := ⟨Vector.replicate 32 Entry.blank, Vector.replicate 32 none, []⟩

def Liu.initial : Liu := ⟨0, 0, none, TxQueue.empty, none, .none, 0⟩

def Membership.initial : Membership := ⟨.start, .none, none, none, false⟩

def Apportioner.initial : Apportioner :=
  ⟨Per8.all WaitQueue.empty, Per8.all [], Per8.all [], Guard.initial, Per8.all false⟩

/-- Every flag clear, the table NOTE, the mask all nine flags (R188, R193, R195, R196). -/
def FaultUnit.initial : FaultUnit := ⟨0, Counters.zero, ResponseTable.allNote, 511⟩

/-- The loader after a full reset; the read begins when the RESET pin is not asserted (R198). -/
def Loader.initial (reading : Bool) : Loader :=
  ⟨reading, none, .none, [], 0, Vector.replicate 6 none, none⟩

def ServiceLine.initial : ServiceLine := ⟨false, [], false⟩

/-- The machine right after power-on: START, every block at its reset values, the settings read under way (R198). -/
def State.reset : State where
  pending := []
  pins := Pins.initial
  ledger := Ledger.initial
  liu := Liu.initial
  memb := Membership.initial
  hold := Per2.both ServiceHold.initial
  outlets := Vector.replicate 16 Outlet.initial
  app := Apportioner.initial
  stages := Vector.replicate 16 Stage.initial
  supply := Per2.both Supply.initial
  meterWindow := none
  fru := FaultUnit.initial
  loader := Loader.initial true
  serial := ServiceLine.initial
  now := 0
  freeUses := 0

end Sys2Proof.Machine
end

