-- ==== Sys2Proof/Machine/Ops.lean ====
section
/-! DEFINITION. The named operations over the records of State: lists of what is numbered, reads and writes of one record,
timers, sums over the outlets of a class, and who takes part in what (R38, R99). -/

namespace Sys2Proof.Machine

/-- C1 to C16, ascending. -/
def channels : List Chan := [0, 1, 2, 3, 4, 5, 6, 7, 8, 9, 10, 11, 12, 13, 14, 15]

/-- Stations 1 to 32, ascending. -/
def stations : List Stn :=
  [0, 1, 2, 3, 4, 5, 6, 7, 8, 9, 10, 11, 12, 13, 14, 15, 16, 17, 18, 19, 20, 21, 22, 23, 24, 25, 26, 27, 28, 29, 30, 31]

def services : List Svc := [.hw, .st]

/-- From Core to Deferrable. -/
def classes : List Cls := [.c0, .c1, .c2, .c3]

/-- Service and class pairs, HW before ST, class 0 first. -/
def serviceClasses : List (Svc × Cls) :=
  [(.hw, .c0), (.hw, .c1), (.hw, .c2), (.hw, .c3), (.st, .c0), (.st, .c1), (.st, .c2), (.st, .c3)]

/-- Change the record at one index. -/
def modifyAt {α : Type} {n : Nat} (i : Fin n) (f : α → α) (v : Vector α n) : Vector α n := v.set i (f v[i])

/-- Change every record, each by its index. -/
def mapAt {α : Type} {n : Nat} (f : Fin n → α → α) (v : Vector α n) : Vector α n := Vector.ofFn fun i => f i v[i]

/-- Rise by one, held at 65535 (R195, R140). -/
def countUp (n : Nat) : Nat := min (n + 1) Config.maxCount

/-- Ceiling of a quotient; 0 when the divisor is 0. -/
def ceilDiv (a b : Nat) : Nat := (a + (b - 1)) / b

/-- A timer after half a second, holding at a limit. -/
def Timer.advance (limit : Nat) (t : Timer) : Timer := t.map fun n => min (n + 1) limit

/-- Whether a timer runs and stands at its limit or above. -/
def Timer.atLeast (limit : Nat) (t : Timer) : Bool :=
  match t with
  | some n => limit ≤ n
  | none => false

/-- Whether a timer runs below its limit. -/
def Timer.below (limit : Nat) (t : Timer) : Bool :=
  match t with
  | some n => n < limit
  | none => false

/-- Start the timer when the condition holds and it is stopped; let it run on while it holds; stop it when it does not. -/
def Timer.follow (cond : Bool) (t : Timer) : Timer := if cond then some (t.getD 0) else none

/-- The frozen image's setting of a channel; UNUSED before an image is loaded (R97). -/
def State.cfg (s : State) (ch : Chan) : ChannelCfg :=
  match s.loader.image with
  | some im => im.channels[ch]
  | none => .unused

def State.outletCfg? (s : State) (ch : Chan) : Option OutletCfg :=
  match s.cfg ch with
  | .outlet c => some c
  | .stage _ => none
  | .unused => none

def State.stageCfg? (s : State) (ch : Chan) : Option StageCfg :=
  match s.cfg ch with
  | .outlet _ => none
  | .stage c => some c
  | .unused => none

def State.outlet (s : State) (ch : Chan) : Outlet := s.outlets[ch]

def State.stage (s : State) (ch : Chan) : Stage := s.stages[ch]

def State.entry (s : State) (n : Stn) : Entry := s.ledger.copy[n]

/-- The own station number less one; station 1 before an image is loaded, when no rule reads it. -/
def State.own (s : State) : Stn :=
  match s.loader.image with
  | some im => im.own
  | none => 0

def State.ownEntry (s : State) : Entry := s.entry s.own

/-- The service order mode (R123); FIXED while no image is loaded, as READ-STATION then shows (DESIGN CHOICE, unsafe: log 36). -/
def State.rotating (s : State) : Bool :=
  match s.loader.image with
  | some im => im.rotating
  | none => false

def State.station (s : State) : Station := s.memb.station

/-- Participation in the line (R38). -/
def Station.participates : Station → Bool
  | .start => false
  | .inert => false
  | .syncing => true
  | .joining => true
  | .member => true
  | .orphan => true
  | .halted ended => !ended

/-- The states in which outlet and stage records live and inputs are taken: every one but START and INERT (R99, R112). -/
def Station.live : Station → Bool
  | .start => false
  | .inert => false
  | .syncing => true
  | .joining => true
  | .member => true
  | .orphan => true
  | .halted _ => true

def State.participates (s : State) : Bool := s.station.participates

/-- The outlets and stages act: an image is frozen and the station is neither START nor INERT. -/
def State.live (s : State) : Bool := s.loader.image.isSome && s.station.live

def State.isMember (s : State) : Bool := s.station == .member

def State.modOutlet (ch : Chan) (f : Outlet → Outlet) (s : State) : State :=
  { s with outlets := modifyAt ch f s.outlets }

def State.modStage (ch : Chan) (f : Stage → Stage) (s : State) : State :=
  { s with stages := modifyAt ch f s.stages }

def State.modSupply (v : Svc) (f : Supply → Supply) (s : State) : State :=
  { s with supply := s.supply.set v (f (s.supply.get v)) }

def State.modHold (v : Svc) (f : ServiceHold → ServiceHold) (s : State) : State :=
  { s with hold := s.hold.set v (f (s.hold.get v)) }

def State.classHold (s : State) (v : Svc) (k : Cls) : ClassHold := (s.hold.get v).classes.get k

def State.modClass (v : Svc) (k : Cls) (f : ClassHold → ClassHold) (s : State) : State :=
  s.modHold v fun h => { h with classes := h.classes.set k (f (h.classes.get k)) }

def State.modMemb (f : Membership → Membership) (s : State) : State := { s with memb := f s.memb }

def State.modLiu (f : Liu → Liu) (s : State) : State := { s with liu := f s.liu }

def State.modTxQueue (f : TxQueue → TxQueue) (s : State) : State :=
  { s with liu := { s.liu with queue := f s.liu.queue } }

def State.modLedger (f : Ledger → Ledger) (s : State) : State := { s with ledger := f s.ledger }

def State.modApp (f : Apportioner → Apportioner) (s : State) : State := { s with app := f s.app }

def State.modSerial (f : ServiceLine → ServiceLine) (s : State) : State := { s with serial := f s.serial }

def State.modLoader (f : Loader → Loader) (s : State) : State := { s with loader := f s.loader }

def State.modFru (f : FaultUnit → FaultUnit) (s : State) : State := { s with fru := f s.fru }

def State.queue (s : State) (v : Svc) (k : Cls) : WaitQueue := s.app.queues.get v k

def State.modQueue (v : Svc) (k : Cls) (f : WaitQueue → WaitQueue) (s : State) : State :=
  s.modApp fun a => { a with queues := a.queues.set v k (f (a.queues.get v k)) }

def State.modRaiseOrder (v : Svc) (k : Cls) (f : List Chan → List Chan) (s : State) : State :=
  s.modApp fun a => { a with raiseOrder := a.raiseOrder.set v k (f (a.raiseOrder.get v k)) }

def State.modStartOrder (v : Svc) (k : Cls) (f : List Chan → List Chan) (s : State) : State :=
  s.modApp fun a => { a with startOrder := a.startOrder.set v k (f (a.startOrder.get v k)) }

/-- A service pass over the queue of the class is due in this event (R124). -/
def State.markPass (v : Svc) (k : Cls) (s : State) : State :=
  s.modApp fun a => { a with passDue := a.passDue.set v k true }

def State.clearPass (v : Svc) (k : Cls) (s : State) : State :=
  s.modApp fun a => { a with passDue := a.passDue.set v k false }

/-- An OUTLET channel of the service and class. -/
def State.inClass (s : State) (v : Svc) (k : Cls) (ch : Chan) : Bool :=
  match s.outletCfg? ch with
  | some c => c.svc == v && c.cls == k
  | none => false

/-- The outlets of a service and class, ascending. -/
def State.classChannels (s : State) (v : Svc) (k : Cls) : List Chan := channels.filter (s.inClass v k)

/-- Sum of a quantity over the outlets of a service and class. -/
def State.sumClass (s : State) (v : Svc) (k : Cls) (f : Outlet → Nat) : Nat :=
  ((s.classChannels v k).map fun ch => f (s.outlet ch)).sum

/-- Σ grants of a class (R125). -/
def State.sumGrants (s : State) (v : Svc) (k : Cls) : Nat := s.sumClass v k Outlet.grant

/-- Σ bounds of a class; the bound is the peak (R125, R132). -/
def State.sumBounds (s : State) (v : Svc) (k : Cls) : Nat := s.sumClass v k Outlet.peak

/-- Every outlet bound is zero (R68, R69). -/
def State.boundsZero (s : State) : Bool :=
  channels.all fun ch => (s.outletCfg? ch).isNone || (s.outlet ch).peak == 0

/-- Apply an operation for each of a list, in order. -/
def forEach {α : Type} (l : List α) (f : α → State → State) (s : State) : State :=
  l.foldl (fun t a => f a t) s

/-- One of the possibilities, taken freely where the manual says that either may be (logs 3, 9). A single possibility
uses up no free choice. -/
def State.pickFree {α : Type} (s : State) (l : List α) : Option (α × State) :=
  match l with
  | [] => none
  | [a] => some (a, s)
  | a :: b :: rest =>
    let all := a :: b :: rest
    some (all.getD (Config.freeChoice s.freeUses % all.length) a, { s with freeUses := s.freeUses + 1 })

/-- Every block at its reset values, the state START. The pins and the queue of waiting commands lie outside the part, and
the model's own counters go on; the settings read begins unless the RESET pin is asserted (R198, R73). -/
def State.fullReset (s : State) : State :=
  { State.reset with
    pending := s.pending
    pins := s.pins
    loader := Loader.initial (!s.pins.reset)
    now := s.now
    freeUses := s.freeUses }

end Sys2Proof.Machine
end

