-- ==== Sys2Proof/Machine/Bytes.lean ====
section
/-! DEFINITION. Bits, bytes and the check sequence shared by the plant line and the settings image (R34, R199, R203). -/

namespace Sys2Proof.Machine

/-- The bits of a field, most significant first (R34, R198). -/
def bitsOf {w : Nat} (v : BitVec w) : List Bool := (List.range w).map fun i => v.getMsbD i

/-- The number whose bits are given most significant first. -/
def natOfBits (l : List Bool) : Nat := l.foldl (fun acc b => 2 * acc + b.toNat) 0

/-- One step of the division by x^16 + x^12 + x^5 + 1 (R34, R199). -/
def crcStep (reg : BitVec 16) (b : Bool) : BitVec 16 :=
  if reg.msb != b then (reg <<< 1) ^^^ 0x1021#16 else reg <<< 1

/-- The remainder, with the register first set to all ones (R34, R199). -/
def crc (bits : List Bool) : BitVec 16 := bits.foldl crcStep 0xFFFF#16

/-- Bytes as bits, each byte's most significant bit first (R199). -/
def bitsOfBytes (l : List Byte) : List Bool := l.flatMap fun b => bitsOf b

/-- A number as one byte. -/
def byte1 (n : Nat) : List Byte := [BitVec.ofNat 8 n]

/-- A number as two bytes, most significant byte first (R203). -/
def byte2 (n : Nat) : List Byte := [BitVec.ofNat 8 (n / 256), BitVec.ofNat 8 n]

/-- A number as three bytes, most significant byte first (R203). -/
def byte3 (n : Nat) : List Byte := [BitVec.ofNat 8 (n / 65536), BitVec.ofNat 8 (n / 256), BitVec.ofNat 8 n]

/-- A signed number as two bytes in two's complement (log 17). -/
def signed2 (i : Int) : List Byte := byte2 (BitVec.ofInt 16 i).toNat

/-- A signed number as three bytes in two's complement (R203). -/
def signed3 (i : Int) : List Byte := byte3 (BitVec.ofInt 24 i).toNat

/-- A mark, flag, yes-or-no item or level as one byte (R203). -/
def byteOfBool (b : Bool) : List Byte := [if b then 1 else 0]

/-- A timer as the whole seconds it has counted, 65535 while it is stopped (R203). A count of 65535 s or more, which only the
stroke timer of a stuck valve reaches, wraps (log 32). -/
def byteTimer (t : Timer) : List Byte :=
  match t with
  | some n => byte2 (n / 2)
  | none => byte2 65535

/-- The byte at an offset; beyond the bytes given the data line reads 255, as when no device drives it (R198, 11.6). -/
def byteAt (l : List Byte) (i : Nat) : Nat := (l.getD i 255).toNat

/-- The two-byte field at an offset, most significant byte first (R199). -/
def wordAt (l : List Byte) (i : Nat) : Nat := 256 * byteAt l i + byteAt l (i + 1)

/-- Bit i of a number, counted from the least significant. -/
def bitOf (n i : Nat) : Bool := n / 2 ^ i % 2 == 1

/-- Exactly n bytes: the first n given, filled with 255 (R198). -/
def fitBytes (n : Nat) (l : List Byte) : List Byte := (List.range n).map fun i => l.getD i 255

end Sys2Proof.Machine
end

