-- ==== Sys2Proof/Machine/PlantLine.lean ====
section
/-! DEFINITION. The plant line's frame as bits: layout, check sequence, stuffing, and a receiver's judgement of a frame
(R32 to R34, R39). A `true` is a recessive bit, of value 1. -/

namespace Sys2Proof.Machine

/-- The kind's rank (R34). -/
def Body.rank : Body → Nat
  | .lapse _ _ => 0
  | .give _ _ _ => 1
  | .offer _ _ _ => 2
  | .hail _ _ => 3
  | .take _ _ _ => 4
  | .want _ _ => 5
  | .keep _ _ _ _ => 6

/-- The body length of a rank; rank 7 is taken as having 16 bits (R34, R39). -/
def bodyLength : Nat → Nat
  | 3 => 24
  | 6 => 168
  | _ => 16

def Svc.toBool : Svc → Bool
  | .hw => false
  | .st => true

def Cls.number : Cls → Nat
  | .c0 => 0
  | .c1 => 1
  | .c2 => 2
  | .c3 => 3

def Cls.bits (k : Cls) : List Bool := bitsOf (BitVec.ofNat 2 (Cls.number k))

/-- Fill bits are sent as 0 (R34). -/
def fill (n : Nat) : List Bool := List.replicate n false

def stationBits (n : Stn) : List Bool := bitsOf (BitVec.ofNat 5 n.val)

/-- The 72 bits of a KEEP's service block (R34). -/
def Account.bits (a : Account) : List Bool :=
  bitsOf a.holdings.c0 ++ bitsOf a.holdings.c1 ++ bitsOf a.holdings.c2 ++ bitsOf a.holdings.c3 ++ bitsOf a.want
    ++ bitsOf a.offer

/-- The body bits by kind (R34). -/
def Body.bits : Body → List Bool
  | .take v k n => Svc.toBool v :: Cls.bits k ++ bitsOf n ++ fill 1
  | .give v k n => Svc.toBool v :: Cls.bits k ++ bitsOf n ++ fill 1
  | .want v n => Svc.toBool v :: fill 3 ++ bitsOf n
  | .offer v forced n => Svc.toBool v :: forced :: fill 2 ++ bitsOf n
  | .lapse target q => stationBits target ++ fill 3 ++ bitsOf q
  | .hail w p => bitsOf w ++ fill 2 ++ bitsOf p
  | .keep w p hw st => bitsOf w ++ fill 2 ++ bitsOf p ++ Account.bits hw ++ Account.bits st

/-- Frame bits 1 to 16 + L: rank, station, sequence, body (R34). -/
def Frame.content (f : Frame) : List Bool :=
  bitsOf (BitVec.ofNat 3 (Body.rank f.body)) ++ stationBits f.sender ++ bitsOf f.seq ++ Body.bits f.body

/-- The level every station reads: recessive only when no station drives dominant (R32). -/
def wired (driven : List Bool) : Bool := driven.all fun b => b

/-- A mark slot: dominant when it is marked (R34). -/
def slot (marked : Bool) : Bool := !marked

/-- The closing window, frame bits 33 + L and 34 + L: the SEEN slot and the VOID slot (R34). -/
def closingWindow (seen void : Bool) : List Bool := [slot seen, slot void]

/-- Frame bits 35 + L to 41 + L: seven recessive end bits (R32, R34). -/
def endBits : List Bool := List.replicate 7 true

/-- The idle gap: three bit times after the last end bit (R32). -/
def idleGap : Nat := 3

/-- Recessive bits after which a receiver drops a frame whose bits stopped early: the end bits and the idle gap (R32). -/
def dropAfter : Nat := endBits.length + idleGap

/-- The levels of the closing window at which a frame lands: SEEN dominant, VOID recessive (R40). -/
def landsAt (seenSlot voidSlot : Bool) : Bool := !seenSlot && voidSlot

/-- Frame bits 0 to 32 + L: the start bit, the content and the complemented check sequence (R34). -/
def Frame.bits (f : Frame) : List Bool := false :: Frame.content f ++ bitsOf (~~~(crc (Frame.content f)))

/-- Insert one bit of the opposite value after every run of five equal bits, the inserted bits counted (R33). `last` and
`run` are the bit before and the length of its run. -/
def stuffFrom (last : Bool) (run : Nat) : List Bool → List Bool
  | [] => []
  | b :: rest =>
    let n := if b == last then run + 1 else 1
    if n = 5 then b :: (!b) :: stuffFrom (!b) 1 rest else b :: stuffFrom b n rest

/-- The bits as driven on the line (R33). Before the start bit the line is recessive and idle, which counts for no run
(log 23). -/
def stuff (l : List Bool) : List Bool := stuffFrom true 0 l

/-- All the bits of a frame on the line, from the start bit to the last end bit; the closing window and the end bits are not
stuffed (R32 to R34). -/
def Frame.lineBits (f : Frame) (seen void : Bool) : List Bool :=
  stuff (Frame.bits f) ++ closingWindow seen void ++ endBits

/-- Bit times for which a frame keeps the line busy (R32). -/
def Frame.busyBits (f : Frame) : Nat := (Frame.lineBits f false false).length + idleGap

/-- Remove the stuff bits; nothing when a run of six equal bits stands in the span (R33, R39). -/
def destuffFrom (last : Bool) (run : Nat) : List Bool → Option (List Bool)
  | [] => some []
  | b :: rest =>
    if run = 5 then
      if b == last then none else destuffFrom b 1 rest
    else
      let n := if b == last then run + 1 else 1
      (destuffFrom b n rest).map (b :: ·)

def destuff (l : List Bool) : Option (List Bool) := destuffFrom true 0 l

/-- The bits `lo` to `lo + len - 1` of a list. -/
def slice (l : List Bool) (lo len : Nat) : List Bool := (l.drop lo).take len

/-- The field of a list of bits, most significant bit first. -/
def fieldAt (w : Nat) (l : List Bool) (lo : Nat) : BitVec w := BitVec.ofNat w (natOfBits (slice l lo w))

def svcOfBit (b : Bool) : Svc := if b then .st else .hw

def clsOfBits (l : List Bool) : Cls :=
  match natOfBits l with
  | 0 => .c0
  | 1 => .c1
  | 2 => .c2
  | _ => .c3

def readAccount (body : List Bool) (lo : Nat) : Account :=
  { holdings := ⟨fieldAt 12 body lo, fieldAt 12 body (lo + 12), fieldAt 12 body (lo + 24), fieldAt 12 body (lo + 36)⟩
    want := fieldAt 12 body (lo + 48)
    offer := fieldAt 12 body (lo + 60) }

/-- The body of a rank from its bits; nothing when a fill bit is 1 or the rank is 7 (R34, R39). -/
def readBody (rank : Nat) (b : List Bool) : Option Body :=
  let v := svcOfBit (b.getD 0 false)
  match rank with
  | 0 => if slice b 5 3 == fill 3 then some (.lapse (Fin.ofNat 32 (natOfBits (slice b 0 5))) (fieldAt 8 b 8)) else none
  | 1 => if slice b 15 1 == fill 1 then some (.give v (clsOfBits (slice b 1 2)) (fieldAt 12 b 3)) else none
  | 2 => if slice b 2 2 == fill 2 then some (.offer v (b.getD 1 false) (fieldAt 12 b 4)) else none
  | 3 => if slice b 6 2 == fill 2 then some (.hail (fieldAt 6 b 0) (fieldAt 16 b 8)) else none
  | 4 => if slice b 15 1 == fill 1 then some (.take v (clsOfBits (slice b 1 2)) (fieldAt 12 b 3)) else none
  | 5 => if slice b 1 3 == fill 3 then some (.want v (fieldAt 12 b 4)) else none
  | 6 =>
    if slice b 6 2 == fill 2 then
      some (.keep (fieldAt 6 b 0) (fieldAt 16 b 8) (readAccount b 24) (readAccount b 96))
    else none
  | _ => none

/-- The frame of destuffed bits: nothing unless the start bit is dominant, the length is that of the rank, the check
sequence is the one of the content, the fill bits are 0 and the rank is a kind's (R34, R39). -/
def readFrame (l : List Bool) : Option Frame :=
  let rank := natOfBits (slice l 1 3)
  let len := bodyLength rank
  if l.getD 0 true == false && l.length == 33 + len
      && slice l (17 + len) 16 == bitsOf (~~~(crc (slice l 1 (16 + len)))) then
    (readBody rank (slice l 17 len)).map fun body =>
      { sender := Fin.ofNat 32 (natOfBits (slice l 4 5)), seq := fieldAt 8 l 9, body := body }
  else none

/-- The weight a HAIL or KEEP carries is 1 to 63; other kinds carry none (R39). -/
def Body.weightRight : Body → Bool
  | .hail w _ => w != 0
  | .keep w _ _ _ => w != 0
  | .lapse _ _ => true
  | .give _ _ _ => true
  | .offer _ _ _ => true
  | .take _ _ _ => true
  | .want _ _ => true

/-- The profile code a HAIL or KEEP carries is the receiver's; other kinds carry none (R39). -/
def Body.profileRight (profile : BitVec 16) : Body → Bool
  | .hail _ p => p == profile
  | .keep _ p _ _ => p == profile
  | .lapse _ _ => true
  | .give _ _ _ => true
  | .offer _ _ _ => true
  | .take _ _ _ => true
  | .want _ _ => true

/-- A receiver finds a frame of another station intact (R39). -/
def Frame.intactAt (own : Stn) (profile : BitVec 16) (f : Frame) : Bool :=
  Body.weightRight f.body && f.sender != own && Body.profileRight profile f.body

/-- A KEEP damaged on its profile code alone (R56). -/
def Frame.profileAlone (own : Stn) (profile : BitVec 16) (f : Frame) : Bool :=
  match f.body with
  | .keep w p _ _ => w != 0 && f.sender != own && p != profile
  | .hail _ _ => false
  | .lapse _ _ => false
  | .give _ _ _ => false
  | .offer _ _ _ => false
  | .take _ _ _ => false
  | .want _ _ => false

/-- The frame a receiver reads from the line bits, when it is well formed. -/
def receive (lineBits : List Bool) : Option Frame := (destuff lineBits).bind readFrame

/-- The slot a receiver drives: SEEN for an intact frame, VOID for any other (R39). -/
def judge (own : Stn) (profile : BitVec 16) (lineBits : List Bool) : Mark :=
  match receive lineBits with
  | some f => if Frame.intactAt own profile f then .seen else .void
  | none => .void

end Sys2Proof.Machine
end

