-- ==== Sys2Proof/Machine/Ledger.lean ====
section
/-! DEFINITION. The ledger copy: its derived quantities, the two duties, and what it does with each kind of landed frame
(chapter 1). -/

namespace Sys2Proof.Machine

/-- The 32 entries (R1). -/
abbrev Copy := Vector Entry 32

def Entry.isMember (e : Entry) : Bool := e.state == .member

def Entry.holding (e : Entry) (v : Svc) (k : Cls) : Nat := (e.shares.get v).holdings.get k

/-- H_s, the station total (R6). -/
def Entry.total (e : Entry) (v : Svc) : Nat := (e.shares.get v).holdings.sum

def Entry.want (e : Entry) (v : Svc) : Nat := (e.shares.get v).want

def Entry.offer (e : Entry) (v : Svc) : Nat := (e.shares.get v).offer

def Entry.modShares (v : Svc) (f : Shares → Shares) (e : Entry) : Entry :=
  { e with shares := e.shares.set v (f (e.shares.get v)) }

def Entry.setHolding (v : Svc) (k : Cls) (n : Nat) (e : Entry) : Entry :=
  e.modShares v fun sh => { sh with holdings := sh.holdings.set k n }

def Entry.setWant (v : Svc) (n : Nat) (e : Entry) : Entry := e.modShares v fun sh => { sh with want := n }

def Entry.setOffer (v : Svc) (n : Nat) (e : Entry) : Entry := e.modShares v fun sh => { sh with offer := n }

/-- Sum of a quantity over the MEMBER entries (section 1.2). -/
def sumMembers (copy : Copy) (f : Entry → Nat) : Nat :=
  (stations.map fun n => if (copy[n]).isMember then f copy[n] else 0).sum

/-- C (R5). -/
def capacity (copy : Copy) (v : Svc) : Nat := min (sumMembers copy fun e => e.offer v) Config.maxHu

/-- H (R5). -/
def held (copy : Copy) (v : Svc) : Nat := sumMembers copy fun e => e.total v

/-- F (R5). -/
def free (copy : Copy) (v : Svc) : Int := (capacity copy v : Int) - held copy v

/-- The member count (R8). -/
def memberCount (copy : Copy) : Nat := sumMembers copy fun _ => 1

/-- The sum of the wants of all MEMBER entries (R9). -/
def sumWants (copy : Copy) (v : Svc) : Nat := sumMembers copy fun e => e.want v

/-- In the active set of the service (R6). -/
def Entry.active (v : Svc) (e : Entry) : Bool := e.isMember && (e.total v != 0 || e.want v != 0)

/-- W, the weights of the active set (R6). -/
def activeWeight (copy : Copy) (v : Svc) : Nat := sumMembers copy fun e => if e.active v then e.weight else 0

/-- fair_s, computed with s counted as active (R7). -/
def fairShare (copy : Copy) (v : Svc) (s : Stn) : Nat :=
  let w := (copy[s]).weight
  capacity copy v * w / (if (copy[s]).active v then activeWeight copy v else activeWeight copy v + w)

/-- Some MEMBER entry other than s has a nonzero want (R14, R29). -/
def othersWant (copy : Copy) (v : Svc) (s : Stn) : Bool :=
  stations.any fun n => n != s && (copy[n]).isMember && (copy[n]).want v != 0

/-- Σ_k, the sum of the class-k holdings of all MEMBER entries (R27). -/
def sumClassHeld (copy : Copy) (v : Svc) (k : Cls) : Nat := sumMembers copy fun e => e.holding v k

/-- S_k: the part of a shortage that each class bears, classes 3 to 0 in that order (R27). -/
def shortageParts (copy : Copy) (v : Svc) : Per4 Nat :=
  let r3 := (- free copy v).toNat
  let s3 := min r3 (sumClassHeld copy v .c3)
  let s2 := min (r3 - s3) (sumClassHeld copy v .c2)
  let s1 := min (r3 - s3 - s2) (sumClassHeld copy v .c1)
  let s0 := min (r3 - s3 - s2 - s1) (sumClassHeld copy v .c0)
  ⟨s0, s1, s2, s3⟩

/-- The class-k shortage duty of a station; 0 for a VACANT entry and when Σ_k is 0 (R27). -/
def shortageDuty (copy : Copy) (v : Svc) (s : Stn) (k : Cls) : Nat :=
  if (copy[s]).isMember then ceilDiv ((shortageParts copy v).get k * (copy[s]).holding v k) (sumClassHeld copy v k)
  else 0

/-- X_s, the reclaim amount (R29). -/
def reclaimAmount (copy : Copy) (v : Svc) (s : Stn) : Nat :=
  if (copy[s]).isMember && othersWant copy v s then (copy[s]).total v - fairShare copy v s else 0

/-- The reclaim duties of a station by class (R30). -/
def reclaimDuties (copy : Copy) (v : Svc) (s : Stn) : Per4 Nat :=
  let x := reclaimAmount copy v s
  let d3 := min x ((copy[s]).holding v .c3)
  let d2 := min (x - d3) ((copy[s]).holding v .c2)
  let d1 := min (x - d3 - d2) ((copy[s]).holding v .c1)
  ⟨0, d1, d2, d3⟩

/-- The five conditions of an accepted TAKE, tested on the copy before the frame (R14). -/
def takeAccepted (copy : Copy) (quorum : Nat) (s : Stn) (v : Svc) (n : Nat) : Bool :=
  (copy[s]).isMember && 1 ≤ n && (n : Int) ≤ free copy v && quorum ≤ memberCount copy
    && ((copy[s]).total v + n ≤ fairShare copy v s || !othersWant copy v s)

/-- Whether a landed OFFER is applied: forced, not a decrease, or a voluntary decrease that leaves C′ − H at 0 or more
(R17, R18). -/
def offerAccepted (copy : Copy) (s : Stn) (v : Svc) (forced : Bool) (n : Nat) : Bool :=
  (copy[s]).isMember
    && (forced || (copy[s]).offer v ≤ n
      || 0 ≤ (capacity (copy.set s ((copy[s]).setOffer v n)) v : Int) - held copy v)

/-- A receiver in SYNCING or JOINING creates an entry by KEEP (R20). -/
def Station.admits : Station → Bool
  | .syncing => true
  | .joining => true
  | .start => false
  | .inert => false
  | .member => false
  | .orphan => false
  | .halted _ => false

/-- A receiver in MEMBER or ORPHAN disowns (R26). -/
def Station.disowns : Station → Bool
  | .member => true
  | .orphan => true
  | .start => false
  | .inert => false
  | .syncing => false
  | .joining => false
  | .halted _ => false

def Account.shares (a : Account) : Shares :=
  { holdings := a.holdings.map BitVec.toNat, want := a.want.toNat, offer := a.offer.toNat }

/-- What each kind does to the copy, all tests on the copy before the frame (R14 to R22). -/
def applyBody (recv : Station) (quorum : Nat) (copy : Copy) (s : Stn) (b : Body) : Copy :=
  let e := copy[s]
  match b with
  | .take v k n =>
    if takeAccepted copy quorum s v n.toNat then copy.set s (e.setHolding v k (e.holding v k + n.toNat)) else copy
  | .give v k n => if e.isMember then copy.set s (e.setHolding v k (e.holding v k - n.toNat)) else copy
  | .want v n => if e.isMember then copy.set s (e.setWant v n.toNat) else copy
  | .offer v forced n => if offerAccepted copy s v forced n.toNat then copy.set s (e.setOffer v n.toNat) else copy
  | .keep w p hw st =>
    if e.isMember || recv.admits then
      copy.set s
        { e with state := .member, weight := w.toNat, profile := p, shares := ⟨Account.shares hw, Account.shares st⟩ }
    else copy
  | .hail w p =>
    copy.set s { e with state := .member, weight := w.toNat, profile := p, shares := Per2.both Shares.zero }
  | .lapse target q =>
    if (copy[target]).isMember && (copy[target]).lastSeq == q then copy.set target Entry.blank else copy

/-- A sender that is MEMBER after the frame has its sequence recorded (R13). -/
def recordSeq (copy : Copy) (s : Stn) (seq : BitVec 8) : Copy :=
  if (copy[s]).isMember then copy.set s { copy[s] with lastSeq := seq } else copy

/-- The copy after a landed frame (R12 steps 3 and 4). -/
def applyFrame (recv : Station) (quorum : Nat) (copy : Copy) (f : Frame) : Copy :=
  recordSeq (applyBody recv quorum copy f.sender f.body) f.sender f.seq

/-- A kind whose sender is disowned when its entry was VACANT (R26). -/
def Body.disownable : Body → Bool
  | .take _ _ _ => true
  | .give _ _ _ => true
  | .want _ _ => true
  | .offer _ _ _ => true
  | .keep _ _ _ _ => true
  | .hail _ _ => false
  | .lapse _ _ => false

/-- Insert or replace a pair, the list rising by target number (R62, R63). -/
def addCandidate (target : Stn) (seq : BitVec 8) : List (Stn × BitVec 8) → List (Stn × BitVec 8)
  | [] => [(target, seq)]
  | p :: rest =>
    if p.1 < target then p :: addCandidate target seq rest
    else if p.1 = target then (target, seq) :: rest
    else (target, seq) :: p :: rest

def dropCandidate (target : Stn) (l : List (Stn × BitVec 8)) : List (Stn × BitVec 8) := l.filter fun p => p.1 != target

/-- The quorum of the frozen image (R8); no rule reads it before an image is loaded. -/
def State.quorum (s : State) : Nat :=
  match s.loader.image with
  | some im => im.quorum
  | none => 0

/-- A timer limit of the frozen image, in half-seconds. -/
def State.limit (s : State) (f : Image → Nat) : Nat :=
  match s.loader.image with
  | some im => 2 * f im
  | none => 0

/-- A peer heard within T_self (R65). One whose timer is stopped, as in INERT and after the end of a withdrawal, is not heard (DESIGN
CHOICE, unsafe: log 45). -/
def State.peerHeard (s : State) (n : Stn) : Bool :=
  (s.entry n).isMember
    && (if n == s.own then Timer.below (s.limit Image.tSelf) s.memb.ownLanding
        else Timer.below (s.limit Image.tSelf) s.ledger.silence[n])

/-- The heard count (R65). -/
def State.heardCount (s : State) : Nat := (stations.filter s.peerHeard).length

end Sys2Proof.Machine
end

