-- ==== Sys2Proof/Machine/Queue.lean ====
section
/-! DEFINITION. The transmit queue: its sixteen keys, placing and folding, the head, filling at an attempt's start, and the
return of a frame (R45 to R51). -/

namespace Sys2Proof.Machine

/-- The sixteen keys (R46). -/
inductive Key where
  | lapse
  | give (v : Svc) (k : Cls)
  | offer (v : Svc)
  | take (v : Svc)
  | want (v : Svc)
  | refresh
  deriving DecidableEq, Repr

/-- The keys in R46's order. -/
def keys : List Key :=
  .lapse :: (serviceClasses.map fun p => .give p.1 p.2)
    ++ [.offer .hw, .offer .st, .take .hw, .take .st, .want .hw, .want .st, .refresh]

/-- The key a frame is sent under (R46). -/
def Body.key : Body → Key
  | .lapse _ _ => .lapse
  | .give v k _ => .give v k
  | .offer v _ _ => .offer v
  | .take v _ _ => .take v
  | .want v _ => .want v
  | .hail _ _ => .refresh
  | .keep _ _ _ _ => .refresh

/-- The age of the frame waiting under a key, if one is (R45, R46). -/
def TxQueue.ageAt (q : TxQueue) : Key → Option Nat
  | .lapse => q.lapse.map WaitingLapse.age
  | .give v k => (q.give.get v k).map WaitingGive.age
  | .offer v => q.offer.get v
  | .take v => (q.take.get v).map WaitingTake.age
  | .want v => q.want.get v
  | .refresh => q.refresh.map WaitingRefresh.age

/-- The rank of what waits under a key (R34): HAIL 3 and KEEP 6 share one key. -/
def TxQueue.rankAt (q : TxQueue) : Key → Nat
  | .lapse => 0
  | .give _ _ => 1
  | .offer _ => 2
  | .take _ => 4
  | .want _ => 5
  | .refresh => if q.refresh.any WaitingRefresh.isHail then 3 else 6

def TxQueue.waitsAt (q : TxQueue) (key : Key) : Bool := (q.ageAt key).isSome

/-- Take the waiting frame of a key out of the queue. -/
def TxQueue.remove (key : Key) (q : TxQueue) : TxQueue :=
  match key with
  | .lapse => { q with lapse := none }
  | .give v k => { q with give := q.give.set v k none }
  | .offer v => { q with offer := q.offer.set v none }
  | .take v => { q with take := q.take.set v none }
  | .want v => { q with want := q.want.set v none }
  | .refresh => { q with refresh := none }

/-- First by rank, then by age (R45). -/
def TxQueue.before (q : TxQueue) (a b : Key) : Bool :=
  q.rankAt a < q.rankAt b || (q.rankAt a == q.rankAt b && (q.ageAt a).getD 0 < (q.ageAt b).getD 0)

/-- The waiting keys that no other waiting key precedes; more than one only when frames of one rank were placed together
(R45). -/
def TxQueue.heads (q : TxQueue) : List Key :=
  let waiting := keys.filter q.waitsAt
  waiting.filter fun a => waiting.all fun b => !q.before b a

/-- The key of the frame in transmission. -/
def State.txKey (s : State) : Option Key := s.liu.tx.map fun t => Body.key t.body

/-- A frame waits or is in transmission under the key. -/
def State.keyBusy (s : State) (key : Key) : Bool := s.liu.queue.waitsAt key || s.txKey == some key

/-- The amount of a GIVE frame of the key in transmission. -/
def State.txGive (s : State) (v : Svc) (k : Cls) : Nat :=
  match s.liu.tx with
  | some t =>
    match t.body with
    | .give v' k' n => if v' = v ∧ k' = k then n.toNat else 0
    | .lapse _ _ => 0
    | .offer _ _ _ => 0
    | .hail _ _ => 0
    | .take _ _ _ => 0
    | .want _ _ => 0
    | .keep _ _ _ _ => 0
  | none => 0

/-- The amount of a waiting GIVE of the key, 0 if none waits. -/
def State.queuedGive (s : State) (v : Svc) (k : Cls) : Nat :=
  match s.liu.queue.give.get v k with
  | some g => g.amount
  | none => 0

/-- w_k, the waiting GIVE amount (R46). -/
def State.waitingGive (s : State) (v : Svc) (k : Cls) : Nat := s.queuedGive v k + s.txGive v k

/-- The target and sequence of a LAPSE in transmission. -/
def State.txLapse (s : State) : Option (Stn × BitVec 8) :=
  match s.liu.tx with
  | some t =>
    match t.body with
    | .lapse target q => some (target, q)
    | .give _ _ _ => none
    | .offer _ _ _ => none
    | .hail _ _ => none
    | .take _ _ _ => none
    | .want _ _ => none
    | .keep _ _ _ _ => none
  | none => none

/-- A LAPSE naming the target waits or is in transmission. -/
def State.lapseNames (s : State) (target : Stn) : Bool :=
  s.liu.queue.lapse.any (fun l => l.target == target) || s.txLapse.any (fun p => p.1 == target)

/-- A KEEP is waiting or in transmission, or a HAIL waits that absorbs the request (R46, R60). -/
def State.refreshBusy (s : State) : Bool := s.keyBusy .refresh

/-- A GIVE of any key is waiting or in transmission (R68). -/
def State.anyGive (s : State) : Bool := serviceClasses.any fun p => s.keyBusy (.give p.1 p.2)

/-- Place a GIVE: added to a waiting one, keeping its age (R45, R46). -/
def State.placeGive (v : Svc) (k : Cls) (n : Nat) (s : State) : State :=
  s.modTxQueue fun q =>
    match q.give.get v k with
    | some g => { q with give := q.give.set v k (some { g with amount := g.amount + n }) }
    | none => { q with give := q.give.set v k (some ⟨n, s.now⟩) }

/-- Place an OFFER request; a waiting OFFER stands for it (R46). -/
def State.placeOffer (v : Svc) (s : State) : State :=
  s.modTxQueue fun q => { q with offer := q.offer.set v (some ((q.offer.get v).getD s.now)) }

/-- Place a WANT request; a waiting WANT stands for it (R46). -/
def State.placeWant (v : Svc) (s : State) : State :=
  s.modTxQueue fun q => { q with want := q.want.set v (some ((q.want.get v).getD s.now)) }

/-- Place a TAKE (R46, R81). -/
def State.placeTake (v : Svc) (k : Cls) (n : Nat) (s : State) : State :=
  s.modTxQueue fun q => { q with take := q.take.set v (some ⟨k, n, s.now⟩) }

/-- Place a KEEP request: a waiting KEEP stands for it, a waiting HAIL absorbs it (R46). -/
def State.placeKeep (s : State) : State :=
  s.modTxQueue fun q => { q with refresh := some (q.refresh.getD ⟨false, s.now⟩) }

/-- Place a HAIL request, which replaces a waiting KEEP (R46). -/
def State.placeHail (s : State) : State :=
  s.modTxQueue fun q => { q with refresh := some ⟨true, (q.refresh.map WaitingRefresh.age).getD s.now⟩ }

/-- Place a LAPSE (R49). -/
def State.placeLapse (target : Stn) (seq : BitVec 8) (s : State) : State :=
  s.modTxQueue fun q => { q with lapse := some ⟨target, seq, s.now⟩ }

/-- A number as a 12-bit field; every amount placed is at most 4095. -/
def hu12 (n : Nat) : BitVec 12 := BitVec.ofNat 12 n

/-- The service block of a KEEP, copied from an entry (R48). -/
def Shares.account (sh : Shares) : Account :=
  { holdings := sh.holdings.map hu12, want := hu12 sh.want, offer := hu12 sh.offer }

/-- The older of two ages. -/
def olderAge (a : Nat) : Option Nat → Nat
  | some b => min a b
  | none => a

/-- Fold a returning frame into the queue under its key (R47). -/
def TxQueue.putBack (b : Body) (age : Nat) (q : TxQueue) : TxQueue :=
  match b with
  | .lapse target seq => { q with lapse := some ⟨target, seq, age⟩ }
  | .give v k n =>
    match q.give.get v k with
    | some g => { q with give := q.give.set v k (some ⟨g.amount + n.toNat, min age g.age⟩) }
    | none => { q with give := q.give.set v k (some ⟨n.toNat, age⟩) }
  | .offer v _ _ => { q with offer := q.offer.set v (some (olderAge age (q.offer.get v))) }
  | .take v k n => { q with take := q.take.set v (some ⟨k, n.toNat, age⟩) }
  | .want v _ => { q with want := q.want.set v (some (olderAge age (q.want.get v))) }
  | .hail _ _ => { q with refresh := some ⟨true, olderAge age (q.refresh.map WaitingRefresh.age)⟩ }
  | .keep _ _ _ _ =>
    { q with refresh := some ⟨q.refresh.any WaitingRefresh.isHail, olderAge age (q.refresh.map WaitingRefresh.age)⟩ }

/-- The TAKE of a service is no longer outstanding (R82). -/
def State.endTake (v : Svc) (s : State) : State := s.modHold v fun h => { h with outstanding := none }

/-- A frame discarded on its return: a TAKE ends being outstanding (R47, R51). -/
def State.discardReturned (b : Body) (s : State) : State :=
  match b with
  | .take v _ _ => s.endTake v
  | .lapse _ _ => s
  | .give _ _ _ => s
  | .offer _ _ _ => s
  | .hail _ _ => s
  | .want _ _ => s
  | .keep _ _ _ _ => s

/-- The frame in transmission returns to the queue, or is discarded (R47). -/
def State.returnFrame (s : State) : State :=
  match s.liu.tx with
  | some t =>
    let s := s.modLiu fun l => { l with tx := none }
    if t.discarded then s.discardReturned t.body else s.modTxQueue (TxQueue.putBack t.body t.age)
  | none => s

/-- Which waiting kinds a state keeps when it is entered (R51). -/
inductive Prune where
  | orphan
  | halted
  | all
  deriving DecidableEq, Repr

/-- The kind is discarded (R51). -/
def Prune.discards (p : Prune) : Body → Bool
  | .take _ _ _ => true
  | .want _ _ => true
  | .keep _ _ _ _ => true
  | .hail _ _ => p != .orphan
  | .give _ _ _ => p == .all
  | .offer _ _ _ => p == .all
  | .lapse _ _ => p == .all

/-- Discard waiting frames by kind; a frame in transmission is marked and dropped on its return. Every waiting TAKE ends
being outstanding (R51). -/
def State.prune (p : Prune) (s : State) : State :=
  let s := forEach services (fun v t => if (t.liu.queue.take.get v).isSome then t.endTake v else t) s
  let s := s.modLiu fun l =>
    { l with tx := l.tx.map fun t => { t with discarded := t.discarded || p.discards t.body } }
  s.modTxQueue fun q =>
    match p with
    | .all => TxQueue.empty
    | .orphan =>
      { q with take := Per2.both none, want := Per2.both none, refresh := q.refresh.filter WaitingRefresh.isHail }
    | .halted => { q with take := Per2.both none, want := Per2.both none, refresh := none }

end Sys2Proof.Machine
end

