-- ==== Sys2Proof/Machine/Derive.lean ====
section
/-! DEFINITION. The quantities the blocks derive and do not hold: bands, demand, target, unmet amount, headroom and unmet
total (chapter 4), the guarded set (chapter 7), rooms (chapter 6), the intended offer and the two stage conditions
(chapter 9). -/

namespace Sys2Proof.Machine

/-- At least one field channel of the image is an OUTLET of the service and class (R77). -/
def Image.hasOutlet (im : Image) (v : Svc) (k : Cls) : Bool :=
  channels.any fun ch =>
    match im.channels[ch] with
    | .outlet c => c.svc == v && c.cls == k
    | .stage _ => false
    | .unused => false

/-- E_0 to E_3 (R77). -/
def Image.effectiveBounds (im : Image) (v : Svc) : Per4 Nat :=
  let b := (im.services.get v).bounds
  let e0 := if Image.hasOutlet im v .c0 then b.c0 else 0
  let e1 := if Image.hasOutlet im v .c1 then b.c1 else e0
  let e2 := if Image.hasOutlet im v .c2 then b.c2 else e1
  let e3 := if Image.hasOutlet im v .c3 then b.c3 else e2
  ⟨e0, e1, e2, e3⟩

/-- L_0 to L_3 from E_0 to E_3 (R77). -/
def bandLimits (e : Per4 Nat) : Per4 Nat := ⟨e.c0, e.c1 - e.c0, e.c2 - e.c1, e.c3 - e.c2⟩

/-- A setting of a service block of the frozen image; 0 before an image is loaded, when no rule reads it. -/
def State.svcSetting (s : State) (v : Svc) (f : ServiceCfg → Nat) : Nat :=
  match s.loader.image with
  | some im => f (im.services.get v)
  | none => 0

/-- An outlet in OFF is disabled; one in FAULT counts in no demand (5.2). -/
def OutletState.counts : OutletState → Bool
  | .off => false
  | .fault => false
  | .idle => true
  | .active => true
  | .standby => true
  | .waiting => true
  | .running => true
  | .suspended => true

/-- D_k, the sum of the desired draws of the outlets that are enabled and not in FAULT (R78). -/
def State.demand (s : State) (v : Svc) (k : Cls) : Nat :=
  s.sumClass v k fun o => if o.state.counts then o.desired else 0

/-- h_k, the own class-k holding in the own copy (R79). -/
def State.ownHolding (s : State) (v : Svc) (k : Cls) : Nat := s.ownEntry.holding v k

/-- T_k = min(D_k, L_k) (R79). -/
def State.target (s : State) (v : Svc) (k : Cls) : Nat := min (s.demand v k) (s.classHold v k).bandLimit

/-- The amount of the outstanding TAKE of the service, 0 if none (R83). -/
def State.outstandingAmount (s : State) (v : Svc) : Nat :=
  match (s.hold.get v).outstanding with
  | some p => p.2
  | none => 0

/-- t_k: the amount of the outstanding TAKE when its class is k (R79). -/
def State.takenFor (s : State) (v : Svc) (k : Cls) : Nat :=
  match (s.hold.get v).outstanding with
  | some p => if p.1 = k then p.2 else 0
  | none => 0

/-- u_k (R79). -/
def State.unmet (s : State) (v : Svc) (k : Cls) : Nat := s.target v k - s.ownHolding v k - s.takenFor v k

/-- The headroom (R80). -/
def State.headroom (s : State) (v : Svc) : Nat :=
  let c := s.ledger.copy
  if memberCount c < s.quorum then 0
  else if othersWant c v s.own then
    (min (free c v) ((fairShare c v s.own : Int) - s.ownEntry.total v)).toNat
  else (free c v).toNat

/-- U, the unmet total (R83). -/
def State.unmetTotal (s : State) (v : Svc) : Nat :=
  (classes.map (s.unmet v)).sum - (s.headroom v - s.outstandingAmount v)

/-- The amount a WANT carries: U while the mark is SET, 0 while it is CLEAR (R84). -/
def State.wantAmount (s : State) (v : Svc) : Nat := if (s.hold.get v).wantMark then s.unmetTotal v else 0

/-- In the range the guard's count and side fix (R154). -/
def Guard.inRange (g : Guard) (ch : Chan) : Bool :=
  match g.side with
  | .top => 16 - g.count ≤ ch.val
  | .bottom => ch.val < g.count

/-- The guard covers the channel (R154, R155). -/
def Guard.covers (g : Guard) (ch : Chan) : Bool :=
  match g.mode with
  | .range => Guard.inRange g ch != g.complement
  | .each => g.flags.getLsbD ch.val

/-- The outlet is guarded: OUTLET channels alone (R156). -/
def State.guarded (s : State) (ch : Chan) : Bool := (s.outletCfg? ch).isSome && Guard.covers s.app.guard ch

/-- G_k, the guarded grant total (R90, R156). -/
def State.guardedTotal (s : State) (v : Svc) (k : Cls) : Nat :=
  ((s.classChannels v k).map fun ch => if s.guarded ch then (s.outlet ch).grant else 0).sum

/-- a_k: what the class can give while the guard holds (R90). -/
def State.giveable (s : State) (v : Svc) (k : Cls) : Nat := s.ownHolding v k - s.guardedTotal v k

/-- r^K, the keep room (R125). -/
def State.keepRoom (s : State) (v : Svc) (k : Cls) : Int := ((s.classHold v k).keep : Int) - s.sumGrants v k

/-- r^H, the holding room (R125). -/
def State.holdingRoom (s : State) (v : Svc) (k : Cls) : Int :=
  (s.ownHolding v k : Int) - s.waitingGive v k - s.sumBounds v k

/-- The amount by which the class is over its keep (R146, R159). -/
def State.overKeep (s : State) (v : Svc) (k : Cls) : Nat := s.sumGrants v k - (s.classHold v k).keep

/-- A grant may be raised from g to g′, past the peak p, when both tests hold (R125). -/
def raiseAllowed (keepRoom holdingRoom : Int) (g p g' : Nat) : Bool :=
  (g' : Int) - g ≤ keepRoom && max 0 ((g' : Int) - p) ≤ holdingRoom

/-- A stage of the service (R174). -/
def State.stageOf (s : State) (v : Svc) (ch : Chan) : Bool := (s.stageCfg? ch).any fun c => c.svc == v

def State.stageRating (s : State) (ch : Chan) : Nat :=
  match s.stageCfg? ch with
  | some c => c.rating
  | none => 0

/-- The stages of the service. -/
def State.stagesOf (s : State) (v : Svc) : List Chan := channels.filter (s.stageOf v)

/-- READY and not leaving (R179). -/
def Stage.delivers (g : Stage) : Bool := g.state == .ready && !g.leaving

/-- The intended offer (R179). -/
def State.intendedOffer (s : State) (v : Svc) : Nat :=
  min (((s.stagesOf v).filter fun ch => (s.stage ch).delivers).map s.stageRating).sum Config.maxHu

/-- The own offer in the own copy (R180). -/
def State.ownOffer (s : State) (v : Svc) : Nat := s.ownEntry.offer v

/-- The stages of the service whose leaving mark is set: the covered set of an attempt (R181). -/
def State.leavingStages (s : State) (v : Svc) : List Chan := (s.stagesOf v).filter fun ch => (s.stage ch).leaving

/-- Earlier in call order: lower call order, or equal and lower channel number (R174). -/
def State.callsBefore (s : State) (a b : Chan) : Bool :=
  match s.stageCfg? a, s.stageCfg? b with
  | some x, some y => x.callOrder < y.callOrder || (x.callOrder == y.callOrder && a.val < b.val)
  | some _, none => false
  | none, some _ => false
  | none, none => false

def State.stageModeIs (s : State) (m : StageMode) (ch : Chan) : Bool := (s.stageCfg? ch).any fun c => c.mode == m

/-- DOWN with its trip input deasserted (R182, R183). -/
def State.callable (s : State) (ch : Chan) : Bool := (s.stage ch).state == .down && !s.pins.trip[ch]

/-- The AUTO stage to call: the earliest in call order that may be called (R182). -/
def State.callCandidate (s : State) (v : Svc) : Option Chan :=
  let l := (s.stagesOf v).filter fun ch => s.stageModeIs .auto ch && s.callable ch
  l.find? fun a => l.all fun b => !s.callsBefore b a

/-- The drop candidate: the READY AUTO stage latest in call order (R184). -/
def State.dropCandidate (s : State) (v : Svc) : Option Chan :=
  let l := (s.stagesOf v).filter fun ch => s.stageModeIs .auto ch && (s.stage ch).state == .ready
  l.find? fun a => l.all fun b => !s.callsBefore a b

/-- The call condition (R182). -/
def State.callCondition (s : State) (v : Svc) : Bool :=
  free s.ledger.copy v < (sumWants s.ledger.copy v : Int)
    && (s.stagesOf v).all (fun ch => (s.stage ch).state != .called)
    && s.intendedOffer v ≤ s.ownOffer v

/-- The drop condition (R184). -/
def State.dropCondition (s : State) (v : Svc) : Bool :=
  match s.dropCandidate v with
  | some ch =>
    (s.leavingStages v).isEmpty && s.intendedOffer v == s.ownOffer v
      && (s.svcSetting v ServiceCfg.dropMargin : Int) ≤ free s.ledger.copy v - s.stageRating ch
      && sumWants s.ledger.copy v == 0
  | none => false

end Sys2Proof.Machine
end

