-- ==== Sys2Proof/Machine/Flags.lean ====
section
/-! DEFINITION. The station flags, the counters and the ALERT output of the Fault and Report Unit (R193 to R196). -/

namespace Sys2Proof.Machine

/-- The nine station flags, numbered as R193 numbers them. -/
inductive Flag where
  | lineFault
  | joinRefused
  | profileMismatch
  | settingsInvalid
  | orphaned
  | shedShort
  | reclaimLate
  | stageFault
  | outletFault
  deriving DecidableEq, Repr

def Flag.number : Flag → Nat
  | .lineFault => 0
  | .joinRefused => 1
  | .profileMismatch => 2
  | .settingsInvalid => 3
  | .orphaned => 4
  | .shedShort => 5
  | .reclaimLate => 6
  | .stageFault => 7
  | .outletFault => 8

/-- The mask that names one flag: bit n for flag number n (R203). -/
def Flag.bit (f : Flag) : BitVec 9 := 1#9 <<< f.number

/-- Setting a flag that is already set leaves it set (R193). -/
def State.setFlag (f : Flag) (s : State) : State := s.modFru fun u => { u with flags := u.flags ||| f.bit }

/-- CLEAR-FLAGS: every flag named becomes clear, the others keep their values (R194). -/
def State.clearFlagMask (mask : BitVec 9) (s : State) : State :=
  s.modFru fun u => { u with flags := u.flags &&& ~~~mask }

def State.flagSet (s : State) (f : Flag) : Bool := s.fru.flags &&& f.bit != 0

/-- ALERT is asserted while at least one flag that the mask names is set (R196). -/
def State.alert (s : State) : Bool := s.fru.flags &&& s.fru.alertMask != 0

def State.modCounters (f : Counters → Counters) (s : State) : State :=
  s.modFru fun u => { u with counters := f u.counters }

/-- "frames landed": any frame lands, own or another station's (R195). -/
def State.countFrameLanded (s : State) : State :=
  s.modCounters fun c => { c with framesLanded := countUp c.framesLanded }

/-- "attempts failed" (R195). -/
def State.countAttemptFailed (s : State) : State :=
  s.modCounters fun c => { c with attemptsFailed := countUp c.attemptsFailed }

/-- "TAKE-REFUSED" (R82, R195). -/
def State.countTakeRefused (s : State) : State :=
  s.modCounters fun c => { c with takeRefused := countUp c.takeRefused }

/-- "PULSE-MISSED" (R111, R195). -/
def State.countPulseMissed (s : State) : State :=
  s.modCounters fun c => { c with pulseMissed := countUp c.pulseMissed }

/-- "runs spoilt" (R168, R195). -/
def State.countRunSpoilt (s : State) : State :=
  s.modCounters fun c => { c with runsSpoilt := countUp c.runsSpoilt }

/-- "deferrals" (R129, R195). -/
def State.countDeferral (s : State) : State :=
  s.modCounters fun c => { c with deferrals := countUp c.deferrals }

/-- "outlet faults" (R189, R195). -/
def State.countOutletFault (s : State) : State :=
  s.modCounters fun c => { c with outletFaults := countUp c.outletFaults }

/-- Nine bits of a two-byte flag mask (R203). -/
def lowFlags (mask : BitVec 16) : BitVec 9 := mask.setWidth 9

/-- A mask that names a flag number above 8 (R194). -/
def namesUnknownFlag (mask : BitVec 16) : Bool := mask >>> 9 != 0

end Sys2Proof.Machine
end

