-- ==== Sys2Proof/Machine/Grants.lean ====
section
/-! DEFINITION. Every change of a grant and what follows it in the same event: peak, draw command, stroke, settling, raise
and start orders, wait queues, service passes, keep cuts and zero-all (chapters 6 and 7, R161 to R170). -/

namespace Sys2Proof.Machine

/-- A fall of a grant or a bound makes a service pass due over the outlet's queue (R124). -/
def State.markPassOf (ch : Chan) (s : State) : State :=
  match s.outletCfg? ch with
  | some c => s.markPass c.svc c.cls
  | none => s

def dropChan (ch : Chan) (l : List Chan) : List Chan := l.filter fun c => c != ch

/-- A run leaves the start order (R149). -/
def State.leaveStartOrder (ch : Chan) (s : State) : State :=
  match s.outletCfg? ch with
  | some c => s.modStartOrder c.svc c.cls (dropChan ch)
  | none => s

/-- A run first made RUNNING enters the start order at its end (R149). -/
def State.enterStartOrder (ch : Chan) (s : State) : State :=
  match s.outletCfg? ch with
  | some c => s.modStartOrder c.svc c.cls fun l => dropChan ch l ++ [ch]
  | none => s

/-- A run begins: its full time to run, WAITING, the repeat taken (R162). -/
def Outlet.beginRun (b : BatchCfg) (o : Outlet) : Outlet :=
  { o with state := .waiting, runRemaining := 2 * b.runLength, suspension := none, repeatFlag := false }

/-- What a settling does to the valve's own record: SETTLED, stroke timer stopped, overrun clear, peak and bound at the
grant (R132, R137). -/
def Outlet.settleRecord (o : Outlet) : Outlet :=
  { o with moving := false, stroke := none, overrun := false, peak := o.grant }

/-- What a settling does to a pulse (R109, R110). -/
def Outlet.settlePulse (m : ModulatingCfg) (o : Outlet) : Outlet :=
  match o.pulsePhase with
  | .opening => if o.grant = m.pulseDraw then { o with pulsePhase := .held, pulseLength := some 0 } else o
  | .closing => if o.grant = 0 then { o with pulsePhase := .none } else o
  | .none => o
  | .requested => o
  | .held => o

/-- What the settling that ends a run does (R170). -/
def Outlet.settleRun (b : BatchCfg) (o : Outlet) : Outlet :=
  if o.state = .idle ∧ o.endOfRun then
    let o := { o with endOfRun := false }
    if o.disablePending then { o with state := .off, disablePending := false, repeatFlag := false }
    else if o.repeatFlag then o.beginRun b
    else o
  else o

/-- What a settling does to the outlet's state (R137). -/
def OutletCfg.settleState (c : OutletCfg) (o : Outlet) : Outlet :=
  match c.kind with
  | .modulating _ m => o.settlePulse m
  | .batch _ b => o.settleRun b
  | .monitor _ => o

/-- The valve of an outlet settles (R137). A fall of its bound makes a pass due. -/
def State.settleValve (ch : Chan) (s : State) : State :=
  match s.outletCfg? ch with
  | some c =>
    let fell := (s.outlet ch).grant < (s.outlet ch).peak
    let s := s.modOutlet ch fun o => OutletCfg.settleState c o.settleRecord
    if fell then s.markPass c.svc c.cls else s
  | none => s

/-- The draw command of a grant (R133). -/
def drawCommand (rated grant : Nat) : Nat := ceilDiv (100 * grant) rated

/-- A grant change on a valve: peak, command, stroke, deasserted mark, drift timer (R132 to R135, R139). Where one event lowers a
grant and raises it again, each of the two is a change of command, also when the event ends with the command it began with
(DESIGN CHOICE, unsafe: log 42). -/
def Outlet.strokeTo (rated : Nat) (inPosition : Bool) (g : Nat) (o : Outlet) : Outlet :=
  { o with
    grant := g
    peak := max o.peak g
    command := drawCommand rated g
    moving := true
    stroke := some 0
    drift := none
    seenDeasserted := if drawCommand rated g = o.command then o.seenDeasserted else !inPosition }

/-- A MONITOR settles at each grant in the event that sets it (R113, R132). -/
def Outlet.reserve (g : Nat) (o : Outlet) : Outlet := { o with grant := g, peak := g }

/-- The raise order after a change of grant from g to g′ under ROTATING (R131). -/
def raiseOrderAfter (ch : Chan) (g g' : Nat) (l : List Chan) : List Chan :=
  if g' = 0 then dropChan ch l else if g < g' then dropChan ch l ++ [ch] else l

/-- Set an outlet's grant: the one operation by which every grant changes. Setting the grant that stands changes
nothing. -/
def State.setGrant (ch : Chan) (g : Nat) (s : State) : State :=
  match s.outletCfg? ch with
  | some c =>
    let old := (s.outlet ch).grant
    if old = g then s
    else
      let s := if s.rotating then s.modRaiseOrder c.svc c.cls (raiseOrderAfter ch old g) else s
      let s := if g < old then s.markPass c.svc c.cls else s
      match c.valve? with
      | some valve =>
        let s := s.modOutlet ch (Outlet.strokeTo valve.ratedDraw s.pins.inPosition[ch] g)
        if valve.feedback && (s.outlet ch).seenDeasserted && s.pins.inPosition[ch] then s.settleValve ch else s
      | none => s.modOutlet ch (Outlet.reserve g)
  | none => s

/-- Enabled, not in FAULT, and its desired draw exceeds its grant (R122). -/
def Outlet.queues (o : Outlet) : Bool := o.state.counts && o.grant < o.desired

/-- The members of a queue after an event (R122, R123). Several that join a ROTATING queue together but for suspended runs
do so in ascending channel number (log 10). -/
def State.requeued (s : State) (v : Svc) (k : Cls) : List Chan :=
  let eligible := (s.classChannels v k).filter fun ch => (s.outlet ch).queues
  if s.rotating then
    let old := (s.queue v k).members.filter fun ch => eligible.contains ch
    let fresh := eligible.filter fun ch => !(s.queue v k).members.contains ch
    (fresh.filter fun ch => (s.outlet ch).state == .suspended) ++ old
      ++ (fresh.filter fun ch => (s.outlet ch).state != .suspended)
  else eligible

/-- Join and leave the queue of a class; a join makes a pass due, a blocker that leaves is none (R122, R124, R129). -/
def State.requeue (v : Svc) (k : Cls) (s : State) : State :=
  let members := s.requeued v k
  let joined := members.any fun ch => !(s.queue v k).members.contains ch
  let s := s.modQueue v k fun q =>
    if q.blocker.any fun b => !members.contains b then ⟨members, none, none⟩ else { q with members := members }
  if joined then s.markPass v k else s

def State.requeueAll (s : State) : State := forEach serviceClasses (fun p => State.requeue p.1 p.2) s

/-- Leave the wait queue at once (R116, R118, R168). -/
def State.leaveQueue (ch : Chan) (s : State) : State :=
  match s.outletCfg? ch with
  | some c => s.modQueue c.svc c.cls fun q =>
      if q.blocker = some ch then ⟨dropChan ch q.members, none, none⟩ else { q with members := dropChan ch q.members }
  | none => s

/-- A pulse cut in OPENING or HELD: missed and closing (R111). -/
def State.cutPulse (ch : Chan) (s : State) : State :=
  ((s.modOutlet ch fun o => { o with pulsePhase := .closing, pulseLength := none, desired := 0 }).setGrant ch 0).countPulseMissed

/-- A run given up: no time left to run, every mark of it clear, the outlet in the state given (R117, R118, R166). -/
def Outlet.discardRun (st : OutletState) (o : Outlet) : Outlet :=
  { o with state := st, desired := 0, runRemaining := 0, suspension := none, repeatFlag := false,
           disablePending := false, endOfRun := false }

/-- A RUNNING run cut to 0 is suspended (R165), or given up when a disable is pending (R166). -/
def State.suspendRun (ch : Chan) (s : State) : State :=
  if (s.outlet ch).disablePending then
    ((s.modOutlet ch (Outlet.discardRun .off)).setGrant ch 0).leaveStartOrder ch
  else (s.modOutlet ch fun o => { o with state := .suspended, suspension := some 0 }).setGrant ch 0

/-- Reverse service order within a class (R147). -/
def State.reverseOrder (s : State) (v : Svc) (k : Cls) : List Chan :=
  if s.rotating then (s.app.raiseOrder.get v k).reverse else (s.classChannels v k).reverse

/-- Eligible for a keep cut: a grant above 0, and not guarded if the cut is a duty cut (R147). -/
def State.eligible (s : State) (v : Svc) (k : Cls) (ch : Chan) : Bool :=
  0 < (s.outlet ch).grant && !((s.classHold v k).dutyMark && s.guarded ch)

/-- Over its keep (R146). -/
def State.isOver (s : State) (v : Svc) (k : Cls) : Bool := (s.classHold v k).keep < s.sumGrants v k

/-- The least a trim lowers an outlet to: its min draw for a MODULATING outlet, 0 for a MONITOR (R148). -/
def OutletCfg.trimFloor (c : OutletCfg) : Nat :=
  match c.kind with
  | .modulating _ m => m.minDraw
  | .batch _ _ => 0
  | .monitor _ => 0

/-- An outlet step 2 takes: MODULATING in ACTIVE, or MONITOR (R148). -/
def State.trimmable (s : State) (ch : Chan) : Bool :=
  match s.outletCfg? ch with
  | some c =>
    match c.kind with
    | .modulating _ _ => (s.outlet ch).state == .active
    | .batch _ _ => false
    | .monitor _ => true
  | none => false

/-- Step 1 for one outlet: a pulse in OPENING or HELD (R147). -/
def cutPulseStep (v : Svc) (k : Cls) (ch : Chan) (s : State) : State :=
  if s.isOver v k && s.eligible v k ch
      && ((s.outlet ch).pulsePhase == .opening || (s.outlet ch).pulsePhase == .held) then s.cutPulse ch
  else s

/-- The trim sweep for one outlet (R148). -/
def trimStep (v : Svc) (k : Cls) (ch : Chan) (s : State) : State :=
  match s.outletCfg? ch with
  | some c =>
    if s.isOver v k && s.eligible v k ch && s.trimmable ch then
      let g := (s.outlet ch).grant
      s.setGrant ch (min g (max (OutletCfg.trimFloor c) (g - s.overKeep v k)))
    else s
  | none => s

/-- The close sweep for one outlet (R148). -/
def closeStep (v : Svc) (k : Cls) (ch : Chan) (s : State) : State :=
  if s.isOver v k && s.eligible v k ch && s.trimmable ch then s.setGrant ch 0 else s

/-- Step 3 for one outlet: a RUNNING run (R150). -/
def cutRunStep (v : Svc) (k : Cls) (ch : Chan) (s : State) : State :=
  if s.isOver v k && s.eligible v k ch && (s.outlet ch).state == .running then s.suspendRun ch else s

/-- The keep cut of a class (R146 to R150), and the queue changes it makes (R151). -/
def State.keepCut (v : Svc) (k : Cls) (s : State) : State :=
  let s := forEach (s.reverseOrder v k) (cutPulseStep v k) s
  let order := s.reverseOrder v k
  let s := forEach order (trimStep v k) s
  let s := forEach order (closeStep v k) s
  let s := forEach (s.app.startOrder.get v k).reverse (cutRunStep v k) s
  s.requeue v k

/-- What zero-all does to one outlet (R112, R152). -/
def zeroOutlet (ch : Chan) (s : State) : State :=
  let o := s.outlet ch
  match o.pulsePhase with
  | .opening => s.cutPulse ch
  | .held => s.cutPulse ch
  | .requested => (s.modOutlet ch fun o => { o with pulsePhase := .none, desired := 0 }).setGrant ch 0
  | .none => if o.state = .running then s.suspendRun ch else s.setGrant ch 0
  | .closing => if o.state = .running then s.suspendRun ch else s.setGrant ch 0

/-- Every blocker none, every block timer stopped, the raise orders empty (R129, R131, R143, R152; R172 has the blockers kept,
log 34). -/
def Apportioner.leaveMember (a : Apportioner) : Apportioner :=
  { a with
    queues := a.queues.map fun p => p.map fun q => { q with blocker := none, blockTimer := none }
    raiseOrder := Per8.all [] }

/-- Zero-all: every grant 0, the guard ignored (R152). -/
def State.zeroAll (s : State) : State := ((forEach channels zeroOutlet s).requeueAll).modApp Apportioner.leaveMember

/-- The request of a queue member (R126, R127). -/
inductive Request where
  | partly (minimum : Nat)
  | whole (batch : Bool)
  | nothing
  deriving DecidableEq, Repr

/-- How a member is raised: MODULATING in ACTIVE and MONITOR partly, BATCH and pulse requests whole (R126, R127). -/
def State.request (s : State) (ch : Chan) : Request :=
  let o := s.outlet ch
  match s.outletCfg? ch with
  | some c =>
    match c.kind with
    | .modulating _ m =>
      match o.state with
      | .active => .partly (if o.grant = 0 then m.minDraw else 0)
      | .standby => if o.pulsePhase = .requested then .whole false else .nothing
      | .off => .nothing
      | .idle => .nothing
      | .waiting => .nothing
      | .running => .nothing
      | .suspended => .nothing
      | .fault => .nothing
    | .batch _ _ => if o.state = .waiting ∨ o.state = .suspended then .whole true else .nothing
    | .monitor _ => .partly 0
  | none => .nothing

/-- g′: the largest grant the tests allow (R126); nothing when a room is negative (R125). -/
def largestRaise (keepRoom holdingRoom : Int) (o : Outlet) : Nat :=
  if keepRoom < 0 ∨ holdingRoom < 0 then o.grant
  else (min (o.desired : Int) (min (o.grant + keepRoom) (o.peak + holdingRoom))).toNat

/-- A whole raise: a run becomes RUNNING, a pulse OPENING (R109, R127, R163, R167). -/
def State.raiseWhole (ch : Chan) (s : State) : State :=
  let o := s.outlet ch
  let s :=
    match o.state with
    | .waiting => (s.modOutlet ch fun o => { o with state := .running }).enterStartOrder ch
    | .suspended => s.modOutlet ch fun o => { o with state := .running, suspension := none }
    | .standby => s.modOutlet ch fun o => { o with pulsePhase := .opening }
    | .off => s
    | .idle => s
    | .active => s
    | .running => s
    | .fault => s
  s.setGrant ch o.desired

/-- After a raise the member leaves its queue, or moves to the tail under ROTATING (R122, R128). -/
def State.replace (v : Svc) (k : Cls) (ch : Chan) (s : State) : State :=
  if (s.outlet ch).queues then
    if s.rotating then s.modQueue v k fun q => { q with members := dropChan ch q.members ++ [ch] } else s
  else s.modQueue v k fun q => { q with members := dropChan ch q.members }

/-- One member of a service pass; the second component is the batch request the pass has stopped at (R128). -/
def passMember (v : Svc) (k : Cls) (st : State × Option Chan) (ch : Chan) : State × Option Chan :=
  match st.2 with
  | some _ => st
  | none =>
    let s := st.1
    let o := s.outlet ch
    match s.request ch with
    | .partly least =>
      let g := largestRaise (s.keepRoom v k) (s.holdingRoom v k) o
      if o.grant < g ∧ least ≤ g then ((s.setGrant ch g).replace v k ch, none) else (s, none)
    | .whole batch =>
      if raiseAllowed (s.keepRoom v k) (s.holdingRoom v k) o.grant o.peak o.desired then
        ((s.raiseWhole ch).replace v k ch, none)
      else if batch && s.rotating then (s, some ch) else (s, none)
    | .nothing => (s, none)

/-- The blocker after a pass (R129). -/
def WaitQueue.afterPass (stop : Option Chan) (q : WaitQueue) : WaitQueue :=
  match stop with
  | some b => if q.blocker = some b then q else { q with blocker := some b, blockTimer := some 0 }
  | none => { q with blocker := none, blockTimer := none }

/-- A service pass over one queue (R128, R129). -/
def State.servicePass (v : Svc) (k : Cls) (s : State) : State :=
  let r := (s.queue v k).members.foldl (passMember v k) (s, none)
  r.1.modQueue v k (WaitQueue.afterPass r.2)

end Sys2Proof.Machine
end

