-- ==== Sys2Proof/Machine/Outlets.lean ====
section
/-! DEFINITION. The outlet records between their events: demand level, group activity, desired draw, and the lowering of a
grant to it; the entries into each state (chapter 5). -/

namespace Sys2Proof.Machine

/-- A MODULATING outlet on its demand level: IDLE and STANDBY to ACTIVE, ACTIVE to IDLE (R102, R106). -/
def Outlet.followLevel (o : Outlet) : Outlet :=
  match o.state with
  | .idle => if o.level = 0 then o else { o with state := .active, idleTimer := .stopped }
  | .active => if o.level = 0 then { o with state := .idle, idleTimer := .running 0 } else o
  | .standby =>
    if o.level = 0 then o
    else { o with state := .active, idleTimer := .stopped, pulsePhase := .none, pulseTimer := none, pulseLength := none }
  | .off => o
  | .waiting => o
  | .running => o
  | .suspended => o
  | .fault => o

/-- Leave STANDBY for IDLE: the pulse timers stop and the pulse is abandoned (R106). -/
def Outlet.wake (t : IdleTimer) (o : Outlet) : Outlet :=
  { o with state := .idle, idleTimer := t, pulsePhase := .none, pulseTimer := none, pulseLength := none }

/-- In use for its group (R105). -/
def OutletCfg.inUse (c : OutletCfg) (o : Outlet) : Bool :=
  match c.kind with
  | .modulating _ _ => o.state == .active
  | .batch _ _ => o.state == .waiting || o.state == .running || o.state == .suspended
  | .monitor _ => false

/-- Another outlet of the same group is in use, of either service and any class (R105). -/
def State.peerInUse (s : State) (group : Nat) (ch : Chan) : Bool :=
  channels.any fun p =>
    p != ch &&
      match s.outletCfg? p with
      | some c => (c.valve?.any fun valve => valve.group == group) && OutletCfg.inUse c (s.outlet p)
      | none => false

/-- The group source on an outlet that selects it (R105, R106). -/
def Outlet.followGroup (inUse : Bool) (o : Outlet) : Outlet :=
  match o.state with
  | .idle =>
    if inUse then { o with idleTimer := .held }
    else if o.idleTimer = .held then { o with idleTimer := .running 0 }
    else o
  | .standby => if inUse then o.wake .held else o
  | .off => o
  | .active => o
  | .waiting => o
  | .running => o
  | .suspended => o
  | .fault => o

/-- A level draw raised to the min draw when lower (R101). -/
def levelDraw (rated minDraw level : Nat) : Nat :=
  let d := ceilDiv (rated * level) 100
  if 0 < d ∧ d < minDraw then minDraw else d

/-- The desired draw of R100's table. -/
def OutletCfg.desiredDraw (c : OutletCfg) (o : Outlet) : Nat :=
  match c.kind with
  | .modulating valve m =>
    match o.state with
    | .active => levelDraw valve.ratedDraw m.minDraw o.level
    | .standby =>
      match o.pulsePhase with
      | .requested => m.pulseDraw
      | .opening => m.pulseDraw
      | .held => m.pulseDraw
      | .none => 0
      | .closing => 0
    | .off => 0
    | .idle => 0
    | .waiting => 0
    | .running => 0
    | .suspended => 0
    | .fault => 0
  | .batch _ b =>
    match o.state with
    | .waiting => b.runDraw
    | .running => b.runDraw
    | .suspended => b.runDraw
    | .off => 0
    | .idle => 0
    | .active => 0
    | .standby => 0
    | .fault => 0
  | .monitor r => if o.state = .active then r else 0

def levelStep (ch : Chan) (s : State) : State :=
  match s.outletCfg? ch with
  | some c => if c.modulating?.isSome then s.modOutlet ch Outlet.followLevel else s
  | none => s

def groupStep (ch : Chan) (s : State) : State :=
  match s.outletCfg? ch with
  | some c =>
    match c.kind with
    | .modulating valve m =>
      if m.groupSource then s.modOutlet ch (Outlet.followGroup (s.peerInUse valve.group ch)) else s
    | .batch _ _ => s
    | .monitor _ => s
  | none => s

def desiredStep (ch : Chan) (s : State) : State :=
  match s.outletCfg? ch with
  | some c => s.modOutlet ch fun o => { o with desired := OutletCfg.desiredDraw c o }
  | none => s

/-- A desired draw below the grant lowers the grant to it (R130). -/
def lowerStep (ch : Chan) (s : State) : State :=
  if (s.outlet ch).desired < (s.outlet ch).grant then s.setGrant ch (s.outlet ch).desired else s

/-- The outlets in one event: levels, groups, desired draws, lowerings, queues (R100 to R106, R122, R130). -/
def State.outletPhase (s : State) : State :=
  (forEach channels lowerStep (forEach channels desiredStep (forEach channels groupStep (forEach channels levelStep s)))).requeueAll

/-- The state an outlet enters when it is enabled, cleared, or enabled at the load of the image (R99, R115, R119). -/
def OutletCfg.enterUse (c : OutletCfg) (o : Outlet) : Outlet :=
  match c.kind with
  | .modulating _ _ => { o with state := .idle, idleTimer := .running 0 }
  | .batch _ _ => { o with state := .idle }
  | .monitor _ => { o with state := .active }

/-- Every timer and pulse of an outlet out of use stops, any run is given up (R116, R117, R118, R169). -/
def Outlet.takeOut (st : OutletState) (o : Outlet) : Outlet :=
  { o.discardRun st with idleTimer := .stopped, pulsePhase := .none, pulseTimer := none, pulseLength := none }

/-- Take an outlet out of use: its state, its grant to 0 whatever the guard, out of its queue and start order (R116 to
R118). -/
def State.takeOut (st : OutletState) (ch : Chan) (s : State) : State :=
  (((s.modOutlet ch (Outlet.takeOut st)).setGrant ch 0).leaveQueue ch).leaveStartOrder ch

/-- ISOLATE: the outlet enters FAULT with the kind that caused it (R118). -/
def State.isolate (kind : FaultKind) (ch : Chan) (s : State) : State :=
  (s.takeOut .fault ch).modOutlet ch fun o => { o with faultKind := some kind }

end Sys2Proof.Machine
end

