-- ==== Sys2Proof/Machine/Stations.lean ====
section
/-! DEFINITION. The changes of station state with the acts of every block at each, the leaves, and the faults that may
ask for one (chapter 3, R188 to R190, R201). -/

namespace Sys2Proof.Machine

def State.enter (st : Station) (s : State) : State := s.modMemb fun m => { m with station := st }

/-- Every leaving mark is cleared where a waiting OFFER is discarded or has no queue left (R181, R186). -/
def State.clearLeaving (s : State) : State :=
  { s with stages := mapAt (fun _ g => { g with leaving := false }) s.stages }

/-- The Holding Manager on entry to SYNCING, INERT and at reset: want marks CLEAR, carried 0, releasing clear, every timer
stopped (R76). -/
def ServiceHold.clearMarks (h : ServiceHold) : ServiceHold :=
  { h with
    wantMark := false
    reclaimTimer := none
    classes := h.classes.map fun c =>
      { c with spareTimer := none, releasing := false, carriedShortage := 0, carriedReclaim := 0 } }

def State.clearHoldMarks (s : State) : State := { s with hold := s.hold.map ServiceHold.clearMarks }

/-- The call and drop hold timers stop at every change out of MEMBER (R182, R184). -/
def Supply.stopTimers (p : Supply) : Supply := { p with callTimer := none, dropTimer := none, dropCandidate := none }

/-- The forced mark is cleared (R180). -/
def Supply.unforce (p : Supply) : Supply := { p with forced := false }

/-- Every keep amount 0 (R76). -/
def ServiceHold.keepNothing (h : ServiceHold) : ServiceHold :=
  { h with classes := h.classes.map fun c => { c with keep := 0, dutyMark := false, keepTerm := .normal } }

def State.stopSupplyTimers (s : State) : State := { s with supply := s.supply.map Supply.stopTimers }

/-- Entry to SYNCING (R55, R76, R180, R186). -/
def State.enterSyncing (s : State) : State :=
  let s := (s.prune .all).modMemb fun m =>
    { m with station := .syncing, leaveMark := .none, ownLanding := none, syncWindow := some 0,
             lapseSelfRequested := false }
  let s := s.modLedger fun l => { l with candidates := [] }
  let s := s.clearHoldMarks.clearLeaving.stopSupplyTimers
  { s with supply := s.supply.map Supply.unforce }

/-- Entry to JOINING (R57). -/
def State.enterJoining (s : State) : State :=
  (s.modMemb fun m => { m with station := .joining, syncWindow := none }).placeHail

/-- Entry to MEMBER: every non-empty queue is passed over (R59, R124). -/
def State.enterMember (s : State) : State :=
  forEach serviceClasses (fun p t => if (t.queue p.1 p.2).members.isEmpty then t else t.markPass p.1 p.2) (s.enter .member)

/-- Entry to ORPHAN (R67). -/
def State.enterOrphan (s : State) : State :=
  let s := ((s.enter .orphan).setFlag .orphaned).zeroAll
  (s.prune .orphan).stopSupplyTimers.modMemb fun m => { m with syncWindow := none }

/-- Entry to HALTED: the withdrawal is under way (R71). -/
def State.enterHalted (s : State) : State :=
  let s := (s.enter (.halted false)).zeroAll
  let s := (s.prune .halted).stopSupplyTimers.modMemb fun m => { m with syncWindow := none }
  s.modLedger fun l => { l with candidates := [] }

/-- The station's participation in the line changes; a frame on the line now goes by what it was at the start bit (R38). -/
def State.turnLine (s : State) : State := s.modLiu fun l => { l with turns := l.turns + 1 }

/-- The retry pause ends with the station's participation (R44). -/
def State.endPause (s : State) : State :=
  if s.liu.retryPause.isSome then s.modLiu fun l => { l with retryPause := none, failCount := 0 } else s

/-- A stage in INERT: DOWN, nothing running (R186). -/
def Stage.inert (_ : Stage) : Stage := Stage.initial

/-- An outlet in INERT: frozen, but that its command is driven at 0 % and its stroke and drift timers stop (R99, R143). -/
def Outlet.inert (o : Outlet) : Outlet := { o with command := 0, stroke := none, drift := none, pulses := 0 }

/-- Entry to INERT (R51, R54, R56, R58, R61, R62, R76, R143, R186, R202). -/
def State.enterInert (s : State) : State :=
  let s := (s.prune .all).endPause.modMemb fun m =>
    { m with station := .inert, ownLanding := none, syncWindow := none, lapseSelfRequested := false }
  let s := (s.modLedger fun l => { l with silence := Vector.replicate 32 none, candidates := [] }).modLiu fun l =>
    { l with turns := 0 }
  let s := s.clearHoldMarks.stopSupplyTimers
  let s := { s with hold := s.hold.map ServiceHold.keepNothing }
  { s with
    outlets := mapAt (fun _ o => Outlet.inert o) s.outlets
    stages := mapAt (fun _ g => Stage.inert g) s.stages
    meterWindow := none }

/-- The end of a withdrawal (R51, R54, R61, R72, R186). With the leave mark RESTART a full reset follows at once, or after
the response of a memory write that runs. The mark WITHDRAW stays, and is shown until the next reset (DESIGN CHOICE,
unsafe: no rule clears it here, log 40). -/
def State.endWithdrawal (s : State) : State :=
  let restarting := s.memb.leaveMark == .restart
  let s := (s.prune .all).endPause.clearLeaving.modMemb fun m =>
    { m with station := .halted true, ownLanding := none, lapseSelfRequested := false }
  let s := (s.modLedger fun l => { l with silence := Vector.replicate 32 none }).turnLine
  if restarting then
    if s.loader.write.isSome then s.modSerial fun l => { l with resetWaiting := true } else s.fullReset
  else s

/-- The end of the orphan leave (R69). -/
def State.endOrphan (s : State) : State := if s.memb.leaveMark = .none then s.enterSyncing else s.enterHalted

def State.setLeave (m : LeaveMark) (s : State) : State := s.modMemb fun b => { b with leaveMark := m }

/-- A WITHDRAW request (R70). -/
def State.requestWithdraw (s : State) : State :=
  match s.station with
  | .syncing => (s.setLeave .withdraw).enterHalted
  | .joining => (s.setLeave .withdraw).enterHalted
  | .member => (s.setLeave .withdraw).enterHalted
  | .orphan => if s.memb.leaveMark = .none then s.setLeave .withdraw else s
  | .start => s
  | .inert => s
  | .halted _ => s

/-- A RESTART request; where a full reset is called for at once it waits for the DONE response (R70, R204). -/
def State.requestRestart (s : State) : State :=
  match s.station with
  | .syncing => (s.setLeave .restart).enterHalted
  | .joining => (s.setLeave .restart).enterHalted
  | .member => (s.setLeave .restart).enterHalted
  | .orphan => s.setLeave .restart
  | .halted false => s.setLeave .restart
  | .halted true => s.modSerial fun l => { l with resetWaiting := true }
  | .start => s.modSerial fun l => { l with resetWaiting := true }
  | .inert => s.modSerial fun l => { l with resetWaiting := true }

/-- An outlet state in which ISOLATE puts the outlet in FAULT (R189). -/
def OutletState.isolable : OutletState → Bool
  | .off => false
  | .fault => false
  | .idle => true
  | .active => true
  | .standby => true
  | .waiting => true
  | .running => true
  | .suspended => true

/-- The response of the table's entry (R188, R189, R190). -/
def State.respond (kind : FaultKind) (ch : Chan) (s : State) : State :=
  match s.fru.responses.get kind with
  | .note => s
  | .isolate => if (s.outlet ch).state.isolable then s.isolate kind ch else s
  | .withdraw => s.requestWithdraw

/-- An outlet fault is reported: flag, counter, last-fault field, response (R189). -/
def State.reportFault (kind : FaultKind) (ch : Chan) (s : State) : State :=
  (((s.setFlag .outletFault).countOutletFault).modOutlet ch fun o => { o with lastFault := some kind }).respond kind ch

/-- A stage fault is reported (R192). -/
def State.reportStageFault (s : State) : State := s.setFlag .stageFault

end Sys2Proof.Machine
end

