-- ==== Sys2Proof/Machine/Hold.lean ====
section
/-! DEFINITION. The Holding Manager's standing rules in one event: keep amounts and carries, cuts and passes from class 3 down to
class 0, reclaim timer, GIVE, TAKE and WANT; at its end the spare timers and SHED-SHORT (chapter 4, R146, R151). -/

namespace Sys2Proof.Machine

/-- The spare timers run in SYNCING, JOINING, MEMBER and ORPHAN (R76, R86). -/
def Station.holdsSpares : Station → Bool
  | .syncing => true
  | .joining => true
  | .member => true
  | .orphan => true
  | .start => false
  | .inert => false
  | .halted _ => false

/-- GIVEs are sized and placed in MEMBER, ORPHAN and HALTED while withdrawing (R76, R88). -/
def Station.gives : Station → Bool
  | .member => true
  | .orphan => true
  | .halted ended => !ended
  | .start => false
  | .inert => false
  | .syncing => false
  | .joining => false

/-- Keep amounts are computed, and are not 0 by the state (R76, R95). -/
def Station.keeps : Station → Bool
  | .syncing => true
  | .joining => true
  | .member => true
  | .orphan => true
  | .start => false
  | .inert => false
  | .halted _ => false

/-- The spare of a class has reached the give threshold (R86). -/
def State.spareStands (s : State) (v : Svc) (k : Cls) : Bool :=
  s.station.holdsSpares && s.target v k + s.svcSetting v ServiceCfg.giveThreshold ≤ s.ownHolding v k

/-- Start, run on or stop the spare timer of a class; the mark falls with the spare (R86). It is taken once, at the end of an
event, since a cut of that event may lower the target and so keep a spare standing (R76). -/
def spareStep (v : Svc) (k : Cls) (s : State) : State :=
  let stands := s.spareStands v k
  s.modClass v k fun c => { c with spareTimer := Timer.follow stands c.spareTimer, releasing := c.releasing && stands }

/-- The spare timers and releasing marks of both services, judged on the values an event leaves (R76, R86). -/
def State.sparePhase (s : State) : State := forEach serviceClasses (fun p => spareStep p.1 p.2) s

/-- e^S_k: the own shortage duty and what is carried into the class (R87). -/
def State.shortageBurden (s : State) (v : Svc) (k : Cls) : Nat :=
  shortageDuty s.ledger.copy v s.own k + (s.classHold v k).carriedShortage

/-- e^X_k: the own reclaim duty and what is carried into the class; 0 for class 0 (R87). -/
def State.reclaimBurden (s : State) (v : Svc) (k : Cls) : Nat :=
  if k = .c0 then 0 else (reclaimDuties s.ledger.copy v s.own).get k + (s.classHold v k).carriedReclaim

/-- The normal term (R86): the releasing mark counts while its spare stands. -/
def State.normalTerm (s : State) (v : Svc) (k : Cls) : Nat :=
  if (s.classHold v k).releasing && s.spareStands v k then s.target v k else s.ownHolding v k

/-- K_k, its duty mark and the term that sets it, from the three terms (R87). Of two duty terms that are equal the shortage
term is named (log 18). Where K_k is 0 by the station state no term sets it: the mark is clear and NORMAL is named (log 30). -/
def ClassHold.take (keeps : Bool) (normal shortage reclaim : Nat) (c : ClassHold) : ClassHold :=
  if keeps then
    { c with
      keep := min normal (min shortage reclaim)
      dutyMark := shortage < normal || reclaim < normal
      keepTerm := if shortage < normal && shortage ≤ reclaim then .shortage
        else if reclaim < normal then .reclaim else .normal }
  else { c with keep := 0, dutyMark := false, keepTerm := .normal }

/-- Present the keep amount of a class; a rise makes a pass due (R87, R124). -/
def State.presentKeep (v : Svc) (k : Cls) (s : State) : State :=
  let h := s.ownHolding v k
  let old := (s.classHold v k).keep
  let s := s.modClass v k (ClassHold.take s.station.keeps (s.normalTerm v k)
    (h - s.shortageBurden v k) (h - s.reclaimBurden v k))
  if old < (s.classHold v k).keep then s.markPass v k else s

/-- The keep cut when the class is over its keep, and the keep amount presented again (R146). -/
def State.cutIfOver (v : Svc) (k : Cls) (s : State) : State :=
  if s.isMember && s.isOver v k then (s.keepCut v k).presentKeep v k else s

/-- The service pass when one is due (R124). -/
def State.passIfDue (v : Svc) (k : Cls) (s : State) : State :=
  if s.isMember && s.app.passDue.get v k then (s.clearPass v k).servicePass v k else s

/-- Carry what the class cannot give to the class above, or leave it unplaced (R91, R92). -/
def State.carry (v : Svc) (k : Cls) (s : State) : State :=
  let a := s.giveable v k
  let outS := s.shortageBurden v k - a
  let outX := s.reclaimBurden v k - a
  match k with
  | .c3 => s.modClass v .c2 fun c => { c with carriedShortage := outS, carriedReclaim := outX }
  | .c2 => s.modClass v .c1 fun c => { c with carriedShortage := outS, carriedReclaim := outX }
  | .c1 =>
    (s.modClass v .c0 fun c => { c with carriedShortage := outS, carriedReclaim := 0 }).modHold v fun h =>
      { h with unplacedReclaim := outX }
  | .c0 => s.modHold v fun h => { h with unplacedShortage := outS }

/-- One class of one service in an event (R87, R146, R151). -/
def classStep (v : Svc) (k : Cls) (s : State) : State :=
  (((s.presentKeep v k).cutIfOver v k).passIfDue v k).carry v k

/-- All classes of a service, from 3 down to 0 (R91). -/
def keepPhase (v : Svc) (s : State) : State := forEach [Cls.c3, .c2, .c1, .c0] (classStep v) s

/-- The reclaim timer runs in MEMBER while the own reclaim amount is nonzero (R94). -/
def reclaimStep (v : Svc) (s : State) : State :=
  let stands := s.isMember && reclaimAmount s.ledger.copy v s.own != 0
  s.modHold v fun h => { h with reclaimTimer := Timer.follow stands h.reclaimTimer }

/-- g_k, the give amount (R88). -/
def State.giveAmount (s : State) (v : Svc) (k : Cls) : Nat :=
  s.ownHolding v k - s.waitingGive v k - max (s.sumBounds v k) (s.classHold v k).keep

/-- Place a GIVE when the give amount is at least 1 (R88). -/
def giveStep (v : Svc) (k : Cls) (s : State) : State :=
  let g := s.giveAmount v k
  if s.station.gives && 1 ≤ g then s.placeGive v k g else s

/-- The most important class with a nonzero unmet amount (R81). -/
def State.neediest (s : State) (v : Svc) : Option Cls := classes.find? fun k => s.unmet v k != 0

/-- Size and place a TAKE (R81). -/
def takeStep (v : Svc) (s : State) : State :=
  if s.isMember && (s.hold.get v).outstanding.isNone then
    match s.neediest v with
    | some k =>
      let n := min (s.unmet v k) (s.headroom v)
      if 1 ≤ n then (s.placeTake v k n).modHold v fun h => { h with outstanding := some (k, n) } else s
    | none => s
  else s

/-- The want mark after an event (R84). -/
def wantMarkAfter (mark : Bool) (unmet on off : Nat) : Bool := if mark then !(decide (unmet ≤ off)) else decide (on ≤ unmet)

/-- The announced want does not match the mark (R85). -/
def wantMismatch (mark : Bool) (unmet announced on : Nat) : Bool :=
  if mark then decide (on ≤ (unmet - announced) + (announced - unmet)) else announced != 0

/-- Set or clear the want mark and place a WANT (R84, R85). -/
def wantStep (v : Svc) (s : State) : State :=
  if s.isMember then
    let on := s.svcSetting v ServiceCfg.wantOn
    let u := s.unmetTotal v
    let mark := wantMarkAfter (s.hold.get v).wantMark u on (s.svcSetting v ServiceCfg.wantOff)
    let s := s.modHold v fun h => { h with wantMark := mark }
    if wantMismatch mark u (s.ownEntry.want v) on && !s.keyBusy (.want v) then s.placeWant v else s
  else s

/-- An outlet of the class is in STROKE-OVERRUN with its bound above its grant, and the class bears a shortage (R93). -/
def State.overrunShort (s : State) (v : Svc) (k : Cls) : Bool :=
  s.shortageBurden v k != 0
    && (s.classChannels v k).any fun ch => (s.outlet ch).overrun && (s.outlet ch).grant < (s.outlet ch).peak

/-- SHED-SHORT is set when either of its two conditions becomes true for a service (R93). -/
def shedShortStep (v : Svc) (s : State) : State :=
  let h := s.hold.get v
  let unplaced := h.unplacedShortage != 0 || h.unplacedReclaim != 0
  let overrun := classes.any (s.overrunShort v)
  let s := s.modHold v fun h => { h with unplacedTrue := unplaced, overrunTrue := overrun }
  if (unplaced && !h.unplacedTrue) || (overrun && !h.overrunTrue) then s.setFlag .shedShort else s

/-- The Holding Manager and the Apportioner in one event (R76, R88, R151). -/
def State.holdPhase (s : State) : State :=
  let s := forEach services keepPhase s
  let s := forEach services reclaimStep s
  let s := forEach serviceClasses (fun p => giveStep p.1 p.2) s
  let s := forEach services takeStep s
  forEach services wantStep s

end Sys2Proof.Machine
end

