-- ==== Sys2Proof/Machine/Stages.lean ====
section
/-! DEFINITION. The stages: calls, readiness, trips, lockout, drops and the OFFER's placing (chapter 9). -/

namespace Sys2Proof.Machine

/-- Call a stage; one whose ready input is already asserted enters READY in the event of the call (R176, R182, R183). -/
def State.callStage (ch : Chan) (s : State) : State :=
  s.modStage ch fun g =>
    if s.pins.ready[ch] then { g with state := .ready, warmUp := none } else { g with state := .called, warmUp := some 0 }

/-- A warm-up fails: the call is removed and LOCKOUT entered (R176). -/
def State.failWarmUp (ch : Chan) (s : State) : State :=
  (s.modStage ch fun g => { g with state := .lockout, warmUp := none, lockout := some 0 }).reportStageFault

def State.setForced (v : Svc) (s : State) : State := s.modSupply v fun p => { p with forced := true }

/-- A READY stage trips or loses its ready signal (R177). -/
def State.tripStage (ch : Chan) (s : State) : State :=
  match s.stageCfg? ch with
  | some c =>
    let s := s.modStage ch fun g =>
      if s.pins.trip[ch] then { g with state := .tripped, leaving := false }
      else { g with state := .lockout, leaving := false, lockout := some 0 }
    (s.setForced c.svc).reportStageFault
  | none => s

/-- The forced mark after an own OFFER of the service has landed (R180). -/
def State.testForced (v : Svc) (s : State) : State :=
  if s.ownOffer v ≤ s.intendedOffer v then s.modSupply v Supply.unforce else s

/-- An accepted OFFER completes the drop of a covered stage still READY and leaving (R181, R185). -/
def Stage.dropped (g : Stage) : Stage :=
  if g.state = .ready ∧ g.leaving then { g with state := .down, leaving := false } else g

/-- The outcome of an own OFFER (R181). A leaving mark it does not cover stands until SYNCING or the end of the withdrawal (R186,
log 35). -/
def State.offerOutcome (v : Svc) (accepted : Bool) (covered : List Chan) (s : State) : State :=
  let s :=
    if accepted then forEach covered (fun ch t => t.modStage ch Stage.dropped) s
    else
      (forEach covered (fun ch t => t.modStage ch fun g => { g with leaving := false }) s).modSupply v fun p =>
        { p with dropTimer := none, dropCandidate := none }
  s.testForced v

/-- ALWAYS stages are called in MEMBER whenever they are DOWN and untripped (R183). -/
def alwaysStep (ch : Chan) (s : State) : State :=
  if s.stageModeIs .always ch && s.callable ch then s.callStage ch else s

/-- The call timer, and the call when it stands at the call delay and a stage qualifies (R182). While none does, the timer holds at
the call delay and READ-STAGE shows that count (DESIGN CHOICE, unsafe: log 43). -/
def callStep (v : Svc) (s : State) : State :=
  let t := Timer.follow (s.callCondition v) (s.supply.get v).callTimer
  if Timer.atLeast (2 * s.svcSetting v ServiceCfg.callDelay) t then
    match s.callCandidate v with
    | some ch => (s.modSupply v fun p => { p with callTimer := none }).callStage ch
    | none => s.modSupply v fun p => { p with callTimer := t }
  else s.modSupply v fun p => { p with callTimer := t }

/-- Place an OFFER when the intended offer differs from the own offer and none is waiting or in transmission (R181). -/
def offerStep (v : Svc) (s : State) : State :=
  if s.intendedOffer v != s.ownOffer v && !s.keyBusy (.offer v) then s.placeOffer v else s

/-- The drop hold timer, restarted when the candidate changes (R184). -/
def dropStep (v : Svc) (s : State) : State :=
  let stands := s.dropCondition v
  let candidate := if stands then s.dropCandidate v else none
  s.modSupply v fun p =>
    { p with
      dropTimer := if stands then (if p.dropCandidate = candidate then some (p.dropTimer.getD 0) else some 0) else none
      dropCandidate := candidate }

/-- The Stage Manager in one event (R181 to R184, R186). -/
def State.stagePhase (s : State) : State :=
  if s.isMember then
    let s := forEach channels alwaysStep s
    let s := forEach services callStep s
    let s := forEach services offerStep s
    forEach services dropStep s
  else s.stopSupplyTimers

end Sys2Proof.Machine
end

