-- ==== Sys2Proof/Machine/React.lean ====
section
/-! DEFINITION. What every block does inside one event once the event itself has been taken: outlets, contact watch,
holdings, stages, LAPSE and refresh, leaves; taken in this order until the station rests (R1, R76; log 27). -/

namespace Sys2Proof.Machine

/-- At least one own holding, of either service and any class, is nonzero (R65). -/
def State.holdsAny (s : State) : Bool := s.ownEntry.total .hw != 0 || s.ownEntry.total .st != 0

/-- The contact watch in MEMBER: own silence, own entry vacated, or quorum lost while holding (R64 to R66). -/
def State.contactLost (s : State) : Bool :=
  Timer.atLeast (s.limit Image.tSelf) s.memb.ownLanding || !s.ownEntry.isMember
    || (s.heardCount < s.quorum && (s.holdsAny || !s.boundsZero))

def State.contactPhase (s : State) : State := if s.isMember && s.contactLost then s.enterOrphan else s

/-- A peer whose silence makes it a candidate (R62). -/
def State.expired (s : State) (n : Stn) : Bool :=
  n != s.own && (s.entry n).isMember && Timer.atLeast (s.limit Image.tExp) s.ledger.silence[n]
    && !(s.ledger.candidates.any fun p => p.1 == n) && !s.lapseNames n

def expiryStep (n : Stn) (s : State) : State :=
  if s.expired n then
    s.modLedger fun l => { l with candidates := addCandidate n (s.entry n).lastSeq l.candidates }
  else s

/-- In a leave that removes itself from the copies: ORPHAN, or HALTED while withdrawing (R68). -/
def Station.leaves : Station → Bool
  | .orphan => true
  | .halted ended => !ended
  | .start => false
  | .inert => false
  | .syncing => false
  | .joining => false
  | .member => false

/-- The conditions of a LAPSE of self (R68). -/
def State.lapsesSelf (s : State) : Bool :=
  s.station.leaves && s.ownEntry.isMember && s.boundsZero && !s.memb.lapseSelfRequested && !s.lapseNames s.own
    && (s.station == .orphan || !s.anyGive)

def selfStep (s : State) : State :=
  if s.lapsesSelf then s.modMemb fun m => { m with lapseSelfRequested := true } else s

/-- The LAPSE key takes a LAPSE of self first, else the lowest candidate in MEMBER or ORPHAN (R49, R63). -/
def lapseKeyStep (s : State) : State :=
  if s.keyBusy .lapse then s
  else if s.memb.lapseSelfRequested then
    (s.placeLapse s.own s.ownEntry.lastSeq).modMemb fun m => { m with lapseSelfRequested := false }
  else
    match s.ledger.candidates with
    | p :: rest => if s.station.disowns then (s.placeLapse p.1 p.2).modLedger fun l => { l with candidates := rest } else s
    | [] => s

/-- The refresh in MEMBER (R60). -/
def refreshStep (s : State) : State :=
  if s.isMember && Timer.atLeast (s.limit Image.tKeep) s.memb.ownLanding && !s.refreshBusy then s.placeKeep else s

def State.framePhase (s : State) : State :=
  refreshStep (lapseKeyStep (selfStep (if s.isMember then forEach stations expiryStep s else s)))

/-- The orphan leave ends (R69). -/
def orphanEndStep (s : State) : State :=
  if s.station == .orphan && !s.ownEntry.isMember && s.boundsZero then s.endOrphan else s

/-- A withdrawal ends (R72). -/
def withdrawalEndStep (s : State) : State :=
  if s.station == .halted false && s.liu.tx.isNone
      && (!s.ownEntry.isMember || Timer.atLeast (s.limit Image.tSelf) s.memb.ownLanding) then s.endWithdrawal
  else s

def State.leavePhase (s : State) : State := withdrawalEndStep (orphanEndStep s)

/-- One round of reactions; nothing reacts in START and INERT (R99, R198, R202). -/
def State.react (s : State) : State :=
  if s.live then (s.outletPhase.contactPhase.holdPhase.stagePhase.framePhase).leavePhase else s

/-- What the meter window keeps of the moment the event leaves (R104, R140). -/
def Outlet.observe (o : Outlet) : Outlet :=
  { o with
    largestBound := max o.largestBound o.peak
    wasOff := o.wasOff || o.state == .off
    shut := o.shut && o.grant == 0 && !o.moving && o.pulsePhase == .none }

def State.observe (s : State) : State :=
  { s with outlets := mapAt (fun ch o => if (s.outletCfg? ch).isSome then o.observe else o) s.outlets }

/-- The end of an event: the spares judged on the values it leaves (R76, R86), SHED-SHORT judged, the meter windows' marks taken,
the passes made, the moment counted. -/
def State.rest (s : State) : State :=
  let s := if s.live then (forEach services shedShortStep s.sparePhase).observe else s
  { s with app := { s.app with passDue := Per8.all false }, now := s.now + 1 }

/-- The reactions to an event, in rounds until nothing is left to react to; four are enough for every chain of the rules
(log 27). -/
def State.settle (s : State) : State := s.react.react.react.react.rest

end Sys2Proof.Machine
end

