-- ==== Sys2Proof/Machine/Event.lean ====
section
/-! DEFINITION. The shape every command's meaning has: an event that may be taken, taken and reacted to, or no event at all
(log 5), and a service-line command that is answered (R203, R204). -/

namespace Sys2Proof.Machine

/-- What a command answers. -/
abbrev Result := Host.Outcome State Fault Refusal

/-- An event that the part takes when its condition holds; otherwise nothing changes (log 5). -/
def event (taken : Bool) (f : State → State) (s : State) : Result := .next (if taken then (f s).settle else s)

/-- An event that no standing rule reacts to. -/
def quietEvent (taken : Bool) (f : State → State) (s : State) : Result := .next (if taken then f s else s)

/-- The station acts: the RESET pin is not asserted, an image is frozen, and the state is neither START nor INERT (R99,
R198, R202). -/
def State.acts (s : State) : Bool := !s.pins.reset && s.live

/-- The station takes part in the line, and the RESET pin is not asserted (R38, R198). -/
def State.onLine (s : State) : Bool := !s.pins.reset && s.loader.image.isSome && s.participates

/-- The station took part in the line at the start bit of the frame that now completes, its participation having changed
`turns` times since (R38, log 8). One that no longer takes part has ended a withdrawal during the frame: it marks the frame and does
not apply it (log 38). No frame is carried into START or INERT (R4, R202). -/
def State.heard (s : State) (turns : Nat) : Bool :=
  !s.pins.reset && s.loader.image.isSome && decide (turns ≤ s.liu.turns)
    && (if turns % 2 = 0 then s.participates else s.station == .halted true)

/-- Decide a response (R203). -/
def State.reply (r : Reply) (s : State) : State := s.modSerial fun l => { l with replies := l.replies ++ [r] }

/-- Answer the command taken, which stays in progress until its response has been sent (R203). -/
def State.answer (status : Status) (data : List Byte) (s : State) : State :=
  s.modSerial fun l => { l with busy := true, replies := l.replies ++ [⟨status, data, true⟩] }

/-- A well-formed command: BUSY and dropped while another is in progress, otherwise taken; with the RESET pin asserted no
command is taken (R198, R203). -/
def serve (f : State → State) (s : State) : Result :=
  .next
    (if s.pins.reset then s
     else if s.serial.busy then s.reply ⟨.busy, [], false⟩
     else f s)

/-- START and INERT, where a command is refused for the station state (R204). -/
def Station.stopped : Station → Bool
  | .start => true
  | .inert => true
  | .syncing => false
  | .joining => false
  | .member => false
  | .orphan => false
  | .halted _ => false

end Sys2Proof.Machine
end

