-- ==== Sys2Proof/Machine/Landing.lean ====
section
/-! DEFINITION. A landed frame at one station: what the copy, the silence timers, the candidates, the LIU and the blocks that
wait on an own frame's outcome do with it (R11 to R13, R26, R40 to R42, R50). -/

namespace Sys2Proof.Machine

/-- The own profile code, of the frozen image (R39). -/
def State.profile (s : State) : BitVec 16 :=
  match s.loader.image with
  | some im => im.profile
  | none => 0

/-- The frame is the one in transmission (log 6). -/
def State.isSent (s : State) (f : Frame) : Bool :=
  match s.liu.tx with
  | some t => t.seq == f.seq && t.body == f.body
  | none => false

/-- The frame can land here: an own frame as it was sent, or another station's that this station finds intact (R39, R40;
logs 6, 7). -/
def State.canLand (s : State) (f : Frame) : Bool :=
  if f.sender == s.own then s.isSent f else Frame.intactAt s.own s.profile f

def vacatedTimer (before after : Entry) (t : Timer) : Timer := if before.isMember && !after.isMember then none else t

/-- The silence timers: stopped with a vacated entry, the sender's restarted (R12, R61). -/
def silenceAfter (own : Stn) (old new : Copy) (sender : Stn) (l : Vector Timer 32) : Vector Timer 32 :=
  Vector.ofFn fun n =>
    if n = sender ∧ n ≠ own then some 0 else vacatedTimer old[n] new[n] l[n]

/-- The candidates a frame removes (R12 step 5, R24). -/
def candidatesAfter (f : Frame) (l : List (Stn × BitVec 8)) : List (Stn × BitVec 8) :=
  let l := dropCandidate f.sender l
  match f.body with
  | .lapse target _ => dropCandidate target l
  | .give _ _ _ => l
  | .offer _ _ _ => l
  | .hail _ _ => l
  | .take _ _ _ => l
  | .want _ _ => l
  | .keep _ _ _ _ => l

/-- The Ledger Unit's steps 3 to 5 (R12). -/
def State.applyLanded (f : Frame) (s : State) : State :=
  let new := applyFrame s.station s.quorum s.ledger.copy f
  s.modLedger fun l =>
    { copy := new
      silence := silenceAfter s.own l.copy new f.sender l.silence
      candidates := candidatesAfter f l.candidates }

/-- A landed LAPSE removes a waiting LAPSE for the same target (R24, R50). -/
def TxQueue.dropLapse (target : Stn) (q : TxQueue) : TxQueue :=
  { q with lapse := q.lapse.filter fun l => l.target != target }

def State.dropWaitingLapse (b : Body) (s : State) : State :=
  match b with
  | .lapse target _ => s.modTxQueue (TxQueue.dropLapse target)
  | .give _ _ _ => s
  | .offer _ _ _ => s
  | .hail _ _ => s
  | .take _ _ _ => s
  | .want _ _ => s
  | .keep _ _ _ _ => s

/-- The sender is disowned (R25, R26). -/
def State.mustDisown (s : State) (f : Frame) : Bool :=
  s.station.disowns && f.sender != s.own && !(s.entry f.sender).isMember && Body.disownable f.body

/-- Disown: a waiting LAPSE of the target takes the newer sequence, otherwise the sender becomes a candidate (R26, R49). -/
def State.disown (f : Frame) (s : State) : State :=
  if s.liu.queue.lapse.any fun l => l.target == f.sender then
    s.modTxQueue fun q => { q with lapse := q.lapse.map fun l => { l with targetSeq := f.seq } }
  else s.modLedger fun l => { l with candidates := addCandidate f.sender f.seq l.candidates }

/-- The LIU's report of an own landing (R41, R42, R50, R54): an own GIVE's landing lets a pass run (R124). -/
def State.ownLanded (s : State) : State :=
  (s.modLiu fun l => { l with tx := none, seqCounter := l.seqCounter + 1, failCount := 0, turns := 0 }).modMemb fun m =>
    { m with ownLanding := some 0 }

/-- What waits on an own frame's outcome: the TAKE's report (R14, R82), the OFFER's (R17, R18, R181), the HAIL's in JOINING
(R21, R58), the GIVE's amount (R50). `old` is the copy before the frame, `covered` the OFFER's covered set. -/
def State.ownOutcome (old : Copy) (covered : List Chan) (b : Body) (s : State) : State :=
  match b with
  | .take v _ n =>
    let s := s.endTake v
    if takeAccepted old s.quorum s.own v n.toNat then s else s.countTakeRefused
  | .offer v forced n => s.offerOutcome v (offerAccepted old s.own v forced n.toNat) covered
  | .hail _ _ => if s.station = .joining then s.enterMember else s
  | .give v k _ => s.markPass v k
  | .lapse _ _ => s
  | .want _ _ => s
  | .keep _ _ _ _ => s

/-- A rise of an own holding makes a pass due (R124). -/
def risenStep (old : Entry) (p : Svc × Cls) (s : State) : State :=
  if old.holding p.1 p.2 < s.ownHolding p.1 p.2 then s.markPass p.1 p.2 else s

/-- Everything a landed frame does, in the order of R12, before the blocks react. -/
def State.landed (f : Frame) (s : State) : State :=
  let old := s.ledger.copy
  let covered := (s.liu.tx.map TxFrame.covered).getD []
  let disowned := s.mustDisown f
  let isOwn := f.sender == s.own
  let t := ((s.applyLanded f).dropWaitingLapse f.body).countFrameLanded
  let t := if disowned then t.disown f else t
  let t := forEach serviceClasses (risenStep old[s.own]) t
  if isOwn then t.ownLanded.ownOutcome old covered f.body else t.modLiu fun l => { l with mark := .seen, turns := 0 }

/-- A frame lands at a station whose withdrawal has ended since its start bit: it is counted and marked, and applied to nothing.
R4 and R11 have the copy stay as it stood at that moment, R38 has such a frame applied (DESIGN CHOICE, unsafe: log 38). -/
def State.landedLate (s : State) : State := s.countFrameLanded.modLiu fun l => { l with mark := .seen, turns := 0 }

/-- A station in SYNCING that voids a KEEP damaged on its profile code alone enters INERT (R56). -/
def State.voidFrame (f : Frame) (s : State) : State :=
  let t := s.modLiu fun l => { l with mark := .void, turns := 0 }
  if s.station = .syncing ∧ Frame.profileAlone s.own s.profile f then t.enterInert.setFlag .profileMismatch else t

/-- A frame completes with SEEN present and VOID absent on the line. One that this station itself voids does not land (R40;
log 7); one whose start bit it did not hear is not taken (R38). It is applied while the station participates (R4, R11). -/
def receiveLanded (f : Frame) (turns : Nat) (s : State) : Result :=
  event (s.heard turns)
    (fun t => if t.canLand f then (if t.participates then t.landed f else t.landedLate) else t.voidFrame f) s

end Sys2Proof.Machine
end

