-- ==== Sys2Proof/Machine/Frames.lean ====
section
/-! DEFINITION. The seven kinds of landed frame (R14 to R24). -/

namespace Sys2Proof.Machine

/-- TAKE (R14). -/
def execTake (sender : Stn) (seq : BitVec 8) (v : Svc) (k : Cls) (amount : BitVec 12) (s : State) (turns : Nat := 0) : Result :=
  receiveLanded ⟨sender, seq, .take v k amount⟩ turns s

/-- GIVE (R15). -/
def execGive (sender : Stn) (seq : BitVec 8) (v : Svc) (k : Cls) (amount : BitVec 12) (s : State) (turns : Nat := 0) : Result :=
  receiveLanded ⟨sender, seq, .give v k amount⟩ turns s

/-- WANT (R16). -/
def execWant (sender : Stn) (seq : BitVec 8) (v : Svc) (amount : BitVec 12) (s : State) (turns : Nat := 0) : Result :=
  receiveLanded ⟨sender, seq, .want v amount⟩ turns s

/-- OFFER (R17, R18). -/
def execOffer (sender : Stn) (seq : BitVec 8) (v : Svc) (forced : Bool) (amount : BitVec 12) (s : State) (turns : Nat := 0) : Result :=
  receiveLanded ⟨sender, seq, .offer v forced amount⟩ turns s

/-- KEEP (R19, R20). -/
def execKeep (sender : Stn) (seq : BitVec 8) (weight : BitVec 6) (profile : BitVec 16) (hw st : Account) (s : State)
    (turns : Nat := 0) : Result :=
  receiveLanded ⟨sender, seq, .keep weight profile hw st⟩ turns s

/-- HAIL (R21). -/
def execHail (sender : Stn) (seq : BitVec 8) (weight : BitVec 6) (profile : BitVec 16) (s : State) (turns : Nat := 0) : Result :=
  receiveLanded ⟨sender, seq, .hail weight profile⟩ turns s

/-- LAPSE (R22). -/
def execLapse (sender : Stn) (seq : BitVec 8) (target : Stn) (targetSeq : BitVec 8) (s : State) (turns : Nat := 0) : Result :=
  receiveLanded ⟨sender, seq, .lapse target targetSeq⟩ turns s

end Sys2Proof.Machine
end

