-- ==== Sys2Proof/Machine/Line.lean ====
section
/-! DEFINITION. The attempts of the LIU and the frames that do not land (R32, R35 to R44, R48, R56). -/

namespace Sys2Proof.Machine

/-- Weight and profile of the frozen image, as a HAIL carries them (R48). -/
def State.hailBody (s : State) : Body :=
  match s.loader.image with
  | some im => .hail (BitVec.ofNat 6 im.weight) im.profile
  | none => .hail 0 0

/-- The own entry as a KEEP carries it (R10, R48). -/
def Entry.keepBody (e : Entry) : Body :=
  .keep (BitVec.ofNat 6 e.weight) e.profile e.shares.hw.account e.shares.st.account

/-- The body of the frame waiting under a key, filled as at the start of an attempt (R48). -/
def State.fill (s : State) : Key → Option Body
  | .lapse => s.liu.queue.lapse.map fun l => .lapse l.target l.targetSeq
  | .give v k => (s.liu.queue.give.get v k).map fun g => .give v k (hu12 g.amount)
  | .offer v => (s.liu.queue.offer.get v).map fun _ => .offer v (s.supply.get v).forced (hu12 (s.intendedOffer v))
  | .take v => (s.liu.queue.take.get v).map fun t => .take v t.cls (hu12 t.amount)
  | .want v => (s.liu.queue.want.get v).map fun _ => .want v (hu12 (s.wantAmount v))
  | .refresh => s.liu.queue.refresh.map fun r => if r.isHail then s.hailBody else s.ownEntry.keepBody

/-- The covered set recorded with an OFFER's attempt (R181). -/
def State.coveredAt (s : State) : Key → List Chan
  | .offer v => s.leavingStages v
  | .lapse => []
  | .give _ _ => []
  | .take _ => []
  | .want _ => []
  | .refresh => []

/-- The frame waiting under a key is taken into transmission (R35, R48). -/
def State.transmit (key : Key) (s : State) : State :=
  match s.fill key with
  | some b =>
    s.modLiu fun l =>
      { l with
        queue := l.queue.remove key
        tx := some ⟨l.seqCounter, b, (l.queue.ageAt key).getD 0, s.coveredAt key, false⟩ }
  | none => s

/-- The head frame's attempt starts; of frames of one rank placed together either may be the head (R45, log 9). -/
def State.startAttempt (s : State) : State :=
  match s.pickFree s.liu.queue.heads with
  | some (key, t) => t.transmit key
  | none => s

/-- START_OF_ATTEMPT (R35). -/
def execStartOfAttempt (s : State) : Result :=
  quietEvent (s.onLine && s.liu.tx.isNone && s.liu.retryPause.isNone) State.startAttempt s

/-- ARBITRATION_LOST (R36): the frame returns, no count changes (R41). -/
def execArbitrationLost (s : State) : Result := event (s.onLine && s.liu.tx.isSome) State.returnFrame s

/-- The frame in transmission is a HAIL. -/
def State.sendsHail (s : State) : Bool :=
  match s.liu.tx with
  | some t => Body.rank t.body == 3
  | none => false

/-- The eighth consecutive failure (R43, R58). -/
def State.eighthFailure (hail : Bool) (s : State) : State :=
  if hail && s.station == .joining then s.enterInert.setFlag .joinRefused
  else (s.setFlag .lineFault).modLiu fun l => { l with retryPause := some 0 }

/-- The sender drives the VOID slot of its own frame when it read a bit back wrongly, and otherwise drives neither slot
(R37). -/
def State.voidOwn (mismatch : Bool) (s : State) : State :=
  if mismatch then s.modLiu fun l => { l with mark := .void } else s

/-- A failed attempt: its own VOID, counted, returned, tested (R37, R41, R43, R47). -/
def State.failAttempt (mismatch : Bool) (s : State) : State :=
  let s := s.voidOwn mismatch
  let hail := s.sendsHail
  let s := (s.returnFrame.modLiu fun l => { l with failCount := min (l.failCount + 1) 8 }).countAttemptFailed
  if s.liu.failCount = 8 then s.eighthFailure hail else s

/-- ATTEMPT_FAILS (R41). -/
def execAttemptFails (s : State) (mismatch : Bool := false) : Result :=
  event (s.onLine && s.liu.tx.isSome) (State.failAttempt mismatch) s

/-- The pause is over: the failure count is 0 again (R44). -/
def State.resumeLine (s : State) : State := s.modLiu fun l => { l with retryPause := none, failCount := 0 }

/-- RETRY_PAUSE_EXPIRES (R44). -/
def execRetryPauseExpires (s : State) : Result := event (s.onLine && s.liu.retryPause.isSome) State.resumeLine s

/-- What a station does with another's frame that did not land: the slot it drives by its own judgement (R39), and INERT
from SYNCING on a KEEP damaged on its profile code alone (R56). -/
def State.notLanded (bits : List Bool) (s : State) : State :=
  match receive bits with
  | some f => if Frame.intactAt s.own s.profile f then s.modLiu fun l => { l with mark := .seen, turns := 0 } else s.voidFrame f
  | none => s.modLiu fun l => { l with mark := .void, turns := 0 }

/-- FRAME_NOT_LANDED (R38, R40): no copy changes. -/
def execFrameNotLanded (bits : List Bool) (s : State) (turns : Nat := 0) : Result :=
  event (s.heard turns) (State.notLanded bits) s

/-- PARTIAL_FRAME_DROPPED (R32): not marked by anyone, not a landing, no failed attempt for any receiver. -/
def execPartialFrameDropped (s : State) : Result := .next s

end Sys2Proof.Machine
end

