-- ==== Sys2Proof/Machine/Operands.lean ====
section
/-! DEFINITION. What a command's operands mean: the demand input's voltage as a level, and the numbers a service-line
command carries (R101, R142, R204, R207). -/

namespace Sys2Proof.Machine

/-- The level a demand input presents, in whole percent; `none` when the reading is out of span (R207). -/
def demandReading (millivolts : Nat) : Option Nat :=
  if millivolts < 400 || 2600 < millivolts then none
  else if millivolts ≤ 500 then some 0
  else if 2500 ≤ millivolts then some 100
  else some ((millivolts - 500) / 20)

/-- The channel a service-line command names, 1 to 16 (R204). -/
def channelOf (n : Byte) : Option Chan :=
  if 1 ≤ n.toNat ∧ n.toNat ≤ 16 then some (Fin.ofNat 16 (n.toNat - 1)) else none

/-- The entry a service-line command names, 1 to 32 (R204). -/
def stationOf (n : Byte) : Option Stn :=
  if 1 ≤ n.toNat ∧ n.toNat ≤ 32 then some (Fin.ofNat 32 (n.toNat - 1)) else none

/-- The level and out-of-range mark an outlet takes from a reading: out of span counts as level 0 (R101, R142). -/
def Outlet.takeReading (reading : Option Nat) (o : Outlet) : Outlet :=
  { o with level := reading.getD 0, outOfRange := reading.isNone }

/-- The guard SET-GUARD asks for, if its five arguments are in range; the command uses those its mode names (R157, R204). -/
def guardOf (old : Guard) (mode count side complement : Byte) (flags : BitVec 16) : Option Guard :=
  if 1 < mode.toNat ∨ 16 < count.toNat ∨ 1 < side.toNat ∨ 1 < complement.toNat then none
  else if mode = 1 then some { old with mode := .each, flags := flags }
  else some { old with
    mode := .range
    count := count.toNat
    side := if side = 1 then .bottom else .top
    complement := complement = 1 }

end Sys2Proof.Machine
end

