-- ==== Sys2Proof/Machine/OutletEvents.lean ====
section
/-! DEFINITION. The field inputs and timers of the outlets (chapters 5, 6 and 8). The level at a pin is kept whether or not
the station takes the input. -/

namespace Sys2Proof.Machine

/-- The event is taken by the outlet of the channel when its condition holds of the settings and the record. -/
def State.outletTakes (s : State) (ch : Chan) (cond : OutletCfg → Outlet → Bool) : Bool :=
  s.acts && (s.outletCfg? ch).any fun c => cond c (s.outlet ch)

def State.setDemandPin (ch : Chan) (mv : Nat) (s : State) : State :=
  { s with pins := { s.pins with demand := s.pins.demand.set ch mv } }

def State.setCallPin (ch : Chan) (level : Bool) (s : State) : State :=
  { s with pins := { s.pins with call := s.pins.call.set ch level } }

def State.setInPositionPin (ch : Chan) (level : Bool) (s : State) : State :=
  { s with pins := { s.pins with inPosition := s.pins.inPosition.set ch level } }

/-- A reading leaves the span with the outlet not in OFF: DEMAND-RANGE, once the outlet has followed its level (R142,
R189). -/
def State.takeDemand (ch : Chan) (mv : Nat) (s : State) : State :=
  let excursion := !(s.outlet ch).outOfRange && (demandReading mv).isNone && (s.outlet ch).state != .off
  let s := s.modOutlet ch (Outlet.takeReading (demandReading mv))
  if excursion then s.outletPhase.reportFault .demandRange ch else s

/-- DEMAND_INPUT_CHANGE (R101, R142). -/
def execDemandInputChange (ch : Chan) (mv : Nat) (s : State) : Result :=
  let s := s.setDemandPin ch mv
  event (s.outletTakes ch fun c _ => c.modulating?.isSome) (State.takeDemand ch mv) s

/-- An idle timer at its limit: STANDBY, and the pulse timer starts (R103, R107). -/
def Outlet.enterStandby (o : Outlet) : Outlet :=
  { o with state := .standby, idleTimer := .stopped, pulsePhase := .none, pulseTimer := some 0, pulseLength := none }

def IdleTimer.runs : IdleTimer → Bool
  | .running _ => true
  | .stopped => false
  | .held => false

/-- IDLE_TIMER_EXPIRES (R103). -/
def execIdleTimerExpires (ch : Chan) (s : State) : Result :=
  event (s.outletTakes ch fun c o => c.modulating?.isSome && o.state == .idle && o.idleTimer.runs)
    (State.modOutlet ch Outlet.enterStandby) s

/-- A pulse timer at its period (R107, R108, R111); it restarts at each expiry. -/
def State.expirePulse (ch : Chan) (m : ModulatingCfg) (s : State) : State :=
  let o := s.outlet ch
  let s := s.modOutlet ch fun o => { o with pulseTimer := some 0 }
  match o.pulsePhase with
  | .none =>
    if 0 < m.pulseDraw ∧ s.isMember then s.modOutlet ch fun o => { o with pulsePhase := .requested } else s
  | .requested => (s.modOutlet ch fun o => { o with pulsePhase := .none }).countPulseMissed
  | .opening => s
  | .held => s
  | .closing => s

/-- PULSE_TIMER_EXPIRES (R107). -/
def execPulseTimerExpires (ch : Chan) (s : State) : Result :=
  event (s.outletTakes ch fun c o => c.modulating?.isSome && o.state == .standby && o.pulseTimer.isSome)
    (fun t =>
      match (t.outletCfg? ch).bind OutletCfg.modulating? with
      | some m => t.expirePulse ch m
      | none => t) s

/-- PULSE_LENGTH_TIMER_EXPIRES (R110): the pulse has run its course. -/
def execPulseLengthTimerExpires (ch : Chan) (s : State) : Result :=
  event (s.outletTakes ch fun c o => c.modulating?.isSome && o.pulsePhase == .held && o.pulseLength.isSome)
    (State.modOutlet ch fun o => { o with pulsePhase := .closing, pulseLength := none }) s

/-- A rising in-position: a valve MOVING and seen deasserted settles, a drift timer stops (R135, R139). -/
def State.inPositionUp (ch : Chan) (s : State) : State :=
  let o := s.outlet ch
  if o.moving then (if o.seenDeasserted then s.settleValve ch else s) else s.modOutlet ch fun o => { o with drift := none }

/-- IN_POSITION_RISES (R135, R139). -/
def execInPositionRises (ch : Chan) (s : State) : Result :=
  let risen := !s.pins.inPosition[ch]
  let s := s.setInPositionPin ch true
  event (risen && s.outletTakes ch fun c _ => OutletCfg.feedback c) (State.inPositionUp ch) s

/-- A falling in-position: the deasserted mark is set; on a SETTLED valve the drift timer starts (R135, R139). -/
def Outlet.inPositionDown (o : Outlet) : Outlet :=
  { o with seenDeasserted := true, drift := if o.moving then o.drift else some 0 }

/-- IN_POSITION_FALLS (R135, R139). -/
def execInPositionFalls (ch : Chan) (s : State) : Result :=
  let fallen := s.pins.inPosition[ch]
  let s := s.setInPositionPin ch false
  event (fallen && s.outletTakes ch fun c _ => OutletCfg.feedback c) (State.modOutlet ch Outlet.inPositionDown) s

/-- STROKE_TIMER_EXPIRES (R136): a valve without feedback settles. -/
def execStrokeTimerExpires (ch : Chan) (s : State) : Result :=
  event (s.outletTakes ch fun c o => c.valve?.isSome && !OutletCfg.feedback c && o.moving) (State.settleValve ch) s

/-- One and a half stroke times, in half-seconds (R137, R138). -/
def OutletCfg.overrunTicks (c : OutletCfg) : Nat := OutletCfg.strokeTicks c + OutletCfg.strokeTicks c / 2

/-- An overrun reports once for each stuck stroke (R138). -/
def State.overrunStroke (ch : Chan) (ticks : Nat) (s : State) : State :=
  let first := !(s.outlet ch).overrun
  let s := s.modOutlet ch fun o => { o with stroke := some ticks, overrun := true }
  if first then s.reportFault .strokeOverrun ch else s

/-- STROKE_OVERRUN (R138). -/
def execStrokeOverrun (ch : Chan) (s : State) : Result :=
  event (s.outletTakes ch fun c o => OutletCfg.feedback c && o.moving && Timer.below (OutletCfg.overrunTicks c) o.stroke)
    (fun t =>
      match t.outletCfg? ch with
      | some c => t.overrunStroke ch (OutletCfg.overrunTicks c)
      | none => t) s

/-- DRIFT (R139): reported once, the timer holds at the stroke time. -/
def execDrift (ch : Chan) (s : State) : Result :=
  event (s.outletTakes ch fun c o => OutletCfg.feedback c && !o.moving && Timer.below (OutletCfg.strokeTicks c) o.drift)
    (fun t =>
      match t.outletCfg? ch with
      | some c => (t.modOutlet ch fun o => { o with drift := some (OutletCfg.strokeTicks c) }).reportFault .drift ch
      | none => t) s

/-- METER_PULSE (R140): each rising edge counts one pulse, in a window that runs. -/
def execMeterPulse (ch : Chan) (s : State) : Result :=
  quietEvent (s.outletTakes ch (fun _ _ => true) && s.meterWindow.isSome)
    (State.modOutlet ch fun o => { o with pulses := countUp o.pulses }) s

/-- The overdraw limit of a window (R141). -/
def overdrawLimit (bound tolerance : Nat) : Nat := bound * (100 + tolerance) / 100 + 1

/-- The window is an excess window (R141). -/
def OutletCfg.isExcess (c : OutletCfg) (o : Outlet) (metered : Nat) : Bool :=
  !o.wasOff && overdrawLimit o.largestBound c.tolerance < metered

/-- The excess count after a window (R141). -/
def OutletCfg.excessAfter (c : OutletCfg) (o : Outlet) (metered : Nat) : Nat :=
  if OutletCfg.isExcess c o metered then min (o.excess + 1) c.persistence else 0

/-- The own-flow test is made and finds activity (R104). -/
def OutletCfg.ownFlowEvent (c : OutletCfg) (o : Outlet) (metered : Nat) : Bool :=
  (c.modulating?.any fun m => m.ownFlow) && o.shut && 1 < metered

/-- An own-flow activity event: the idle timer restarts, or STANDBY is left (R104, R106). -/
def Outlet.ownFlow (o : Outlet) : Outlet :=
  match o.state with
  | .idle => if o.idleTimer = .held then o else { o with idleTimer := .running 0 }
  | .standby => o.wake (.running 0)
  | .off => o
  | .active => o
  | .waiting => o
  | .running => o
  | .suspended => o
  | .fault => o

/-- The record's own part of a window's end: the metered draw kept, the counts begun anew (R140). -/
def OutletCfg.endWindow (c : OutletCfg) (o : Outlet) : Outlet :=
  let metered := o.pulses * c.pulseWeight
  let o' := { o with
    metered := metered
    excess := OutletCfg.excessAfter c o metered
    pulses := 0
    largestBound := 0
    wasOff := false
    shut := true }
  if OutletCfg.ownFlowEvent c o metered then o'.ownFlow else o'

/-- The end of the window finds the count reach the persistence (R141). -/
def OutletCfg.overdraws (c : OutletCfg) (o : Outlet) : Bool :=
  OutletCfg.excessAfter c o (o.pulses * c.pulseWeight) == c.persistence && o.excess < c.persistence

/-- The end of a window for one outlet: its record, then an OVERDRAW when the count reaches the persistence (R140, R141). -/
def windowStep (ch : Chan) (s : State) : State :=
  match s.outletCfg? ch with
  | some c =>
    let overdraw := OutletCfg.overdraws c (s.outlet ch)
    let s := s.modOutlet ch (OutletCfg.endWindow c)
    if overdraw then s.reportFault .overdraw ch else s
  | none => s

/-- METER_WINDOW_ENDS (R140). -/
def execMeterWindowEnds (s : State) : Result :=
  event (s.acts && s.meterWindow.isSome) (fun t => forEach channels windowStep { t with meterWindow := some 0 }) s

/-- A rising call edge (R161). -/
def Outlet.callRises (b : BatchCfg) (o : Outlet) : Outlet :=
  match o.state with
  | .idle => if o.endOfRun then { o with repeatFlag := true } else o.beginRun b
  | .waiting => { o with repeatFlag := true }
  | .running => { o with repeatFlag := true }
  | .suspended => { o with repeatFlag := true }
  | .off => o
  | .active => o
  | .standby => o
  | .fault => o

/-- CALL_INPUT_RISES (R161). -/
def execCallInputRises (ch : Chan) (s : State) : Result :=
  let risen := !s.pins.call[ch]
  let s := s.setCallPin ch true
  event (risen && s.outletTakes ch fun c _ => c.batch?.isSome)
    (fun t =>
      match (t.outletCfg? ch).bind OutletCfg.batch? with
      | some b => t.modOutlet ch (Outlet.callRises b)
      | none => t) s

/-- CALL_INPUT_FALLS (R161): a falling edge has no effect but at the pin. -/
def execCallInputFalls (ch : Chan) (s : State) : Result := .next (s.setCallPin ch false)

/-- The end of a run (R169). -/
def State.endRun (ch : Chan) (s : State) : State :=
  (s.modOutlet ch fun o => { o with state := .idle, runRemaining := 0, endOfRun := true }).leaveStartOrder ch

/-- RUN_REMAINING_ZERO (R169). -/
def execRunRemainingZero (ch : Chan) (s : State) : Result :=
  event (s.outletTakes ch fun c o => c.batch?.isSome && o.state == .running && !o.moving) (State.endRun ch) s

/-- A spoilt run is discarded and a repeat begins (R168). -/
def Outlet.spoil (b : BatchCfg) (o : Outlet) : Outlet :=
  let o' := { o with state := .idle, desired := 0, runRemaining := 0, suspension := none }
  if o.repeatFlag then o'.beginRun b else o'

/-- A run is spoilt: counted, discarded, out of its queue, and then the response on the outlet as this leaves it (R168,
R189). -/
def State.spoilRun (ch : Chan) (b : BatchCfg) (s : State) : State :=
  ((((s.countRunSpoilt.leaveQueue ch).leaveStartOrder ch).modOutlet ch (Outlet.spoil b)).outletPhase).reportFault .runSpoilt ch

/-- RUN_SPOILT (R168). -/
def execRunSpoilt (ch : Chan) (s : State) : Result :=
  event (s.outletTakes ch fun c o => c.batch?.isSome && o.state == .suspended && o.suspension.isSome)
    (fun t =>
      match (t.outletCfg? ch).bind OutletCfg.batch? with
      | some b => t.spoilRun ch b
      | none => t) s

end Sys2Proof.Machine
end

