-- ==== Sys2Proof/Machine/Settings.lean ====
section
/-! DEFINITION. The settings image: its fields read from its 384 bytes, and the eight checks (R199 to R201). -/

namespace Sys2Proof.Machine

/-- The offset of a channel's record (R199). -/
def channelOffset (ch : Chan) : Nat := 62 + 20 * ch.val

/-- The offset of a service's block (R199). -/
def serviceOffset : Svc → Nat
  | .hw => 11
  | .st => 32

def inRange (lo hi n : Nat) : Bool := lo ≤ n && n ≤ hi

/-- Check 2: the tag, the version and the length (R199, R201). -/
def headerRight (b : List Byte) : Bool := byteAt b 0 == 166 && byteAt b 1 == 1 && byteAt b 2 == 48

/-- Check 3: the check sequence of bytes 0 to 381, stored uncomplemented (R199, R201). -/
def checkRight (b : List Byte) : Bool := (crc (bitsOfBytes (b.take 382))).toNat == wordAt b 382

/-- Check 4: station number, weight, N_inst and the profile times (R199, R201). -/
def stationRight (b : List Byte) : Bool :=
  inRange 1 32 (byteAt b 3) && inRange 1 63 (byteAt b 4) && inRange 1 32 (byteAt b 5) && inRange 1 10 (byteAt b 6)
    && inRange 5 120 (byteAt b 7) && inRange 2 60 (byteAt b 8)

/-- One service block as it stands (R199). -/
def readService (b : List Byte) (v : Svc) : ServiceCfg :=
  let o := serviceOffset v
  { bounds := ⟨wordAt b o, wordAt b (o + 2), wordAt b (o + 4), wordAt b (o + 6)⟩
    wantOn := wordAt b (o + 8)
    wantOff := wordAt b (o + 10)
    giveThreshold := wordAt b (o + 12)
    giveHold := byteAt b (o + 14)
    callDelay := wordAt b (o + 15)
    dropMargin := wordAt b (o + 17)
    dropHold := wordAt b (o + 19) }

/-- Check 5 for one service: ranges, ascending bounds, want-off below want-on (R199, R201). -/
def serviceRight (c : ServiceCfg) : Bool :=
  c.bounds.c0 ≤ c.bounds.c1 && c.bounds.c1 ≤ c.bounds.c2 && c.bounds.c2 ≤ c.bounds.c3 && c.bounds.c3 ≤ 4095
    && inRange 1 4095 c.wantOn && c.wantOff ≤ 4094 && c.wantOff < c.wantOn && inRange 1 4095 c.giveThreshold
    && inRange 1 60 c.giveHold && inRange 1 600 c.callDelay && c.dropMargin ≤ 4095 && inRange 10 1800 c.dropHold

/-- Check 6: options, guard count, fault-response entries, alert mask (R199, R201). -/
def optionsRight (b : List Byte) : Bool :=
  byteAt b 53 ≤ 15 && byteAt b 54 ≤ 16 && byteAt b 55 ≤ 2 && byteAt b 56 ≤ 2 && byteAt b 57 ≤ 2 && byteAt b 58 ≤ 2
    && byteAt b 59 ≤ 2 && wordAt b 60 ≤ 511

/-- The fields of an outlet record that every outlet use reads (R200). The switches byte is read for every outlet. -/
def outletCommonRight (b : List Byte) (o : Nat) : Bool :=
  byteAt b (o + 1) ≤ 1 && byteAt b (o + 2) ≤ 3 && byteAt b (o + 4) ≤ 31 && inRange 1 255 (byteAt b (o + 5))
    && byteAt b (o + 6) ≤ 100 && inRange 1 10 (byteAt b (o + 7))

/-- Check 7 for one channel: every field read for its use is in range, and the draws do not exceed the rated draw (R98,
R174, R200, R201). -/
def channelRight (b : List Byte) (ch : Chan) : Bool :=
  let o := channelOffset ch
  match byteAt b o with
  | 0 => true
  | 1 => outletCommonRight b o && byteAt b (o + 3) ≤ 3 && inRange 1 1023 (wordAt b (o + 8))
      && wordAt b (o + 10) ≤ wordAt b (o + 8) && inRange 5 120 (byteAt b (o + 12)) && inRange 1 240 (byteAt b (o + 13))
      && inRange 1 120 (byteAt b (o + 14)) && inRange 10 600 (wordAt b (o + 15))
      && wordAt b (o + 17) ≤ wordAt b (o + 8)
  | 2 => outletCommonRight b o && byteAt b (o + 3) ≤ 3 && inRange 1 1023 (wordAt b (o + 8))
      && inRange 1 (wordAt b (o + 8)) (wordAt b (o + 10)) && inRange 5 120 (byteAt b (o + 12))
      && inRange 1 7200 (wordAt b (o + 13)) && inRange 1 600 (wordAt b (o + 15)) && inRange 1 3600 (wordAt b (o + 17))
  | 3 => outletCommonRight b o && inRange 1 1023 (wordAt b (o + 8))
  | 4 => byteAt b (o + 1) ≤ 1 && inRange 1 1023 (wordAt b (o + 2)) && inRange 1 16 (byteAt b (o + 4))
      && byteAt b (o + 5) ≤ 2 && inRange 30 1800 (wordAt b (o + 6)) && inRange 60 3600 (wordAt b (o + 8))
  | _ => false

/-- Check 8 for one channel: a stroke time read for an outlet is at most T_strokemax (R201). -/
def strokeRight (b : List Byte) (ch : Chan) : Bool :=
  let o := channelOffset ch
  if byteAt b o == 1 || byteAt b o == 2 then byteAt b (o + 12) ≤ byteAt b 7 else true

/-- The number of the first of checks 2 to 8 that fails, or 0 when the image is valid (R201). -/
def failedCheck (b : List Byte) : Nat :=
  if !headerRight b then 2
  else if !checkRight b then 3
  else if !stationRight b then 4
  else if !(serviceRight (readService b .hw) && serviceRight (readService b .st)) then 5
  else if !optionsRight b then 6
  else if !(channels.all (channelRight b)) then 7
  else if !(channels.all (strokeRight b)) then 8
  else 0

def svcOfNat (n : Nat) : Svc := if n == 0 then .hw else .st

def clsOfNat : Nat → Cls
  | 0 => .c0
  | 1 => .c1
  | 2 => .c2
  | _ => .c3

def responseOfNat : Nat → Response
  | 0 => .note
  | 1 => .isolate
  | _ => .withdraw

def modeOfNat : Nat → StageMode
  | 0 => .auto
  | 1 => .always
  | _ => .never

/-- The valve fields of a MODULATING or BATCH record (R200). -/
def readValve (b : List Byte) (o : Nat) : ValveCfg :=
  { group := byteAt b (o + 3), ratedDraw := wordAt b (o + 8), strokeTime := byteAt b (o + 12)
    feedback := bitOf (byteAt b (o + 4)) 2 }

/-- An outlet record of the kind given (R200). -/
def readOutletCfg (b : List Byte) (o : Nat) (kind : OutletKind) : OutletCfg :=
  { svc := svcOfNat (byteAt b (o + 1))
    cls := clsOfNat (byteAt b (o + 2))
    pulseWeight := byteAt b (o + 5)
    tolerance := byteAt b (o + 6)
    persistence := byteAt b (o + 7)
    enabledAtStart := bitOf (byteAt b (o + 4)) 0
    guardFlag := bitOf (byteAt b (o + 4)) 1
    kind := kind }

/-- A channel record (R200). -/
def readChannel (b : List Byte) (ch : Chan) : ChannelCfg :=
  let o := channelOffset ch
  match byteAt b o with
  | 1 => .outlet (readOutletCfg b o (.modulating (readValve b o)
      { minDraw := wordAt b (o + 10), idleTime := byteAt b (o + 13), ownFlow := bitOf (byteAt b (o + 4)) 3
        groupSource := bitOf (byteAt b (o + 4)) 4, pulsePeriod := byteAt b (o + 14), pulseLength := wordAt b (o + 15)
        pulseDraw := wordAt b (o + 17) }))
  | 2 => .outlet (readOutletCfg b o (.batch (readValve b o)
      { runDraw := wordAt b (o + 10), runLength := wordAt b (o + 13), waitLimit := wordAt b (o + 15)
        maxSuspension := wordAt b (o + 17) }))
  | 3 => .outlet (readOutletCfg b o (.monitor (wordAt b (o + 8))))
  | 4 => .stage
      { svc := svcOfNat (byteAt b (o + 1)), rating := wordAt b (o + 2), callOrder := byteAt b (o + 4)
        mode := modeOfNat (byteAt b (o + 5)), warmUpLimit := wordAt b (o + 6), lockoutTime := wordAt b (o + 8) }
  | _ => .unused

/-- The fields of a valid image (R199, R200). -/
def readImage (b : List Byte) : Image :=
  { own := Fin.ofNat 32 (byteAt b 3 - 1)
    weight := byteAt b 4
    nInst := byteAt b 5
    tKeep := byteAt b 6
    tStrokeMax := byteAt b 7
    tReclaim := byteAt b 8
    profile := BitVec.ofNat 16 (wordAt b 9)
    services := ⟨readService b .hw, readService b .st⟩
    rotating := bitOf (byteAt b 53) 3
    guardMode := if bitOf (byteAt b 53) 2 then .each else .range
    guardSide := if bitOf (byteAt b 53) 1 then .bottom else .top
    guardComplement := bitOf (byteAt b 53) 0
    guardCount := byteAt b 54
    responses := ⟨responseOfNat (byteAt b 55), responseOfNat (byteAt b 56), responseOfNat (byteAt b 57),
      responseOfNat (byteAt b 58), responseOfNat (byteAt b 59)⟩
    alertMask := BitVec.ofNat 9 (wordAt b 60)
    channels := Vector.ofFn fun ch => readChannel b ch }

/-- The guard the image sets: a flag for each OUTLET channel, clear for the others (R153). -/
def Image.guard (im : Image) : Guard :=
  { mode := im.guardMode
    count := im.guardCount
    side := im.guardSide
    complement := im.guardComplement
    flags := channels.foldl (fun acc ch =>
      match im.channels[ch] with
      | .outlet c => if c.guardFlag then acc ||| (1#16 <<< ch.val) else acc
      | .stage _ => acc
      | .unused => acc) 0 }

end Sys2Proof.Machine
end

