-- ==== Sys2Proof/Machine/Power.lean ====
section
/-! DEFINITION. Power-on, the RESET pin and the end of the settings read (R198 to R202). -/

namespace Sys2Proof.Machine

/-- POWER_ON: a full reset, and the read begins unless the RESET pin is asserted (R198). -/
def execPowerOn (s : State) : Result := .next s.fullReset

def State.setResetPin (level : Bool) (s : State) : State := { s with pins := { s.pins with reset := level } }

/-- RESET_PIN_ASSERTED: a full reset, held while the pin is asserted; no read begins (R198). -/
def execResetPinAsserted (s : State) : Result := .next (s.setResetPin true).fullReset

/-- RESET_PIN_RELEASED: the read begins (R198). -/
def execResetPinReleased (s : State) : Result :=
  quietEvent s.pins.reset (fun t => (t.setResetPin false).fullReset) s

/-- The Holding Manager's bands from an image (R77). -/
def ServiceHold.withBands (e : Per4 Nat) (h : ServiceHold) : ServiceHold :=
  let l := bandLimits e
  { h with classes := ⟨{ h.classes.c0 with effBound := e.c0, bandLimit := l.c0 },
      { h.classes.c1 with effBound := e.c1, bandLimit := l.c1 },
      { h.classes.c2 with effBound := e.c2, bandLimit := l.c2 },
      { h.classes.c3 with effBound := e.c3, bandLimit := l.c3 }⟩ }

def State.loadBands (im : Image) (s : State) : State :=
  { s with hold := ⟨s.hold.hw.withBands (Image.effectiveBounds im .hw), s.hold.st.withBands (Image.effectiveBounds im .st)⟩ }

/-- The first state of an outlet (R99), and its demand input's reading (R101, R142). -/
def firstOutlet (millivolts : Nat) : ChannelCfg → Outlet
  | .outlet c =>
    let o := if c.modulating?.isSome then Outlet.initial.takeReading (demandReading millivolts) else Outlet.initial
    if c.enabledAtStart then OutletCfg.enterUse c o else o
  | .stage _ => Outlet.initial
  | .unused => Outlet.initial

/-- A DEMAND-RANGE fault of an outlet whose mark is set at the load, in use (R142; log 24). -/
def loadFaultStep (ch : Chan) (s : State) : State :=
  if (s.outlet ch).outOfRange && (s.outlet ch).state != .off then s.reportFault .demandRange ch else s

/-- A valid image is frozen and handed to the blocks; the station enters SYNCING (R201). -/
def State.loadImage (bytes : List Byte) (s : State) : State :=
  let im := readImage bytes
  let s := s.modLoader fun l => { l with reading := false, image := some im, source := .frozen, bytes := bytes, failedCheck := 0 }
  let s := s.loadBands im
  let s := { s with
    outlets := Vector.ofFn fun ch => firstOutlet s.pins.demand[ch] im.channels[ch]
    stages := Vector.replicate 16 Stage.initial
    supply := Per2.both Supply.initial
    meterWindow := some 0 }
  let s := s.modApp fun a => { a with guard := Image.guard im }
  let s := s.modFru fun u => { u with responses := im.responses, alertMask := im.alertMask }
  forEach channels loadFaultStep s.enterSyncing.turnLine

/-- An invalid image: INERT, SETTINGS-INVALID, the bytes and the failed check kept (R201). -/
def State.rejectImage (source : ImageSource) (bytes : List Byte) (check : Nat) (s : State) : State :=
  (s.modLoader fun l => { l with reading := false, source := source, bytes := bytes, failedCheck := check }).enterInert.setFlag
    .settingsInvalid

/-- The end of the settings read (R201): check 1 is the status byte, 255 from a missing memory (R198). -/
def State.endRead (status : Byte) (bytes : List Byte) (s : State) : State :=
  if status = 255 then s.rejectImage .none [] 1
  else
    let b := fitBytes 384 bytes
    let check := failedCheck b
    if check = 0 then s.loadImage b else s.rejectImage .rejected b check

/-- SETTINGS_READ_COMPLETES (R201). -/
def execSettingsReadCompletes (status : Byte) (bytes : List Byte) (s : State) : Result :=
  event (!s.pins.reset && s.station == .start && s.loader.reading) (State.endRead status bytes) s

end Sys2Proof.Machine
end

