-- ==== Sys2Proof/Machine/MemoryPort.lean ====
section
/-! DEFINITION. What the Settings Loader sends at the memory port: the exchanges of the settings read and of the memory write,
each the bytes between the assertion and the release of SCS (R198, R206). The memory's answers are operands of the commands
that end the exchanges (log 19). -/

namespace Sys2Proof.Machine

/-- The status request; the memory then sends its status byte (R198). -/
def statusRequest : List Byte := [5]

/-- The read from offset 0; the memory then sends a byte for each byte clocked, 384 of them (R198). -/
def readRequest : List Byte := 3 :: byte2 0

/-- The exchange that opens each page's write (R206). -/
def writeEnable : List Byte := [6]

/-- A page of 32 bytes (R206). -/
def pageLength : Nat := 32

/-- The write of page n: the command, the page's address and its bytes of the staged image (R206). -/
def pageWrite (n : Nat) (staged : List Byte) : List Byte :=
  2 :: byte2 (pageLength * n) ++ (staged.drop (pageLength * n)).take pageLength

/-- The staged bytes, when every segment has been received (R206). -/
def stagedBytes (v : Vector (Option (List Byte)) 6) : Option (List Byte) :=
  match v[0], v[1], v[2], v[3], v[4], v[5] with
  | some a, some b, some c, some d, some e, some f => some (a ++ b ++ c ++ d ++ e ++ f)
  | _, _, _, _, _, _ => none

/-- The exchanges the Loader makes for the answer it waits for, in order. In the read the second follows a status other than
255; after a page's write the status request alone is repeated until its bit 0 reads 0. The status asked for before page 0
stands with that page (log 20). -/
def Loader.exchanges (l : Loader) : List (List Byte) :=
  if l.reading then [statusRequest, readRequest]
  else
    match l.write with
    | some (.page n) =>
      (if n = 0 then [statusRequest] else [])
        ++ [writeEnable, pageWrite n ((stagedBytes l.staging).getD []), statusRequest]
    | some (.polling _) => [statusRequest]
    | some .readBack => [readRequest]
    | none => []

/-- The same exchanges as bits on the data line, each byte's most significant bit first (R198). -/
def State.memoryLine (s : State) : List (List Bool) := (Loader.exchanges s.loader).map bitsOfBytes

end Sys2Proof.Machine
end

