-- ==== Sys2Proof/Machine/ServiceFrames.lean ====
section
/-! DEFINITION. The frames of the service line as bytes: a command frame's code and arguments, when it is malformed, and the
response frame that a reply goes out as (R203, R204). -/

namespace Sys2Proof.Machine

/-- The check byte: it makes the sum of the bytes from byte 1 to itself a multiple of 256 (R203). -/
def checkByte (body : List Byte) : Byte := -(body.foldl (· + ·) 0)

/-- The bytes from byte 1 to the check byte sum to a multiple of 256 (R203). -/
def frameCheckRight (l : List Byte) : Bool := ((l.drop 1).map BitVec.toNat).sum % 256 == 0

/-- The argument length of each command code; none for an unknown code (R204). -/
def argumentLength : Nat → Option Nat
  | 1 => some 1
  | 2 => some 1
  | 3 => some 1
  | 4 => some 1
  | 5 => some 0
  | 6 => some 2
  | 7 => some 1
  | 8 => some 1
  | 9 => some 1
  | 10 => some 6
  | 11 => some 0
  | 12 => some 1
  | 13 => some 65
  | _ => none

/-- The two-byte mask that starts at a place of the arguments, most significant byte first (R203). -/
def maskAt (args : List Byte) (i : Nat) : BitVec 16 := BitVec.ofNat 16 (wordAt args i)

/-- The command a code names, with its arguments as R204 lays them out; none for an unknown code. -/
def commandOfCode (code : Nat) (args : List Byte) : Option Instr :=
  let a := args.getD 0 0
  match code with
  | 1 => some (.readStation a)
  | 2 => some (.readEntry a)
  | 3 => some (.readOutlet a)
  | 4 => some (.readStage a)
  | 5 => some .readFlags
  | 6 => some (.clearFlags (maskAt args 0))
  | 7 => some (.enableOutlet a)
  | 8 => some (.disableOutlet a)
  | 9 => some (.clearOutlet a)
  | 10 => some (.setGuard a (args.getD 1 0) (args.getD 2 0) (args.getD 3 0) (maskAt args 4))
  | 11 => some .restart
  | 12 => some (.readSettings a)
  | 13 => some (.writeSettings a (args.drop 1))
  | _ => none

/-- The command of a completed frame; none when the frame is malformed: its check fails, its code is unknown, or its argument
length does not match the command (R203, R204). -/
def readCommand (l : List Byte) : Option Instr :=
  if frameCheckRight l && argumentLength (byteAt l 1) == some (byteAt l 2) then
    commandOfCode (byteAt l 1) ((l.drop 3).take (byteAt l 2))
  else none

/-- A completed frame is malformed (R203). -/
def malformed (l : List Byte) : Bool := (readCommand l).isNone

/-- The bytes of a frame are complete: as many as its length byte says (R203). -/
def frameComplete (l : List Byte) : Bool := 4 ≤ l.length && l.length == byteAt l 2 + 4

/-- One byte comes, `open'` being the bytes of the frame that is open, none when none is: a byte while no frame is open is
discarded until a start byte of 165 arrives, and the check byte ends the frame (R203). -/
def receiveByte (open' : List Byte) (b : Byte) : List Byte :=
  if open'.isEmpty then (if b = 165 then [b] else [])
  else if frameComplete (open' ++ [b]) then [] else open' ++ [b]

/-- The bytes of the frame left open by the bytes received, none when no frame is open (R203). -/
def openFrame (l : List Byte) : List Byte := l.foldl receiveByte []

/-- A frame is open: its start byte has come and its check byte has not (R203). -/
def frameOpen (l : List Byte) : Bool := !(openFrame l).isEmpty

/-- The frame that the last byte received ends, if it ends one (R203). -/
def endedFrame (l : List Byte) : Option (List Byte) :=
  let frame := openFrame l.dropLast ++ l.getLast?.toList
  if frameOpen l.dropLast && frameComplete frame then some frame else none

/-- The status byte of a response (R203). -/
def Status.code : Status → Nat
  | .done => 0
  | .busy => 1
  | .refused => 2
  | .locked => 3
  | .badArg => 4
  | .badFrame => 5

/-- The bytes of a response between its start byte and its check byte (R203). -/
def Reply.body (r : Reply) : List Byte := byte1 (Status.code r.status) ++ byte1 r.data.length ++ r.data

/-- The response frame a reply goes out as (R203). -/
def Reply.frame (r : Reply) : List Byte := 90 :: Reply.body r ++ [checkByte (Reply.body r)]

/-- The response frame on the service line: the first one decided and not yet sent; none while the line is idle (R203). -/
def State.responseFrame (s : State) : Option (List Byte) := s.serial.replies.head?.map Reply.frame

end Sys2Proof.Machine
end

