-- ==== Sys2Proof/Machine/ServiceCommands.lean ====
section
/-! DEFINITION. The commands of the service line that act, the memory write, the malformed frames and the sending of a
response (R115 to R119, R157, R194, R203 to R206). -/

namespace Sys2Proof.Machine

/-- CLEAR_FLAGS (R194). -/
def execClearFlags (mask : BitVec 16) (s : State) : Result :=
  serve (fun t =>
    if namesUnknownFlag mask then t.answer .badArg [] else (t.clearFlagMask (lowFlags mask)).answer .done []) s

/-- An outlet command: REFUSED in START and INERT, BAD-ARG for an n that is not an OUTLET channel, otherwise the command's
own act (R204). -/
def State.outletCommand (n : Byte) (act : Chan → OutletCfg → State → State) (s : State) : State :=
  if s.station.stopped then s.answer .refused []
  else
    match channelOf n with
    | some ch =>
      match s.outletCfg? ch with
      | some c => act ch c s
      | none => s.answer .badArg []
    | none => s.answer .badArg []

/-- An outlet leaves OFF: its state of use, and DEMAND-RANGE when its mark is set (R115, R142), also where it came to OFF from
FAULT with its input out of span all along, for which R191 has no such report (DESIGN CHOICE between rules, unsafe: log 44). -/
def State.enable (ch : Chan) (c : OutletCfg) (s : State) : State :=
  let s := s.modOutlet ch (OutletCfg.enterUse c)
  if (s.outlet ch).outOfRange then s.outletPhase.reportFault .demandRange ch else s

/-- ENABLE-OUTLET's table (R115). -/
def State.enableCommand (ch : Chan) (c : OutletCfg) (s : State) : State :=
  match (s.outlet ch).state with
  | .off => ((s.answer .done []).enable ch c).settle
  | .fault => s.answer .refused []
  | .running => ((s.answer .done []).modOutlet ch fun o => { o with disablePending := false }).settle
  | .idle => s.answer .done []
  | .active => s.answer .done []
  | .standby => s.answer .done []
  | .waiting => s.answer .done []
  | .suspended => s.answer .done []

/-- ENABLE_OUTLET (R115). -/
def execEnableOutlet (n : Byte) (s : State) : Result := serve (State.outletCommand n State.enableCommand) s

/-- DISABLE-OUTLET by state (R116, R117, R119, R169). -/
def State.disable (ch : Chan) (s : State) : State :=
  match (s.outlet ch).state with
  | .off => s
  | .fault => (s.takeOut .off ch).modOutlet ch fun o => { o with faultKind := none }
  | .running => s.modOutlet ch fun o => { o with disablePending := true }
  | .idle => s.takeOut .off ch
  | .active => s.takeOut .off ch
  | .standby => s.takeOut .off ch
  | .waiting => s.takeOut .off ch
  | .suspended => s.takeOut .off ch

/-- DISABLE_OUTLET (R116, R117, R119). The reply in FAULT is DONE too, where R117 and R119 give none (DESIGN CHOICE, unsafe:
log 47). -/
def execDisableOutlet (n : Byte) (s : State) : Result :=
  serve (State.outletCommand n fun ch _ t => ((t.answer .done []).disable ch).settle) s

/-- CLEAR-OUTLET: an outlet in FAULT with its valve SETTLED returns to use (R119). -/
def State.clearCommand (ch : Chan) (c : OutletCfg) (s : State) : State :=
  if (s.outlet ch).state = .fault ∧ (s.outlet ch).moving = false then
    ((s.answer .done []).modOutlet ch fun o => OutletCfg.enterUse c { o with faultKind := none }).settle
  else s.answer .refused []

/-- CLEAR_OUTLET (R119). -/
def execClearOutlet (n : Byte) (s : State) : Result := serve (State.outletCommand n State.clearCommand) s

/-- SET-GUARD's table (R157). -/
def State.guardCommand (mode count side complement : Byte) (flags : BitVec 16) (s : State) : State :=
  if s.pins.lock then s.answer .locked []
  else if s.station.stopped then s.answer .refused []
  else
    match guardOf s.app.guard mode count side complement flags with
    | some g => ((s.answer .done []).modApp fun a => { a with guard := g }).settle
    | none => s.answer .badArg []

/-- SET_GUARD (R157). -/
def execSetGuard (mode count side complement : Byte) (flags : BitVec 16) (s : State) : Result :=
  serve (State.guardCommand mode count side complement flags) s

/-- LOCK_INPUT_CHANGES (R157). -/
def execLockInputChanges (level : Bool) (s : State) : Result := .next { s with pins := { s.pins with lock := level } }

/-- RESTART (R70, R204). -/
def execRestart (s : State) : Result := serve (fun t => (t.answer .done []).requestRestart.settle) s

/-- Store a segment and mark it received (R206). -/
def State.stage64 (k : Fin 6) (data : List Byte) (s : State) : State :=
  s.modLoader fun l => { l with staging := l.staging.set k (some data) }

/-- Segment 5: the staged image is checked and the write begins, the command staying in progress (R206). -/
def State.tryWrite (s : State) : State :=
  match stagedBytes s.loader.staging with
  | some b =>
    let check := failedCheck b
    if check = 0 then (s.modLoader fun l => { l with write := some (.page 0) }).modSerial fun l => { l with busy := true }
    else s.answer .badArg (byte1 check)
  | none => s.answer .badArg []

/-- INERT and HALTED, where WRITE-SETTINGS is taken (R206). -/
def Station.takesWrites : Station → Bool
  | .inert => true
  | .halted _ => true
  | .start => false
  | .syncing => false
  | .joining => false
  | .member => false
  | .orphan => false

/-- WRITE-SETTINGS in INERT or HALTED (R206). -/
def State.writeCommand (segment : Byte) (data : List Byte) (s : State) : State :=
  if !s.station.takesWrites then s.answer .refused []
  else if 5 < segment.toNat then s.answer .badArg []
  else
    let s := s.stage64 (Fin.ofNat 6 segment.toNat) data
    if segment.toNat = 5 then s.tryWrite else s.answer .done []

/-- A malformed frame is answered BAD-FRAME and has no other effect (R203). -/
def State.badFrameReply (s : State) : State := if s.pins.reset then s else s.reply ⟨.badFrame, [], false⟩

/-- WRITE_SETTINGS (R206); without its 64 bytes the frame is malformed (R204). -/
def execWriteSettings (segment : Byte) (data : List Byte) (s : State) : Result :=
  if data.length = 64 then serve (State.writeCommand segment data) s else .next s.badFrameReply

/-- The write ends and its response is decided (R206). -/
def State.endWrite (status : Status) (data : List Byte) (s : State) : State :=
  (s.modLoader fun l => { l with write := none }).answer status data

/-- The phase after a status that is not 255, asked for at page n: with bit 0 at 1 the status alone is asked again, else the
next page or the read-back follows (R206). -/
def WritePhase.after (status : Byte) (n : Nat) : WritePhase :=
  if status.getLsbD 0 then .polling n else if n + 1 < 12 then .page (n + 1) else .readBack

/-- The status at page n: 255 ends the write, any other leads on (R206). -/
def State.pageWritten (status : Byte) (n : Nat) (s : State) : State :=
  if status = 255 then s.endWrite .refused (byte1 1)
  else s.modLoader fun l => { l with write := some (WritePhase.after status n) }

/-- SETTINGS_PAGE_WRITTEN (R206). -/
def execSettingsPageWritten (status : Byte) (s : State) : Result :=
  match s.loader.write with
  | some (.page n) => quietEvent (!s.pins.reset) (State.pageWritten status n) s
  | some (.polling n) => quietEvent (!s.pins.reset) (State.pageWritten status n) s
  | some .readBack => .next s
  | none => .next s

/-- The read-back is compared with the staged bytes (R206). -/
def State.compareWrite (readBack : List Byte) (s : State) : State :=
  if some (fitBytes 384 readBack) = stagedBytes s.loader.staging then
    (s.modLoader fun l => { l with staging := Vector.replicate 6 none }).endWrite .done []
  else s.endWrite .refused (byte1 2)

/-- The end of a memory write: a status of 255 at any request, or the read-back (R206). -/
def State.writeCompletes (status : Byte) (readBack : List Byte) (s : State) : State :=
  match s.loader.write with
  | some phase =>
    if status = 255 then s.endWrite .refused (byte1 1)
    else
      match phase with
      | .readBack => s.compareWrite readBack
      | .page _ => s
      | .polling _ => s
  | none => s

/-- SETTINGS_WRITE_COMPLETES (R206). -/
def execSettingsWriteCompletes (status : Byte) (readBack : List Byte) (s : State) : Result :=
  quietEvent (!s.pins.reset) (State.writeCompletes status readBack) s

/-- BAD_FRAME (R203). Bytes whose last one ends no frame, or a well-formed one, are no such event. -/
def execBadFrame (bytes : List Byte) (s : State) : Result :=
  .next (if (endedFrame bytes).any malformed then s.badFrameReply else s)

/-- SERVICE_BYTE_GAP_TIMEOUT after the bytes received since the last frame's end (R203): the frame that was open is malformed. A
gap with no frame open, as after a reset that lost one half received, is no such event. -/
def execServiceByteGapTimeout (s : State) (bytes : List Byte := [165]) : Result :=
  .next (if frameOpen bytes then s.badFrameReply else s)

/-- The first response decided has been sent; after that of the command in progress a waiting full reset follows (R204). -/
def State.sent (r : Reply) (rest : List Reply) (s : State) : State :=
  let s := s.modSerial fun l => { l with replies := rest, busy := l.busy && !r.ofCommand }
  if r.ofCommand && s.serial.resetWaiting then s.fullReset else s

/-- RESPONSE_SENT (R204). -/
def execResponseSent (s : State) : Result :=
  match s.serial.replies with
  | r :: rest => .next (s.sent r rest)
  | [] => .next s

end Sys2Proof.Machine
end

