-- ==== Sys2Proof/Machine/Report.lean ====
section
/-! DEFINITION. The data of the responses: what each reading command returns, coded as R203 gives (R31, R52, R74, R96, R120,
R144, R159, R173, R187, R197, R205). The order inside nested items is log 18. -/

namespace Sys2Proof.Machine

/-- An item returned under a condition: the condition's byte, then the item, or as many zero bytes (R203). -/
def underCondition {α : Type} (o : Option α) (width : Nat) (f : α → List Byte) : List Byte :=
  match o with
  | some a => 1 :: f a
  | none => 0 :: List.replicate width 0

/-- A list: its count, then its items (R203). -/
def listItem {α : Type} (l : List α) (f : α → List Byte) : List Byte := byte1 l.length ++ l.flatMap f

/-- A channel by its number, 1 to 16. -/
def chanByte (ch : Chan) : List Byte := byte1 (ch.val + 1)

/-- A station by its number, 1 to 32. -/
def stnByte (n : Stn) : List Byte := byte1 (n.val + 1)

def seqByte (q : BitVec 8) : List Byte := [q]

def stationCode : Station → Nat
  | .start => 0
  | .inert => 1
  | .syncing => 2
  | .joining => 3
  | .member => 4
  | .orphan => 5
  | .halted _ => 6

def leaveCode : LeaveMark → Nat
  | .none => 0
  | .withdraw => 1
  | .restart => 2

def svcCode : Svc → Nat
  | .hw => 0
  | .st => 1

def kindCode (c : OutletCfg) : Nat :=
  match c.kind with
  | .modulating _ _ => 1
  | .batch _ _ => 2
  | .monitor _ => 3

/-- The setting of a channel (R203). -/
def settingCode : ChannelCfg → Nat
  | .unused => 0
  | .outlet c => kindCode c
  | .stage _ => 4

def outletCode : OutletState → Nat
  | .off => 0
  | .idle => 1
  | .active => 2
  | .standby => 3
  | .waiting => 4
  | .running => 5
  | .suspended => 6
  | .fault => 7

def phaseCode : PulsePhase → Nat
  | .none => 0
  | .requested => 1
  | .opening => 2
  | .held => 3
  | .closing => 4

def faultCode : Option FaultKind → Nat
  | none => 0
  | some .strokeOverrun => 1
  | some .drift => 2
  | some .overdraw => 3
  | some .demandRange => 4
  | some .runSpoilt => 5

def stageCode : StageState → Nat
  | .down => 0
  | .called => 1
  | .ready => 2
  | .tripped => 3
  | .lockout => 4

def modeCode : StageMode → Nat
  | .auto => 0
  | .always => 1
  | .never => 2

def termCode : KeepTerm → Nat
  | .normal => 0
  | .shortage => 1
  | .reclaim => 2

/-- The withdrawal has ended; a condition of HALTED alone (R74). -/
def haltedEnd : Station → Option Bool
  | .halted ended => some ended
  | .start => none
  | .inert => none
  | .syncing => none
  | .joining => none
  | .member => none
  | .orphan => none

def idleBytes : IdleTimer → List Byte
  | .stopped => byteTimer none
  | .running n => byteTimer (some n)
  | .held => byteTimer (some 0)

/-- C, H and F of a service (R31, R203). -/
def totalsOf (c : Copy) (v : Svc) : List Byte :=
  byte2 (capacity c v) ++ byte3 (held c v) ++ signed3 (free c v)

/-- The Membership Controller's items (R74). -/
def membershipItems (s : State) : List Byte :=
  byte1 (stationCode s.station) ++ underCondition (haltedEnd s.station) 1 byteOfBool ++ byte1 (leaveCode s.memb.leaveMark)
    ++ byteTimer s.memb.ownLanding ++ underCondition s.memb.syncWindow 2 (fun n => byteTimer (some n))
    ++ byte1 s.heardCount ++ byte1 (memberCount s.ledger.copy)
    ++ listItem s.ledger.candidates (fun p => stnByte p.1 ++ seqByte p.2) ++ byteOfBool s.memb.lapseSelfRequested

/-- The LAPSE waiting or in transmission (R52). -/
def State.lapseFrame (s : State) : Option (Stn × BitVec 8) :=
  match s.txLapse with
  | some p => some p
  | none => s.liu.queue.lapse.map fun l => (l.target, l.targetSeq)

/-- The LIU's items (R52). The waiting amount of a GIVE key is R46's, the GIVE in transmission included (DESIGN CHOICE, unsafe:
log 39). -/
def liuItems (s : State) : List Byte :=
  seqByte s.liu.seqCounter ++ byte1 s.liu.failCount ++ byteOfBool s.liu.retryPause.isSome
    ++ keys.flatMap (fun key => byteOfBool (s.liu.queue.waitsAt key))
    ++ serviceClasses.flatMap (fun p => byte2 (s.waitingGive p.1 p.2))
    ++ underCondition s.lapseFrame 2 (fun p => stnByte p.1 ++ seqByte p.2)
    ++ underCondition s.liu.tx 1 (fun t => byte1 (Body.rank t.body))

/-- Station number, settings version and profile code (R205); 0 while no image is loaded (log 36). -/
def identityItems (s : State) : List Byte :=
  match s.loader.image with
  | some im => stnByte im.own ++ byte1 1 ++ byte2 im.profile.toNat
  | none => byte1 0 ++ byte1 0 ++ byte2 0

def page0 (s : State) : List Byte :=
  identityItems s ++ byteOfBool s.pins.lock ++ membershipItems s ++ liuItems s
    ++ services.flatMap (totalsOf s.ledger.copy) ++ byte1 (memberCount s.ledger.copy)

/-- The Holding Manager's items of one class (R96). -/
def classItems (s : State) (v : Svc) (k : Cls) : List Byte :=
  let c := s.classHold v k
  byte2 c.bandLimit ++ byte2 (s.demand v k) ++ byte2 (s.target v k) ++ byte2 (s.unmet v k)
    ++ byteTimer c.spareTimer ++ byteOfBool c.releasing ++ byte2 c.keep ++ byte1 (termCode c.keepTerm)
    ++ byte2 (s.guardedTotal v k) ++ byte2 c.carriedShortage ++ byte2 c.carriedReclaim

/-- The Holding Manager's items of one service (R96). An outstanding TAKE of none is a condition byte of 0 and zero bytes (DESIGN
CHOICE, unsafe: log 33). -/
def holdItems (s : State) (v : Svc) : List Byte :=
  let h := s.hold.get v
  underCondition h.outstanding 3 (fun p => byte1 (Cls.number p.1) ++ byte2 p.2) ++ byteOfBool h.wantMark
    ++ byte2 (s.unmetTotal v) ++ byte2 (s.headroom v) ++ byte2 (reclaimAmount s.ledger.copy v s.own)
    ++ byteTimer h.reclaimTimer ++ byte2 h.unplacedShortage ++ byte2 h.unplacedReclaim
    ++ classes.flatMap (classItems s v)

/-- The items of one wait queue (R144). A blocker of none is a condition byte of 0 and a zero channel (log 33). -/
def queueItems (s : State) (p : Svc × Cls) : List Byte :=
  let q := s.queue p.1 p.2
  listItem q.members chanByte ++ underCondition q.blocker 1 chanByte ++ byteTimer q.blockTimer

def roomItems (s : State) (p : Svc × Cls) : List Byte :=
  byte2 (s.sumGrants p.1 p.2) ++ byte2 (s.sumBounds p.1 p.2) ++ signed2 (s.keepRoom p.1 p.2)
    ++ signed2 (s.holdingRoom p.1 p.2)

/-- The Apportioner's and the Stroke and Meter Monitor's items (R144). One condition byte stands before all eight raise orders
(log 33). -/
def page3 (s : State) : List Byte :=
  byteOfBool s.rotating ++ serviceClasses.flatMap (queueItems s)
    ++ byteOfBool s.rotating ++ serviceClasses.flatMap (fun p => listItem (s.app.raiseOrder.get p.1 p.2) chanByte)
    ++ serviceClasses.flatMap (roomItems s)

def cutItems (s : State) (p : Svc × Cls) : List Byte :=
  let c := s.classHold p.1 p.2
  byte2 c.keep ++ byteOfBool c.dutyMark ++ byte2 (s.overKeep p.1 p.2) ++ byte2 (s.guardedTotal p.1 p.2)

def guardItems (g : Guard) : List Byte :=
  byteOfBool (g.mode == .each) ++ byte1 g.count ++ byteOfBool (g.side == .bottom) ++ byteOfBool g.complement
    ++ channels.flatMap (fun ch => byteOfBool (g.flags.getLsbD ch.val))

/-- The items of the cut and the guard (R159). -/
def page4 (s : State) : List Byte :=
  guardItems s.app.guard ++ listItem (channels.filter s.guarded) chanByte ++ serviceClasses.flatMap (cutItems s)
    ++ serviceClasses.flatMap (fun p => listItem (s.app.startOrder.get p.1 p.2) chanByte)

/-- The page asked for, 0 to 4 (R205). -/
def stationPage (s : State) (page : Nat) : Option (List Byte) :=
  match page with
  | 0 => some (page0 s)
  | 1 => some (holdItems s .hw)
  | 2 => some (holdItems s .st)
  | 3 => some (page3 s)
  | 4 => some (page4 s)
  | _ => none

def sharesItems (sh : Shares) : List Byte :=
  sh.holdings.toList.flatMap byte2 ++ byte2 sh.want ++ byte2 sh.offer

def dutyItems (s : State) (n : Stn) (p : Svc × Cls) : List Byte :=
  byte2 (shortageDuty s.ledger.copy p.1 n p.2) ++ byte2 ((reclaimDuties s.ledger.copy p.1 n).get p.2)

/-- An entry, with its duties where it is MEMBER (R31); one condition byte stands before all sixteen (DESIGN CHOICE, unsafe: log
33). -/
def entryItems (s : State) (n : Stn) : List Byte :=
  let e := s.entry n
  byteOfBool e.isMember ++ byte1 e.weight ++ byte2 e.profile.toNat ++ seqByte e.lastSeq
    ++ sharesItems e.shares.hw ++ sharesItems e.shares.st
    ++ underCondition (if e.isMember then some () else none) 32 (fun _ => serviceClasses.flatMap (dutyItems s n))

/-- The settings part of an outlet record, the fields its kind uses in R98's order (R120). -/
def outletSettings (c : OutletCfg) : List Byte :=
  let head := byte1 (kindCode c) ++ byte1 (svcCode c.svc) ++ byte1 (Cls.number c.cls)
  let meter := byte1 c.pulseWeight ++ byte1 c.tolerance ++ byte1 c.persistence
  let tail := byteOfBool c.enabledAtStart ++ byteOfBool c.guardFlag
  match c.kind with
  | .modulating w m =>
    head ++ byte1 w.group ++ byte2 w.ratedDraw ++ byte2 m.minDraw ++ byte1 w.strokeTime ++ byteOfBool w.feedback ++ meter
      ++ byte1 m.idleTime ++ byteOfBool m.ownFlow ++ byteOfBool m.groupSource ++ byte1 m.pulsePeriod
      ++ byte2 m.pulseLength ++ byte2 m.pulseDraw ++ tail
  | .batch w b =>
    head ++ byte1 w.group ++ byte2 w.ratedDraw ++ byte1 w.strokeTime ++ byteOfBool w.feedback ++ meter ++ byte2 b.runDraw
      ++ byte2 b.runLength ++ byte2 b.waitLimit ++ byte2 b.maxSuspension ++ tail
  | .monitor r => head ++ meter ++ byte2 r ++ tail

/-- The place of an outlet in its wait queue (R120), 1 for the head (DESIGN CHOICE, unsafe: the spec gives no base, log 41). -/
def State.queuePlace (s : State) (c : OutletCfg) (ch : Chan) : Option Nat :=
  let l := (s.queue c.svc c.cls).members
  if l.contains ch then some (l.idxOf ch + 1) else none

/-- The run-time part of an outlet record (R120, R144, R173, R189). The items that other rules add to R120's list stand last, in
the order last fault, end-of-run mark, overrun mark, drift timer, excess count (log 31). A BATCH or MONITOR outlet has no demand
input, and its demand level is sent as 0 (DESIGN CHOICE, unsafe: log 48). -/
def outletRunTime (s : State) (c : OutletCfg) (ch : Chan) : List Byte :=
  let o := s.outlet ch
  byte1 (outletCode o.state) ++ byte2 o.desired ++ byte1 o.level ++ byteOfBool o.outOfRange
    ++ idleBytes o.idleTimer ++ byte1 (phaseCode o.pulsePhase) ++ byteTimer o.pulseTimer ++ byteTimer o.pulseLength
    ++ byteOfBool o.disablePending
    ++ byte2 (o.runRemaining / 2) ++ byteTimer o.suspension ++ byteOfBool o.repeatFlag
    ++ byte1 (faultCode o.faultKind)
    ++ byte2 o.grant ++ underCondition (s.queuePlace c ch) 1 byte1 ++ byte2 o.deferrals
    ++ byte1 o.command ++ byte2 o.peak ++ byte2 o.peak ++ byteOfBool o.moving ++ byteTimer o.stroke
    ++ byte3 o.metered ++ byteOfBool (s.guarded ch)
    ++ byte1 (faultCode o.lastFault) ++ byteOfBool o.endOfRun ++ byteOfBool o.overrun ++ byteTimer o.drift
    ++ byte1 o.excess

/-- What READ-OUTLET returns (R120). -/
def outletItems (s : State) (ch : Chan) : List Byte :=
  match s.outletCfg? ch with
  | some c => outletSettings c ++ outletRunTime s c ch
  | none => byte1 (settingCode (s.cfg ch))

/-- The call output (R175). -/
def Stage.callOutput (g : Stage) : Bool := g.state == .called || g.state == .ready

/-- The covered set of an OFFER of the service in transmission (R187). -/
def State.coveredNow (s : State) (v : Svc) : Option (List Chan) :=
  match s.liu.tx with
  | some t => if Body.key t.body = .offer v then some t.covered else none
  | none => none

/-- What READ-STAGE returns (R187). A drop candidate of none is a condition byte of 0 and a zero channel (DESIGN CHOICE, unsafe:
log 33). -/
def stageItems (s : State) (ch : Chan) : List Byte :=
  match s.stageCfg? ch with
  | some c =>
    let g := s.stage ch
    let p := s.supply.get c.svc
    byte1 (svcCode c.svc) ++ byte2 c.rating ++ byte1 c.callOrder ++ byte1 (modeCode c.mode) ++ byte2 c.warmUpLimit
      ++ byte2 c.lockoutTime ++ byte1 (stageCode g.state) ++ byteOfBool g.leaving ++ byteTimer g.warmUp
      ++ byteTimer g.lockout ++ byteOfBool g.callOutput ++ byteOfBool s.pins.ready[ch] ++ byteOfBool s.pins.trip[ch]
      ++ byte2 (s.intendedOffer c.svc) ++ byteOfBool p.forced ++ byteTimer p.callTimer ++ byteTimer p.dropTimer
      ++ underCondition (s.dropCandidate c.svc) 1 chanByte
      ++ underCondition (s.coveredNow c.svc) 1 (fun l => listItem l chanByte)
  | none => byte1 (settingCode (s.cfg ch))

/-- What READ-FLAGS returns (R197). -/
def flagItems (s : State) : List Byte :=
  let c := s.fru.counters
  (List.range 9).flatMap (fun i => byteOfBool (s.fru.flags.getLsbD i))
    ++ byte2 c.framesLanded ++ byte2 c.attemptsFailed ++ byte2 c.takeRefused ++ byte2 c.pulseMissed ++ byte2 c.runsSpoilt
    ++ byte2 c.deferrals ++ byte2 c.outletFaults ++ byte2 s.fru.alertMask.toNat ++ byteOfBool s.alert

def sourceCode : ImageSource → Nat
  | .frozen => 0
  | .rejected => 1
  | .none => 2

/-- Segment k of 64 bytes; zeros where there is no image (R205). -/
def segmentOf (bytes : List Byte) (k : Nat) : List Byte :=
  (List.range 64).map fun i => bytes.getD (64 * k + i) 0

/-- What READ-SETTINGS returns (R205). -/
def settingsItems (s : State) (k : Nat) : List Byte :=
  byte1 (sourceCode s.loader.source) ++ byte1 s.loader.failedCheck ++ segmentOf s.loader.bytes k

end Sys2Proof.Machine
end

