-- ==== Sys2Proof/Machine/ServiceReads.lean ====
section
/-! DEFINITION. The reading commands of the service line; they change nothing but the service line (R204, R205). -/

namespace Sys2Proof.Machine

/-- Answer a reading command: DONE with its data, or BAD-ARG (R204). -/
def State.answerData (data : Option (List Byte)) (s : State) : State :=
  match data with
  | some d => s.answer .done d
  | none => s.answer .badArg []

/-- READ_STATION (R205). -/
def execReadStation (page : Byte) (s : State) : Result := serve (fun t => t.answerData (stationPage t page.toNat)) s

/-- READ_ENTRY (R31). -/
def execReadEntry (n : Byte) (s : State) : Result := serve (fun t => t.answerData ((stationOf n).map (entryItems t))) s

/-- READ_OUTLET (R120). -/
def execReadOutlet (n : Byte) (s : State) : Result := serve (fun t => t.answerData ((channelOf n).map (outletItems t))) s

/-- READ_STAGE (R187). -/
def execReadStage (n : Byte) (s : State) : Result := serve (fun t => t.answerData ((channelOf n).map (stageItems t))) s

/-- READ_FLAGS (R197). -/
def execReadFlags (s : State) : Result := serve (fun t => t.answerData (some (flagItems t))) s

/-- READ_SETTINGS (R205). -/
def execReadSettings (segment : Byte) (s : State) : Result :=
  serve (fun t => t.answerData (if segment.toNat ≤ 5 then some (settingsItems t segment.toNat) else none)) s

end Sys2Proof.Machine
end

