-- ==== Sys2Proof/Machine/ShareTimers.lean ====
section
/-! DEFINITION. The timers of membership, holdings and wait queues (chapters 3, 4 and 6). An expiry is the event that its own
timer reaches its limit; the other timers stand (log 4). -/

namespace Sys2Proof.Machine

def State.setOwnLanding (t : Timer) (s : State) : State := s.modMemb fun m => { m with ownLanding := t }

/-- OWN_LANDING_TIMER_T_KEEP (R60). -/
def execOwnLandingTimerTKeep (s : State) : Result :=
  event (s.onLine && Timer.below (s.limit Image.tKeep) s.memb.ownLanding)
    (fun t => t.setOwnLanding (some (t.limit Image.tKeep))) s

/-- OWN_LANDING_TIMER_T_SELF (R54, R64, R72). -/
def execOwnLandingTimerTSelf (s : State) : Result :=
  event (s.onLine && Timer.below (s.limit Image.tSelf) s.memb.ownLanding)
    (fun t => t.setOwnLanding (some (t.limit Image.tSelf))) s

/-- SYNCING_WINDOW_EXPIRES (R57). -/
def execSyncingWindowExpires (s : State) : Result :=
  event (s.onLine && s.station == .syncing && s.memb.syncWindow.isSome) State.enterJoining s

def State.setSilence (n : Stn) (t : Timer) (s : State) : State :=
  s.modLedger fun l => { l with silence := l.silence.set n t }

/-- SILENCE_TIMER_T_SELF of a peer (R65). -/
def execSilenceTimerTSelf (peer : Stn) (s : State) : Result :=
  event (s.onLine && peer != s.own && Timer.below (s.limit Image.tSelf) s.ledger.silence[peer])
    (fun t => t.setSilence peer (some (t.limit Image.tSelf))) s

/-- SILENCE_TIMER_T_EXP of a peer (R61, R62). -/
def execSilenceTimerTExp (peer : Stn) (s : State) : Result :=
  event (s.onLine && peer != s.own && Timer.below (s.limit Image.tExp) s.ledger.silence[peer])
    (fun t => t.setSilence peer (some (t.limit Image.tExp))) s

def State.giveHold (s : State) (v : Svc) : Nat := 2 * s.svcSetting v ServiceCfg.giveHold

/-- SPARE_TIMER_EXPIRES (R86): the class becomes releasing. -/
def execSpareTimerExpires (v : Svc) (k : Cls) (s : State) : Result :=
  event (s.acts && Timer.below (s.giveHold v) (s.classHold v k).spareTimer)
    (fun t => t.modClass v k fun c => { c with spareTimer := some (s.giveHold v), releasing := true }) s

/-- RECLAIM_TIMER_EXPIRES (R94): RECLAIM-LATE, and the timer holds. -/
def execReclaimTimerExpires (v : Svc) (s : State) : Result :=
  event (s.acts && Timer.below (s.limit Image.tReclaim) (s.hold.get v).reclaimTimer)
    (fun t => (t.modHold v fun h => { h with reclaimTimer := some (s.limit Image.tReclaim) }).setFlag .reclaimLate) s

/-- The blocker moves to the tail, its deferral counted, and a pass is due (R124, R129). -/
def State.deferBlocker (v : Svc) (k : Cls) (ch : Chan) (s : State) : State :=
  (((s.modQueue v k fun q => ⟨dropChan ch q.members ++ [ch], none, none⟩).modOutlet ch fun o =>
    { o with deferrals := countUp o.deferrals }).countDeferral).markPass v k

/-- BLOCK_TIMER_EXPIRES (R129). -/
def execBlockTimerExpires (v : Svc) (k : Cls) (s : State) : Result :=
  match (s.queue v k).blocker with
  | some ch => event (s.acts && (s.queue v k).blockTimer.isSome) (State.deferBlocker v k ch) s
  | none => .next s

end Sys2Proof.Machine
end

