-- ==== Sys2Proof/Machine/StageEvents.lean ====
section
/-! DEFINITION. The ready and trip inputs and the timers of the stages (chapter 9). The level at a pin is kept whether or not
the station takes the input. -/

namespace Sys2Proof.Machine

/-- The event is taken by the stage of the channel when its condition holds of the record. -/
def State.stageTakes (s : State) (ch : Chan) (cond : Stage → Bool) : Bool :=
  s.acts && (s.stageCfg? ch).isSome && cond (s.stage ch)

def State.setReadyPin (ch : Chan) (level : Bool) (s : State) : State :=
  { s with pins := { s.pins with ready := s.pins.ready.set ch level } }

def State.setTripPin (ch : Chan) (level : Bool) (s : State) : State :=
  { s with pins := { s.pins with trip := s.pins.trip.set ch level } }

/-- STAGE_READY_RISES (R176): a CALLED stage enters READY. -/
def execStageReadyRises (ch : Chan) (s : State) : Result :=
  let risen := !s.pins.ready[ch]
  let s := s.setReadyPin ch true
  event (risen && s.stageTakes ch fun g => g.state == .called)
    (State.modStage ch fun g => { g with state := .ready, warmUp := none }) s

/-- STAGE_READY_FALLS (R177): a READY stage has lost its ready signal. -/
def execStageReadyFalls (ch : Chan) (s : State) : Result :=
  let fallen := s.pins.ready[ch]
  let s := s.setReadyPin ch false
  event (fallen && s.stageTakes ch fun g => g.state == .ready) (State.tripStage ch) s

/-- A trip takes a CALLED stage to LOCKOUT and a READY stage to TRIPPED (R176, R177). -/
def State.tripUp (ch : Chan) (s : State) : State :=
  match (s.stage ch).state with
  | .called => s.failWarmUp ch
  | .ready => s.tripStage ch
  | .down => s
  | .tripped => s
  | .lockout => s

/-- TRIP_INPUT_ASSERTS (R176, R177). -/
def execTripInputAsserts (ch : Chan) (s : State) : Result :=
  let risen := !s.pins.trip[ch]
  let s := s.setTripPin ch true
  event (risen && s.stageTakes ch fun _ => true) (State.tripUp ch) s

/-- A trip clears: TRIPPED to LOCKOUT; LOCKOUT with its time reached to DOWN (R178). -/
def Stage.tripDown (g : Stage) : Stage :=
  match g.state with
  | .tripped => { g with state := .lockout, lockout := some 0 }
  | .lockout => if g.lockout = none then { g with state := .down } else g
  | .down => g
  | .called => g
  | .ready => g

/-- TRIP_INPUT_CLEARS (R178). -/
def execTripInputClears (ch : Chan) (s : State) : Result :=
  let fallen := s.pins.trip[ch]
  let s := s.setTripPin ch false
  event (fallen && s.stageTakes ch fun _ => true) (State.modStage ch Stage.tripDown) s

/-- WARM_UP_TIMER_EXPIRES (R176). -/
def execWarmUpTimerExpires (ch : Chan) (s : State) : Result :=
  event (s.stageTakes ch fun g => g.state == .called && g.warmUp.isSome) (State.failWarmUp ch) s

/-- The lockout time is reached: DOWN if the trip input is deasserted, otherwise the stage waits in LOCKOUT (R178). -/
def Stage.lockoutDone (trip : Bool) (g : Stage) : Stage :=
  if trip then { g with lockout := none } else { g with state := .down, lockout := none }

/-- LOCKOUT_TIMER_EXPIRES (R178). -/
def execLockoutTimerExpires (ch : Chan) (s : State) : Result :=
  event (s.stageTakes ch fun g => g.state == .lockout && g.lockout.isSome)
    (fun t => t.modStage ch (Stage.lockoutDone t.pins.trip[ch])) s

def State.callDelay (s : State) (v : Svc) : Nat := 2 * s.svcSetting v ServiceCfg.callDelay

/-- CALL_TIMER_EXPIRES (R182): at the call delay the standing rule calls a stage, or the timer holds. -/
def execCallTimerExpires (v : Svc) (s : State) : Result :=
  event (s.acts && s.isMember && Timer.below (s.callDelay v) (s.supply.get v).callTimer)
    (fun t => t.modSupply v fun p => { p with callTimer := some (s.callDelay v) }) s

/-- The drop hold is over: the candidate's leaving mark is set, the timer stops (R184). -/
def State.startDrop (v : Svc) (ch : Chan) (s : State) : State :=
  (s.modStage ch fun g => { g with leaving := true }).modSupply v fun p => { p with dropTimer := none, dropCandidate := none }

/-- DROP_HOLD_TIMER_EXPIRES (R184). -/
def execDropHoldTimerExpires (v : Svc) (s : State) : Result :=
  match (s.supply.get v).dropCandidate with
  | some ch => event (s.acts && s.isMember && (s.supply.get v).dropTimer.isSome) (State.startDrop v ch) s
  | none => .next s

end Sys2Proof.Machine
end

