-- ==== Sys2Proof/Machine/Dispatch.lean ====
section
/-! DEFINITION. One arm per command, each one call of its meaning. -/

namespace Sys2Proof.Machine

def exec (i : Instr) (s : State) : Host.Outcome State Fault Refusal :=
  match i with
  | .powerOn => Sys2Proof.Machine.execPowerOn s
  | .resetPinAsserted => Sys2Proof.Machine.execResetPinAsserted s
  | .resetPinReleased => Sys2Proof.Machine.execResetPinReleased s
  | .settingsReadCompletes status bytes => Sys2Proof.Machine.execSettingsReadCompletes status bytes s
  | .startOfAttempt => Sys2Proof.Machine.execStartOfAttempt s
  | .arbitrationLost => Sys2Proof.Machine.execArbitrationLost s
  | .attemptFails mismatch => Sys2Proof.Machine.execAttemptFails s mismatch
  | .retryPauseExpires => Sys2Proof.Machine.execRetryPauseExpires s
  | .frameNotLanded bits turns => Sys2Proof.Machine.execFrameNotLanded bits s turns
  | .partialFrameDropped => Sys2Proof.Machine.execPartialFrameDropped s
  | .take sender seq svc cls amount turns => Sys2Proof.Machine.execTake sender seq svc cls amount s turns
  | .give sender seq svc cls amount turns => Sys2Proof.Machine.execGive sender seq svc cls amount s turns
  | .want sender seq svc amount turns => Sys2Proof.Machine.execWant sender seq svc amount s turns
  | .offer sender seq svc forced amount turns => Sys2Proof.Machine.execOffer sender seq svc forced amount s turns
  | .keep sender seq weight profile hw st turns => Sys2Proof.Machine.execKeep sender seq weight profile hw st s turns
  | .hail sender seq weight profile turns => Sys2Proof.Machine.execHail sender seq weight profile s turns
  | .lapse sender seq target targetSeq turns => Sys2Proof.Machine.execLapse sender seq target targetSeq s turns
  | .ownLandingTimerTKeep => Sys2Proof.Machine.execOwnLandingTimerTKeep s
  | .ownLandingTimerTSelf => Sys2Proof.Machine.execOwnLandingTimerTSelf s
  | .syncingWindowExpires => Sys2Proof.Machine.execSyncingWindowExpires s
  | .silenceTimerTSelf peer => Sys2Proof.Machine.execSilenceTimerTSelf peer s
  | .silenceTimerTExp peer => Sys2Proof.Machine.execSilenceTimerTExp peer s
  | .spareTimerExpires svc cls => Sys2Proof.Machine.execSpareTimerExpires svc cls s
  | .reclaimTimerExpires svc => Sys2Proof.Machine.execReclaimTimerExpires svc s
  | .blockTimerExpires svc cls => Sys2Proof.Machine.execBlockTimerExpires svc cls s
  | .demandInputChange ch millivolts => Sys2Proof.Machine.execDemandInputChange ch millivolts s
  | .idleTimerExpires ch => Sys2Proof.Machine.execIdleTimerExpires ch s
  | .pulseTimerExpires ch => Sys2Proof.Machine.execPulseTimerExpires ch s
  | .pulseLengthTimerExpires ch => Sys2Proof.Machine.execPulseLengthTimerExpires ch s
  | .inPositionRises ch => Sys2Proof.Machine.execInPositionRises ch s
  | .inPositionFalls ch => Sys2Proof.Machine.execInPositionFalls ch s
  | .strokeTimerExpires ch => Sys2Proof.Machine.execStrokeTimerExpires ch s
  | .strokeOverrun ch => Sys2Proof.Machine.execStrokeOverrun ch s
  | .drift ch => Sys2Proof.Machine.execDrift ch s
  | .meterPulse ch => Sys2Proof.Machine.execMeterPulse ch s
  | .meterWindowEnds => Sys2Proof.Machine.execMeterWindowEnds s
  | .callInputRises ch => Sys2Proof.Machine.execCallInputRises ch s
  | .runRemainingZero ch => Sys2Proof.Machine.execRunRemainingZero ch s
  | .runSpoilt ch => Sys2Proof.Machine.execRunSpoilt ch s
  | .stageReadyRises ch => Sys2Proof.Machine.execStageReadyRises ch s
  | .stageReadyFalls ch => Sys2Proof.Machine.execStageReadyFalls ch s
  | .tripInputAsserts ch => Sys2Proof.Machine.execTripInputAsserts ch s
  | .tripInputClears ch => Sys2Proof.Machine.execTripInputClears ch s
  | .warmUpTimerExpires ch => Sys2Proof.Machine.execWarmUpTimerExpires ch s
  | .lockoutTimerExpires ch => Sys2Proof.Machine.execLockoutTimerExpires ch s
  | .callTimerExpires svc => Sys2Proof.Machine.execCallTimerExpires svc s
  | .dropHoldTimerExpires svc => Sys2Proof.Machine.execDropHoldTimerExpires svc s
  | .readStation page => Sys2Proof.Machine.execReadStation page s
  | .readEntry n => Sys2Proof.Machine.execReadEntry n s
  | .readOutlet n => Sys2Proof.Machine.execReadOutlet n s
  | .readStage n => Sys2Proof.Machine.execReadStage n s
  | .readFlags => Sys2Proof.Machine.execReadFlags s
  | .clearFlags mask => Sys2Proof.Machine.execClearFlags mask s
  | .enableOutlet n => Sys2Proof.Machine.execEnableOutlet n s
  | .disableOutlet n => Sys2Proof.Machine.execDisableOutlet n s
  | .clearOutlet n => Sys2Proof.Machine.execClearOutlet n s
  | .setGuard mode count side complement flags => Sys2Proof.Machine.execSetGuard mode count side complement flags s
  | .restart => Sys2Proof.Machine.execRestart s
  | .readSettings segment => Sys2Proof.Machine.execReadSettings segment s
  | .writeSettings segment data => Sys2Proof.Machine.execWriteSettings segment data s
  | .settingsPageWritten status => Sys2Proof.Machine.execSettingsPageWritten status s
  | .settingsWriteCompletes status readBack => Sys2Proof.Machine.execSettingsWriteCompletes status readBack s
  | .badFrame bytes => Sys2Proof.Machine.execBadFrame bytes s
  | .serviceByteGapTimeout bytes => Sys2Proof.Machine.execServiceByteGapTimeout s bytes
  | .responseSent => Sys2Proof.Machine.execResponseSent s
  | .callInputFalls ch => Sys2Proof.Machine.execCallInputFalls ch s
  | .lockInputChanges level => Sys2Proof.Machine.execLockInputChanges level s

end Sys2Proof.Machine
end

