-- ==== Sys2Proof/Machine/Time.lean ====
section
/-! DEFINITION. Half a second passes: what a step does when no command waits (logs 2, 3). Every running timer counts on; one
that would reach its limit is left for the command of that expiry, which sets it there and acts. -/

namespace Sys2Proof.Machine

/-- The timer reaches the limit in this half-second. -/
def Timer.nears (limit : Nat) (t : Timer) : Bool :=
  match t with
  | some n => n < limit && limit ≤ n + 1
  | none => false

/-- Half a second on a timer that ends or holds at its limit. -/
def Timer.tick (limit : Nat) (t : Timer) : Timer := t.map fun n => if n + 1 < limit then n + 1 else n

/-- Half a second on a timer with an event on its way to the limit (R54, R61, R65). -/
def Timer.tickVia (middle limit : Nat) (t : Timer) : Timer :=
  if Timer.nears middle t then t else Timer.tick limit t

/-- Half a second on a timer that counts on past its event (R134, R138). -/
def Timer.tickPast (limit : Nat) (t : Timer) : Timer := if Timer.nears limit t then t else t.map fun n => n + 1

/-- Half a second on an idle timer (R103). -/
def IdleTimer.tick (limit : Nat) : IdleTimer → IdleTimer
  | .running n => .running (if n + 1 < limit then n + 1 else n)
  | .stopped => .stopped
  | .held => .held

def IdleTimer.nears (limit : Nat) : IdleTimer → Bool
  | .running n => n < limit && limit ≤ n + 1
  | .stopped => false
  | .held => false

/-- Minutes in half-seconds. -/
def minutes (n : Nat) : Nat := 120 * n

/-- The idle time, pulse period and pulse length of an outlet (R98). -/
def OutletCfg.idleTicks (c : OutletCfg) : Nat :=
  match c.modulating? with
  | some m => minutes m.idleTime
  | none => 0

def OutletCfg.periodTicks (c : OutletCfg) : Nat :=
  match c.modulating? with
  | some m => minutes m.pulsePeriod
  | none => 0

def OutletCfg.lengthTicks (c : OutletCfg) : Nat :=
  match c.modulating? with
  | some m => 2 * m.pulseLength
  | none => 0

def OutletCfg.suspensionTicks (c : OutletCfg) : Nat :=
  match c.batch? with
  | some b => 2 * b.maxSuspension
  | none => 0

/-- The batch wait limit of a channel's outlet (R129). -/
def State.waitTicks (s : State) (ch : Chan) : Nat :=
  match (s.outletCfg? ch).bind OutletCfg.batch? with
  | some b => 2 * b.waitLimit
  | none => 0

/-- The run counts down: RUNNING with its valve SETTLED (R164). -/
def Outlet.countsDown (o : Outlet) : Bool := o.state == .running && !o.moving

/-- Half a second on an outlet's timers. -/
def Outlet.tick (c : OutletCfg) (o : Outlet) : Outlet :=
  { o with
    idleTimer := o.idleTimer.tick (OutletCfg.idleTicks c)
    pulseTimer := Timer.tick (OutletCfg.periodTicks c) o.pulseTimer
    pulseLength := Timer.tick (OutletCfg.lengthTicks c) o.pulseLength
    suspension := Timer.tick (OutletCfg.suspensionTicks c) o.suspension
    runRemaining := if o.countsDown && 1 < o.runRemaining then o.runRemaining - 1 else o.runRemaining
    stroke :=
      if OutletCfg.feedback c then Timer.tickPast (OutletCfg.overrunTicks c) o.stroke
      else Timer.tick (OutletCfg.strokeTicks c) o.stroke
    drift := Timer.tick (OutletCfg.strokeTicks c) o.drift }

/-- Half a second on a stage's timers. -/
def Stage.tick (c : StageCfg) (g : Stage) : Stage :=
  { g with warmUp := Timer.tick (2 * c.warmUpLimit) g.warmUp, lockout := Timer.tick (2 * c.lockoutTime) g.lockout }

def State.tickOutlets (s : State) : State :=
  { s with
    outlets := mapAt (fun ch o => match s.outletCfg? ch with | some c => o.tick c | none => o) s.outlets
    stages := mapAt (fun ch g => match s.stageCfg? ch with | some c => g.tick c | none => g) s.stages
    meterWindow := Timer.tick Config.meterWindow s.meterWindow }

def State.tickLine (s : State) : State :=
  { s with
    liu := { s.liu with retryPause := Timer.tick (s.limit Image.tKeep) s.liu.retryPause }
    memb := { s.memb with
      ownLanding := Timer.tickVia (s.limit Image.tKeep) (s.limit Image.tSelf) s.memb.ownLanding
      syncWindow := Timer.tick (s.limit Image.syncWindow) s.memb.syncWindow }
    ledger := { s.ledger with
      silence := mapAt (fun _ t => Timer.tickVia (s.limit Image.tSelf) (s.limit Image.tExp) t) s.ledger.silence } }

def State.dropHold (s : State) (v : Svc) : Nat := 2 * s.svcSetting v ServiceCfg.dropHold

def tickService (v : Svc) (s : State) : State :=
  (s.modHold v fun h => { h with reclaimTimer := Timer.tick (s.limit Image.tReclaim) h.reclaimTimer }).modSupply v fun p =>
    { p with
      callTimer := Timer.tick (s.callDelay v) p.callTimer
      dropTimer := Timer.tick (s.dropHold v) p.dropTimer }

/-- The batch wait limit of a queue's blocker (R129). -/
def State.blockTicks (s : State) (v : Svc) (k : Cls) : Nat :=
  match (s.queue v k).blocker with
  | some ch => s.waitTicks ch
  | none => 0

def tickClass (v : Svc) (k : Cls) (s : State) : State :=
  (s.modClass v k fun c => { c with spareTimer := Timer.tick (s.giveHold v) c.spareTimer }).modQueue v k fun q =>
    { q with blockTimer := Timer.tick (s.blockTicks v k) q.blockTimer }

/-- Half a second on every timer that runs. -/
def State.passTime (s : State) : State :=
  forEach serviceClasses (fun p => tickClass p.1 p.2) (forEach services tickService s.tickLine.tickOutlets)

/-- An expiry with the outlet fault its detector reports, if it is a detector's. `owed`: the fault was reported together with
another that has called the expiry off; `overdraws`: the channels whose OVERDRAW the window's end was to report, and another
fault of the same half-second has kept it from judging so (R190, log 37). -/
structure Expiry where
  command : Instr
  fault : Option (FaultKind × Chan)
  owed : Bool
  overdraws : List Chan
  deriving DecidableEq, Repr

def Expiry.plain (c : Instr) : Expiry := ⟨c, none, false, []⟩

def Expiry.detected (kind : FaultKind) (ch : Chan) (c : Instr) : Expiry := ⟨c, some (kind, ch), false, []⟩

/-- The outlet events of a channel that come in this half-second. -/
def dueOutlet (s : State) (ch : Chan) : List (Bool × Expiry) :=
  match s.outletCfg? ch with
  | some c =>
    let o := s.outlet ch
    [(o.idleTimer.nears (OutletCfg.idleTicks c), .plain (.idleTimerExpires ch)),
     (Timer.nears (OutletCfg.periodTicks c) o.pulseTimer, .plain (.pulseTimerExpires ch)),
     (Timer.nears (OutletCfg.lengthTicks c) o.pulseLength, .plain (.pulseLengthTimerExpires ch)),
     (!OutletCfg.feedback c && Timer.nears (OutletCfg.strokeTicks c) o.stroke, .plain (.strokeTimerExpires ch)),
     (OutletCfg.feedback c && Timer.nears (OutletCfg.overrunTicks c) o.stroke,
       if o.overrun then .plain (.strokeOverrun ch) else .detected .strokeOverrun ch (.strokeOverrun ch)),
     (Timer.nears (OutletCfg.strokeTicks c) o.drift, .detected .drift ch (.drift ch)),
     (o.countsDown && o.runRemaining ≤ 1, .plain (.runRemainingZero ch)),
     (Timer.nears (OutletCfg.suspensionTicks c) o.suspension, .detected .runSpoilt ch (.runSpoilt ch))]
  | none => []

def dueStage (s : State) (ch : Chan) : List (Bool × Expiry) :=
  match s.stageCfg? ch with
  | some c =>
    [(Timer.nears (2 * c.warmUpLimit) (s.stage ch).warmUp, .plain (.warmUpTimerExpires ch)),
     (Timer.nears (2 * c.lockoutTime) (s.stage ch).lockout, .plain (.lockoutTimerExpires ch))]
  | none => []

def dueLine (s : State) : List (Bool × Expiry) :=
  [(Timer.nears (s.limit Image.tKeep) s.liu.retryPause, .plain .retryPauseExpires),
   (Timer.nears (s.limit Image.tKeep) s.memb.ownLanding, .plain .ownLandingTimerTKeep),
   (Timer.nears (s.limit Image.tSelf) s.memb.ownLanding, .plain .ownLandingTimerTSelf),
   (Timer.nears (s.limit Image.syncWindow) s.memb.syncWindow, .plain .syncingWindowExpires),
   (Timer.nears Config.meterWindow s.meterWindow, .plain .meterWindowEnds)]

def dueSilence (s : State) (n : Stn) : List (Bool × Expiry) :=
  [(Timer.nears (s.limit Image.tSelf) s.ledger.silence[n], .plain (.silenceTimerTSelf n)),
   (Timer.nears (s.limit Image.tExp) s.ledger.silence[n], .plain (.silenceTimerTExp n))]

def dueService (s : State) (v : Svc) : List (Bool × Expiry) :=
  [(Timer.nears (s.limit Image.tReclaim) (s.hold.get v).reclaimTimer, .plain (.reclaimTimerExpires v)),
   (Timer.nears (s.callDelay v) (s.supply.get v).callTimer, .plain (.callTimerExpires v)),
   (Timer.nears (s.dropHold v) (s.supply.get v).dropTimer, .plain (.dropHoldTimerExpires v))]

def dueClass (s : State) (p : Svc × Cls) : List (Bool × Expiry) :=
  [(Timer.nears (s.giveHold p.1) (s.classHold p.1 p.2).spareTimer, .plain (.spareTimerExpires p.1 p.2)),
   (Timer.nears (s.blockTicks p.1 p.2) (s.queue p.1 p.2).blockTimer, .plain (.blockTimerExpires p.1 p.2))]

/-- The expiries that come in this half-second. -/
def State.expiries (s : State) : List Expiry :=
  ((dueLine s ++ stations.flatMap (dueSilence s) ++ services.flatMap (dueService s) ++ serviceClasses.flatMap (dueClass s)
    ++ channels.flatMap (dueOutlet s) ++ channels.flatMap (dueStage s)).filter fun p => p.1).map fun p => p.2

/-- Their commands. -/
def State.dueEvents (s : State) : List Instr := s.expiries.map Expiry.command

/-- The state a meaning leaves; every command answers a next state. -/
def outcomeState (s : State) : Result → State
  | .next t => t
  | .fault _ => s
  | .refused _ => s

/-- The expiry still comes. -/
def Expiry.comes (s : State) (e : Expiry) : Bool := s.dueEvents.contains e.command

/-- The expiry is to be taken: it still comes, or its fault is owed. -/
def Expiry.stands (s : State) (e : Expiry) : Bool := Expiry.comes s e || (e.owed && s.acts)

/-- A detector's expiry: the end of a meter window may report OVERDRAW (R141), the others the fault they carry. -/
def Expiry.detects (e : Expiry) : Bool := e.fault.isSome || e.command == .meterWindowEnds

/-- What a detection leaves beside its report when another fault of the same half-second has acted before it: the overrun mark
while the valve still moves (R138), one spoilt run (R168). -/
def State.detectLate (kind : FaultKind) (ch : Chan) (s : State) : State :=
  match kind with
  | .strokeOverrun => s.modOutlet ch fun o => { o with overrun := o.overrun || o.moving }
  | .runSpoilt => s.countRunSpoilt
  | .drift => s
  | .overdraw => s
  | .demandRange => s

/-- An OVERDRAW that the window's end was to report: the excess count at the persistence, and the report (R141, R190). -/
def lateOverdraw (ch : Chan) (s : State) : State :=
  match s.outletCfg? ch with
  | some c => ((s.modOutlet ch fun o => { o with excess := c.persistence }).reportFault .overdraw ch).settle
  | none => s

/-- Take an expiry: its command, or the report alone when an earlier fault has called it off; then the OVERDRAWs that one has
kept it from reporting (R190). -/
def Expiry.take (e : Expiry) (s : State) : State :=
  match e.owed, e.fault with
  | true, some (kind, ch) => ((s.detectLate kind ch).reportFault kind ch).settle
  | true, none => s
  | false, _ => forEach e.overdraws lateOverdraw (outcomeState s (exec e.command s))

/-- The window's end would report an OVERDRAW for the channel (R141). -/
def State.overdrawDue (s : State) (ch : Chan) : Bool := (s.outletCfg? ch).any fun c => OutletCfg.overdraws c (s.outlet ch)

/-- A fault that the state `t` still bears. A run is spoilt only if it has not gone on: one that a pass has resumed is RUNNING,
and its suspension over (R167, R168); one that an isolation has discarded is in FAULT. -/
def State.bears (t : State) : FaultKind × Chan → Bool
  | (.runSpoilt, ch) => (t.outlet ch).state == .fault
  | (.strokeOverrun, _) => true
  | (.drift, _) => true
  | (.overdraw, _) => true
  | (.demandRange, _) => true

/-- A fault reported in the same half-second as the one just taken is still reported when the response to that one has called
its expiry off, or changed what the window's end judges; `s` and `t` are the states before and after (R190, log 37). -/
def Expiry.owe (first : Expiry) (s t : State) (e : Expiry) : Expiry :=
  if Expiry.detects first && Expiry.comes s e then
    { e with
      owed := e.owed || (e.fault.any t.bears && !Expiry.comes t e)
      overdraws :=
        if e.command = .meterWindowEnds then
          e.overdraws ++ channels.filter fun ch => s.overdrawDue ch && !t.overdrawDue ch
        else e.overdraws }
  else e

/-- Take the expiries one after another, in an order that is free, each only while it stands (R190, log 3). -/
def fireDue : Nat → List Expiry → State → State
  | 0, _, s => s
  | n + 1, l, s =>
    match s.pickFree (l.filter (Expiry.stands s)) with
    | some (e, t) =>
      let u := Expiry.take e t
      fireDue n ((l.erase e).map (Expiry.owe e t u)) u
    | none => s

/-- Half a second passes (log 2). -/
def State.tick (s : State) : State :=
  if s.acts then
    let due := s.expiries
    fireDue due.length due s.passTime
  else s

end Sys2Proof.Machine
end

