-- ==== Sys2Proof/Safety.lean ====
section
/-! DEFINITION. What a sound state of the station is, and what the station's standing reactions leave alone, in the terms the
claims use. -/

namespace Sys2Proof.Machine

/-- An entry's holdings, wants and offers lie between 0 and 4095, and a VACANT entry is all zero (R2, R3). -/
def Entry.sound (e : Entry) : Bool :=
  (e.isMember || e == Entry.blank)
    && services.all fun v =>
      (classes.all fun k => e.holding v k ≤ Config.maxHu) && e.want v ≤ Config.maxHu && e.offer v ≤ Config.maxHu

/-- Every entry of the copy is sound (R2, R3). -/
def State.ledgerSound (s : State) : Bool := stations.all fun n => (s.entry n).sound

/-- The bound is at least the grant, and equals it once the valve is SETTLED (R132). -/
def Outlet.boundSound (o : Outlet) : Bool := o.grant ≤ o.peak && (o.moving || o.grant == o.peak)

def State.boundsSound (s : State) : Bool := channels.all fun ch => (s.outlet ch).boundSound

/-- Every outlet grant is zero in any state other than MEMBER, and a channel that is no OUTLET has none at all (R124). -/
def State.grantsSound (s : State) : Bool :=
  channels.all fun ch => (s.outlet ch).grant == 0 || (s.isMember && (s.outletCfg? ch).isSome)

/-- No image is loaded while one is being read, and the raise and start orders of a class list OUTLET channels of that class alone
(R131, R149). -/
def State.ordersSound (s : State) : Bool :=
  (!s.loader.reading || s.loader.image.isNone)
    && serviceClasses.all fun p =>
      (s.app.raiseOrder.get p.1 p.2).all (s.inClass p.1 p.2) && (s.app.startOrder.get p.1 p.2).all (s.inClass p.1 p.2)

/-- Nothing is carried into class 3, and no reclaim into class 0 (R91, R92). -/
def State.carriesSound (s : State) : Bool :=
  services.all fun v =>
    (s.classHold v .c3).carriedShortage == 0 && (s.classHold v .c3).carriedReclaim == 0
      && (s.classHold v .c0).carriedReclaim == 0

/-- The seven counters stay within 0 to 65535 (R195). -/
def Counters.sound (c : Counters) : Bool :=
  c.framesLanded ≤ Config.maxCount && c.attemptsFailed ≤ Config.maxCount && c.takeRefused ≤ Config.maxCount
    && c.pulseMissed ≤ Config.maxCount && c.runsSpoilt ≤ Config.maxCount && c.deferrals ≤ Config.maxCount
    && c.outletFaults ≤ Config.maxCount

/-- What of an outlet record only a command changes, never a standing reaction: the input readings, the meter's figures, the
faults and the deferral count (R101, R129, R140 to R142, R189). -/
structure OutletStill where
  level : Nat
  outOfRange : Bool
  pulses : Nat
  metered : Nat
  excess : Nat
  deferrals : Nat
  faultKind : Option FaultKind
  lastFault : Option FaultKind
  inFault : Bool
  deriving DecidableEq, Repr

/-- What of the frame in transmission a reaction leaves alone: all but the mark that its kind was discarded (R51). -/
structure TxStill where
  seq : BitVec 8
  body : Body
  age : Nat
  covered : List Chan
  deriving DecidableEq, Repr

/-- What of the whole station only a command changes, never a standing reaction of the blocks (outside a full reset): the
copy, the line's sequence and frame, the guard, the meter, the flags but ORPHANED and SHED-SHORT, the counters but
"PULSE-MISSED", the settings, the service line, the pins and the queue of commands. A claim that a command leaves all of
this as it was, but for the fields it names, is the command's frame. -/
structure Still where
  pending : List Instr
  pins : Pins
  copy : Vector Entry 32
  seqCounter : BitVec 8
  mark : Mark
  tx : Option TxStill
  guard : Guard
  meterWindow : Timer
  otherFlags : BitVec 9
  framesLanded : Nat
  attemptsFailed : Nat
  takeRefused : Nat
  runsSpoilt : Nat
  deferrals : Nat
  outletFaults : Nat
  responses : ResponseTable
  alertMask : BitVec 9
  loader : Loader
  serial : ServiceLine
  outlets : Vector OutletStill 16
  freeUses : Nat
  deriving DecidableEq, Repr

def Outlet.still (o : Outlet) : OutletStill :=
  { level := o.level
    outOfRange := o.outOfRange
    pulses := o.pulses
    metered := o.metered
    excess := o.excess
    deferrals := o.deferrals
    faultKind := o.faultKind
    lastFault := o.lastFault
    inFault := decide (o.state = .fault) }

def TxFrame.still (t : TxFrame) : TxStill := ⟨t.seq, t.body, t.age, t.covered⟩

/-- The flags that a standing reaction can set: ORPHANED (R67) and SHED-SHORT (R93). -/
def reactionFlags : BitVec 9 := Flag.bit .orphaned ||| Flag.bit .shedShort

def State.still (s : State) : Still :=
  { pending := s.pending
    pins := s.pins
    copy := s.ledger.copy
    seqCounter := s.liu.seqCounter
    mark := s.liu.mark
    tx := s.liu.tx.map TxFrame.still
    guard := s.app.guard
    meterWindow := s.meterWindow
    otherFlags := s.fru.flags &&& ~~~reactionFlags
    framesLanded := s.fru.counters.framesLanded
    attemptsFailed := s.fru.counters.attemptsFailed
    takeRefused := s.fru.counters.takeRefused
    runsSpoilt := s.fru.counters.runsSpoilt
    deferrals := s.fru.counters.deferrals
    outletFaults := s.fru.counters.outletFaults
    responses := s.fru.responses
    alertMask := s.fru.alertMask
    loader := s.loader
    serial := s.serial
    outlets := s.outlets.map Outlet.still
    freeUses := s.freeUses }

end Sys2Proof.Machine
end

