-- ==== Sys2Proof/Certificates/Slice0/Obligations.lean ====
section
/-! DEFINITION. The statements for the provers. A command's next state is `u.settle`: `u` is the command's own act and
`State.settle` what the blocks then do of themselves in the same event (95_what_each_step_holds). `State.still` is what those
reactions leave alone; an equation between two of them is a frame: everything it holds is as it was but the fields named. -/

namespace Sys2Proof.Claims

open Sys2Proof.Machine

/-- The command answers a next state, and that state has the property. -/
def Answers (c : Instr) (s : State) (P : State → Prop) : Prop := ∃ t, exec c s = .next t ∧ P t

/-- The command's own act leaves `u`, and the blocks then react to it. -/
def Acts (c : Instr) (s u : State) : Prop := exec c s = .next u.settle

/-- No RESTART is asked for, so no full reset ends the event (R72, R73). -/
abbrev Staying (s : State) : Prop := s.memb.leaveMark ≠ .restart

/-- A command frame is taken: the RESET pin is released and no command is in progress (R203). -/
abbrev Free (s : State) : Prop := s.pins.reset = false ∧ s.serial.busy = false

/-- The station after a full reset with the RESET pin at a level: every block at its reset values; the pins, the queue of
commands and the model's own counters stay (R198). -/
def cleared (s : State) (pin : Bool) : State :=
  { State.reset with
    pending := s.pending
    pins := { s.pins with reset := pin }
    loader := { State.reset.loader with reading := !pin }
    now := s.now
    freeUses := s.freeUses }

/-- The station with one response to the command in progress decided (R203). -/
def answered (s : State) (status : Status) (data : List Byte) : State :=
  { s with serial := { s.serial with busy := true, replies := s.serial.replies ++ [⟨status, data, true⟩] } }

/-- The command that a landed frame is; the station's participation has changed `turns` times since its start bit (R38,
log 8). -/
def landing (f : Frame) (turns : Nat) : Instr :=
  match f.body with
  | .take v k n => .take f.sender f.seq v k n turns
  | .give v k n => .give f.sender f.seq v k n turns
  | .want v n => .want f.sender f.seq v n turns
  | .offer v forced n => .offer f.sender f.seq v forced n turns
  | .keep w p hw st => .keep f.sender f.seq w p hw st turns
  | .hail w p => .hail f.sender f.seq w p turns
  | .lapse target q => .lapse f.sender f.seq target q turns

/-- The frame lands at this station and is applied: it took part in the line at the frame's start bit and does so now, and the
frame is its own as sent or one it finds intact. -/
abbrev Lands (s : State) (turns : Nat) (f : Frame) : Prop :=
  s.heard turns = true ∧ s.participates = true ∧ s.canLand f = true ∧ Staying s

/-- An entry that is MEMBER after a frame of its station has the frame's sequence recorded (R13). -/
def heardAs (seq : BitVec 8) (e : Entry) : Entry := if e.isMember then { e with lastSeq := seq } else e

/-- The outlet of a channel is set up by `c` and its events are taken. -/
abbrev Takes (s : State) (ch : Chan) (c : OutletCfg) : Prop := s.acts = true ∧ s.outletCfg? ch = some c ∧ Staying s

/-- The stage of a channel is set up by `c` and its events are taken. -/
abbrev StageTakes (s : State) (ch : Chan) (c : StageCfg) : Prop := s.acts = true ∧ s.stageCfg? ch = some c ∧ Staying s

/-- `State.still` after one outlet fault has been reported (R189): the flag, the counter, the last-fault field, and with the
response ISOLATE the state FAULT with its kind. -/
def reported (s : State) (kind : FaultKind) (ch : Chan) (before : Still) : Still :=
  let o := before.outlets[ch]
  let isolated := decide (s.fru.responses.get kind = .isolate) && (s.outlet ch).state.isolable
  { before with
    otherFlags := before.otherFlags ||| Flag.bit .outletFault
    outletFaults := countUp before.outletFaults
    outlets := before.outlets.set ch
      { o with
        lastFault := some kind
        faultKind := if isolated then some kind else o.faultKind
        inFault := isolated || o.inFault } }

/-- A timer short of its limit counts one half-second on. -/
def CountsOn (limit : Nat) (before after : Timer) : Prop := ∀ n, before = some n → n < limit → after = some (n + 1)

/-- The line's timers, the meter window and the timers of the stages and services count on (R44, R54, R55, R61, R86, R94, R129,
R140, R176, R178, R182, R184). -/
def LineAndShareTimersCount (s t : State) : Prop :=
  CountsOn 20 s.meterWindow t.meterWindow ∧
  CountsOn (s.limit Image.tSelf) s.memb.ownLanding t.memb.ownLanding ∧
  CountsOn (s.limit Image.syncWindow) s.memb.syncWindow t.memb.syncWindow ∧
  CountsOn (s.limit Image.tKeep) s.liu.retryPause t.liu.retryPause ∧
  (∀ p : Stn, CountsOn (s.limit Image.tExp) s.ledger.silence[p] t.ledger.silence[p]) ∧
  (∀ v, CountsOn (s.limit Image.tReclaim) (s.hold.get v).reclaimTimer (t.hold.get v).reclaimTimer ∧
    CountsOn (s.callDelay v) (s.supply.get v).callTimer (t.supply.get v).callTimer ∧
    CountsOn (s.dropHold v) (s.supply.get v).dropTimer (t.supply.get v).dropTimer) ∧
  (∀ v k, CountsOn (s.giveHold v) (s.classHold v k).spareTimer (t.classHold v k).spareTimer ∧
    CountsOn (s.blockTicks v k) (s.queue v k).blockTimer (t.queue v k).blockTimer) ∧
  ∀ (ch : Chan) (c : StageCfg), s.stageCfg? ch = some c →
    CountsOn (2 * c.warmUpLimit) (s.stage ch).warmUp (t.stage ch).warmUp ∧
    CountsOn (2 * c.lockoutTime) (s.stage ch).lockout (t.stage ch).lockout

/-- The outlet timers count on; a stroke timer with feedback runs on past the overrun; a run's remaining time counts down only
while it is RUNNING with its valve SETTLED (R103, R107, R110, R134, R136, R138, R139, R164, R168). -/
def OutletTimersCount (s t : State) : Prop :=
  ∀ (ch : Chan) (c : OutletCfg), s.outletCfg? ch = some c →
    let o := s.outlet ch
    let o' := t.outlet ch
    (∀ n, o.idleTimer = .running n → n < OutletCfg.idleTicks c → o'.idleTimer = .running (n + 1)) ∧
    (∀ x, o.idleTimer = x → (∀ n, x ≠ .running n) → o'.idleTimer = x) ∧
    CountsOn (OutletCfg.periodTicks c) o.pulseTimer o'.pulseTimer ∧
    CountsOn (OutletCfg.lengthTicks c) o.pulseLength o'.pulseLength ∧
    CountsOn (OutletCfg.suspensionTicks c) o.suspension o'.suspension ∧
    CountsOn (OutletCfg.strokeTicks c) o.drift o'.drift ∧
    (c.feedback = true → ∀ n, o.stroke = some n → o'.stroke = some (n + 1)) ∧
    (c.feedback = false → CountsOn (OutletCfg.strokeTicks c) o.stroke o'.stroke) ∧
    (o.state = .running → o.moving = false → o'.runRemaining + 1 = o.runRemaining) ∧
    (o.state ≠ .running ∨ o.moving = true → o'.runRemaining = o.runRemaining)

end Sys2Proof.Claims

open Sys2Proof Sys2Proof.Machine Sys2Proof.Claims

/-! ### The queue of commands, time, and rules over every command -/

/-- A step takes the command at the front of the queue and runs it with the queue's rest. -/
def Obligations.StepTakesTheFront : Prop :=
  ∀ (c : Instr) (rest : List Instr) (s : State), s.pending = c :: rest → step s = exec c { s with pending := rest }

/-- On an empty queue half a second passes (log 2, the model's choice): nothing happens while the station does not act; with
no expiry due, every running timer of the station counts on and what `State.still` holds stays but for the meter window's
timer; with one expiry due, its command is run on the state in which the other timers have counted on (logs 3, 4). -/
def Obligations.IdleStepPassesTime : Prop :=
  ∀ s : State, s.pending = [] →
    (s.acts = false → step s = .next s) ∧
    (s.acts = true → s.dueEvents = [] → ∃ t, step s = .next t ∧
      t.still = { s.still with meterWindow := t.meterWindow } ∧
      LineAndShareTimersCount s t ∧ OutletTimersCount s t ∧
      t.liu.queue = s.liu.queue ∧ t.memb.station = s.memb.station) ∧
    (∀ c, s.acts = true → s.dueEvents = [c] → step s = exec c s.passTime)

/-- Every command, in every state, answers a next state and leaves the queue of waiting commands as it is. That one whose event
cannot happen still answers a next state is the model's choice (log 5), and the queue is the model's own (log 25). -/
def Obligations.EveryCommandAnswers : Prop :=
  ∀ (c : Instr) (s : State), Answers c s fun t => t.pending = s.pending

/-- A flag once set stays set until CLEAR-FLAGS or a full reset, which leaves START (R193, R194). -/
def Obligations.FlagsStayUntilCleared : Prop :=
  ∀ (c : Instr) (s : State), (∀ m, c ≠ .clearFlags m) →
    Answers c s fun t => t.station = .start ∨ ∀ f, s.flagSet f = true → t.flagSet f = true

/-- A station in INERT stays there, its copy untouched, whatever the command, but for a full reset: by power-on, by the
RESET pin, or once the response to RESTART has been sent (R4, R202). -/
def Obligations.InertIsLeftByResetOnly : Prop :=
  ∀ (c : Instr) (s : State), s.station = .inert →
    Answers c s fun t =>
      (t.station = .inert ∧ t.ledger.copy = s.ledger.copy ∧ t.loader.image = s.loader.image) ∨
      (t.station = .start ∧
        (c = .powerOn ∨ c = .resetPinAsserted ∨ c = .resetPinReleased ∨
          (c = .responseSent ∧ s.serial.resetWaiting = true)))

/-- What the blocks do of themselves in an event leaves alone all that `State.still` holds, whatever the command was, as
long as no RESTART is asked for. -/
def Obligations.ReactionsLeaveStill : Prop := ∀ s : State, Staying s → s.settle.still = s.still

/-- What an event leaves in MEMBER: an own offer that is not the intended one has an OFFER under way (R181), an announced want
that does not match the mark has a WANT under way (R85), an unmet amount that headroom allows has a TAKE outstanding (R81),
nothing is left to give (R88), and a silence of T_keep has a KEEP or HAIL under way (R60). -/
def Sys2Proof.Claims.SharesAreServed (t : State) : Prop :=
    ∀ v : Svc,
      (t.intendedOffer v ≠ t.ownOffer v → t.keyBusy (.offer v) = true) ∧
      (wantMismatch (t.hold.get v).wantMark (t.unmetTotal v) (t.ownEntry.want v) (t.svcSetting v ServiceCfg.wantOn) = true →
        t.keyBusy (.want v) = true) ∧
      ((t.hold.get v).outstanding = none → ∀ k, t.unmet v k = 0 ∨ t.headroom v = 0) ∧
      (∀ k, t.ownHolding v k ≤ t.waitingGive v k + max (t.sumBounds v k) (t.classHold v k).keep) ∧
      (Timer.atLeast (t.limit Image.tKeep) t.memb.ownLanding = true → t.refreshBusy = true)

/-- A peer silent for T_exp is a lapse candidate or named by a LAPSE under way (R62, R63), and a candidate or a LAPSE of self
asked for leaves the LAPSE key no time free (R49). -/
def Sys2Proof.Claims.LapsesAreServed (t : State) : Prop :=
  (∀ n : Stn, n ≠ t.own → (t.entry n).isMember = true → Timer.atLeast (t.limit Image.tExp) t.ledger.silence[n] = true →
    t.ledger.candidates.any (fun p => p.1 == n) = true ∨ t.lapseNames n = true) ∧
  (t.memb.lapseSelfRequested = true ∨ t.ledger.candidates ≠ [] → t.keyBusy .lapse = true)

/-- No ALWAYS stage stands DOWN with its trip input deasserted (R183). -/
def Sys2Proof.Claims.AlwaysStagesAreCalled (t : State) : Prop :=
  ∀ (ch : Chan) (c : StageCfg), t.stageCfg? ch = some c → c.mode = .always → t.pins.trip[ch] = false →
    (t.stage ch).state ≠ .down

/-- A class is within its keep, or the steps of a keep cut have nothing left to lower in it: among the outlets with a grant above
0 that are not guarded, or all of them unless it is a duty cut, no pulse in OPENING or HELD, no ACTIVE modulating outlet or
MONITOR in the reverse order, and no RUNNING run in the start order (R146 to R150). -/
def Sys2Proof.Claims.CutIsMade (keep : Nat) (duty : Bool) (guarded : Chan → Bool) (t : State) (v : Svc) (k : Cls) : Prop :=
  t.sumGrants v k ≤ keep ∨
  ∀ (ch : Chan) (c : OutletCfg), t.outletCfg? ch = some c → 0 < (t.outlet ch).grant →
    (duty = false ∨ guarded ch = false) →
    (ch ∈ t.reverseOrder v k →
      (t.outlet ch).pulsePhase ≠ .opening ∧ (t.outlet ch).pulsePhase ≠ .held ∧
      (c.modulating?.isSome = true → (t.outlet ch).state ≠ .active) ∧ c.valve?.isSome = true) ∧
    (ch ∈ t.app.startOrder.get v k → (t.outlet ch).state ≠ .running)

/-- e^S_k: the own shortage duty of the class and the shortage carried into it (R87). -/
def Sys2Proof.Claims.shortageOn (t : State) (v : Svc) (k : Cls) : Nat :=
  shortageDuty t.ledger.copy v t.own k + (t.classHold v k).carriedShortage

/-- e^X_k: the own reclaim duty of the class and the reclaim carried into it; 0 for class 0 (R87). -/
def Sys2Proof.Claims.reclaimOn (t : State) (v : Svc) (k : Cls) : Nat :=
  if k = .c0 then 0 else (reclaimDuties t.ledger.copy v t.own).get k + (t.classHold v k).carriedReclaim

/-- The keep amount of a class is the smallest of the normal term, which is the target while the class is releasing and the
holding otherwise (R86), of h − e^S and of h − e^X, neither below 0; its duty mark says whether one of the last two is below the
first (R87). -/
def Sys2Proof.Claims.KeepIsComputed (t : State) (v : Svc) (k : Cls) : Prop :=
  let c := t.classHold v k
  let h := t.ownHolding v k
  let normal := if c.releasing then t.target v k else h
  c.keep = min normal (min (h - shortageOn t v k) (h - reclaimOn t v k)) ∧
  (c.dutyMark = true ↔ h - shortageOn t v k < normal ∨ h - reclaimOn t v k < normal)

/-- What a class's duty exceeds the amount it can give while the guard holds, h less its guarded grants (R90), is carried to the
class above, from class 3, into which nothing is carried, to class 0, into which no reclaim is; what then remains is the unplaced
shortage and the unplaced reclaim (R91, R92). -/
def Sys2Proof.Claims.CarriesAreComputed (t : State) (v : Svc) : Prop :=
  let give (k : Cls) : Nat := t.ownHolding v k - t.guardedTotal v k
  let c := t.classHold v
  ((c .c3).carriedShortage = 0 ∧ (c .c2).carriedShortage = shortageOn t v .c3 - give .c3 ∧
    (c .c1).carriedShortage = shortageOn t v .c2 - give .c2 ∧ (c .c0).carriedShortage = shortageOn t v .c1 - give .c1 ∧
    (t.hold.get v).unplacedShortage = shortageOn t v .c0 - give .c0) ∧
  ((c .c3).carriedReclaim = 0 ∧ (c .c2).carriedReclaim = reclaimOn t v .c3 - give .c3 ∧
    (c .c1).carriedReclaim = reclaimOn t v .c2 - give .c2 ∧ (c .c0).carriedReclaim = 0 ∧
    (t.hold.get v).unplacedReclaim = reclaimOn t v .c1 - give .c1)

/-- An event that leaves the station in MEMBER leaves the standing rules of offers, wants, takes, gives, refresh, lapses and ALWAYS
stages served (R49, R60, R62, R63, R81, R85, R88, R181, R183). Where the orders and carries are sound, as every step keeps them
(`StepKeepsOrdersAndCarries`), it leaves every keep amount, duty mark and carried amount as its formula gives it (R86, R87, R90 to
R92) and the keep cuts made (R146). -/
def Obligations.StandingRulesAreServed : Prop :=
  ∀ s : State, s.settle.isMember = true → s.settle.live = true →
    let t := s.settle
    SharesAreServed t ∧ LapsesAreServed t ∧ AlwaysStagesAreCalled t ∧
    (s.ordersSound = true →
      (∀ v k, KeepIsComputed t v k ∧ CutIsMade (t.classHold v k).keep (t.classHold v k).dutyMark t.guarded t v k) ∧
      (s.carriesSound = true → ∀ v, CarriesAreComputed t v))

/-! ### Reset and the settings -/

/-- Right after power-on, the RESET pin released (log 25), every block has the reset values its chapter gives, and nothing waits: the line, the copy, the
station, the shares, the outlets with their strokes and meters, the orders, the stages, the faults, the settings loader with its
read under way, and the service line (R4, R44, R51, R53, R75, R99, R121, R131, R132, R134, R135, R138 to R142, R149, R153, R160,
R175, R180, R188, R189, R193, R195, R196, R198, R203, R206). What the rules do not give before the image is loaded is the model's
choice: an outlet's state and demand level (log 24), a stage record and the call and drop hold timers (log 46), the candidate a drop
hold timer runs for (log 26). -/
def Obligations.ResetValues : Prop :=
  State.reset.memb = ⟨.start, .none, none, none, false⟩ ∧ State.reset.pending = [] ∧
  (∀ n, State.reset.entry n = Entry.blank ∧ State.reset.ledger.silence[n] = none) ∧ State.reset.ledger.candidates = [] ∧
  State.reset.liu.seqCounter = 0 ∧ State.reset.liu.failCount = 0 ∧ State.reset.liu.retryPause = none ∧
  State.reset.liu.queue = TxQueue.empty ∧ State.reset.liu.tx = none ∧
  (∀ v k, State.reset.classHold v k = ClassHold.initial ∧ (State.reset.hold.get v).outstanding = none ∧
    (State.reset.hold.get v).wantMark = false ∧ State.reset.queue v k = WaitQueue.empty ∧
    State.reset.app.raiseOrder.get v k = [] ∧ State.reset.app.startOrder.get v k = [] ∧
    (State.reset.hold.get v).reclaimTimer = none ∧ State.reset.supply.get v = ⟨false, none, none, none⟩) ∧
  (∀ ch, let o := State.reset.outlet ch
    o.grant = 0 ∧ o.peak = 0 ∧ o.command = 0 ∧ o.desired = 0 ∧ o.deferrals = 0 ∧ o.moving = false ∧ o.stroke = none ∧
    o.seenDeasserted = false ∧ o.overrun = false ∧ o.drift = none ∧ o.pulses = 0 ∧ o.metered = 0 ∧ o.excess = 0 ∧
    o.outOfRange = false ∧ o.idleTimer = .stopped ∧ o.pulsePhase = .none ∧ o.pulseTimer = none ∧ o.pulseLength = none ∧
    o.runRemaining = 0 ∧ o.suspension = none ∧ o.repeatFlag = false ∧ o.disablePending = false ∧ o.endOfRun = false ∧
    o.faultKind = none ∧ o.lastFault = none ∧ State.reset.stage ch = ⟨.down, false, none, none⟩) ∧
  State.reset.meterWindow = none ∧
  State.reset.loader = ⟨true, none, .none, [], 0, Vector.replicate 6 none, none⟩ ∧ State.reset.serial = ⟨false, [], false⟩ ∧
  State.reset.app.guard = ⟨.range, 0, .top, false, 0⟩ ∧ State.reset.fru.flags = 0 ∧
  State.reset.fru.counters = Counters.zero ∧ (∀ k, State.reset.fru.responses.get k = .note) ∧
  State.reset.fru.alertMask = 511 ∧ State.reset.alert = false

/-- POWER_ON and both edges of the RESET pin give a full reset from every state; the settings read is under way exactly when
the pin is then released (R198). A release of a pin that is not asserted is no event (log 5). -/
def Obligations.PowerAndResetPinClear : Prop :=
  ∀ s : State,
    exec .powerOn s = .next (cleared s s.pins.reset) ∧
    exec .resetPinAsserted s = .next (cleared s true) ∧
    (s.pins.reset = true → exec .resetPinReleased s = .next (cleared s false)) ∧
    (s.pins.reset = false → exec .resetPinReleased s = .next s)

/-- The effective bounds and band limits of a service: a class without an outlet takes the bound of the class before it, and
its band is empty (R77). -/
def Sys2Proof.Claims.BandsOf (im : Image) (v : Svc) (h : ServiceHold) : Prop :=
  let b := (im.services.get v).bounds
  let outlets (k : Cls) : Prop := ∃ (ch : Chan) (c : OutletCfg), im.channels[ch] = .outlet c ∧ c.svc = v ∧ c.cls = k
  let e (k : Cls) : Nat := (h.classes.get k).effBound
  let l (k : Cls) : Nat := (h.classes.get k).bandLimit
  ((outlets .c0 → e .c0 = b.c0) ∧ (¬outlets .c0 → e .c0 = 0) ∧ l .c0 = e .c0) ∧
  ((outlets .c1 → e .c1 = b.c1) ∧ (¬outlets .c1 → e .c1 = e .c0) ∧ l .c1 = e .c1 - e .c0) ∧
  ((outlets .c2 → e .c2 = b.c2) ∧ (¬outlets .c2 → e .c2 = e .c1) ∧ l .c2 = e .c2 - e .c1) ∧
  ((outlets .c3 → e .c3 = b.c3) ∧ (¬outlets .c3 → e .c3 = e .c2) ∧ l .c3 = e .c3 - e .c2)

/-- The first state of a channel's outlet, its demand input standing at `mv` millivolts: OFF unless it is enabled at start;
then IDLE for BATCH, ACTIVE for MONITOR, and for MODULATING ACTIVE or IDLE by its level, which is above 0 from 520 to 2600 mV (R99,
R102, R207). That a reading out of span, below 400 or above 2600 mV, is reported in the event of the load, and an outlet isolated
for it then in FAULT, is the model's inference from R101, R115 and R142 (log 24, DEDUCED). -/
def Sys2Proof.Claims.FirstState (im : Image) (mv : Nat) (ch : Chan) (o : Outlet) : Prop :=
  o.grant = 0 ∧
  ((∀ c, im.channels[ch] ≠ .outlet c) → o.state = .off) ∧
  ∀ c, im.channels[ch] = .outlet c →
    (c.enabledAtStart = false → o.state = .off) ∧
    (c.enabledAtStart = true →
      (c.batch?.isSome = true → o.state = .idle) ∧
      (∀ r, c.kind = .monitor r → o.state = .active) ∧
      (c.modulating?.isSome = true →
        o.state =
          if mv < 400 ∨ 2600 < mv then (if im.responses.demandRange = .isolate then .fault else .idle)
          else if mv < 520 then .idle else .active))

/-- A completed read of a valid image, of 384 bytes, freezes it and hands its settings to the blocks: the bands, the first
outlet states, every stage DOWN, the meter window begun, the guard, the fault responses and the alert mask; the station enters
SYNCING with its window at zero and its copy as it stood (R55, R77, R99, R140, R153, R175, R188, R196, R201, R207). That a reading
out of span is a DEMAND-RANGE fault of the load, its outlet in FAULT where the response isolates, is the model's inference (log
24, DEDUCED from R101, R115 and R142); where the image answers DEMAND-RANGE with WITHDRAW it may lead on from SYNCING, so the state
is then not claimed. -/
def Obligations.ValidImageIsFrozen : Prop :=
  ∀ (s : State) (status : Byte) (b : List Byte),
    s.pins.reset = false → s.station = .start → s.loader.reading = true →
    status ≠ 255 → b.length = 384 → failedCheck b = 0 →
    Answers (.settingsReadCompletes status b) s fun t =>
      (∀ v, BandsOf (readImage b) v (t.hold.get v)) ∧
      (∀ ch : Chan, FirstState (readImage b) s.pins.demand[ch] ch (t.outlet ch)) ∧
      (∀ ch, t.stage ch = ⟨.down, false, none, none⟩) ∧ t.meterWindow = some 0 ∧
      t.loader = { s.loader with
        reading := false, image := some (readImage b), source := .frozen, bytes := b, failedCheck := 0 } ∧
      t.app.guard = Image.guard (readImage b) ∧ t.fru.responses = (readImage b).responses ∧
      t.fru.alertMask = (readImage b).alertMask ∧ t.ledger.copy = s.ledger.copy ∧ t.pins = s.pins ∧
      ((readImage b).responses.demandRange ≠ .withdraw ∨
          (∀ ch : Chan, 400 ≤ s.pins.demand[ch] ∧ s.pins.demand[ch] ≤ 2600) →
        t.memb = ⟨.syncing, .none, none, some 0, false⟩)

/-- A missing memory and an invalid image lead to INERT with SETTINGS-INVALID; the number of the failed check and the bytes
rejected are kept, and the copy stays as it stood (R198, R201, R205). -/
def Obligations.InvalidImageIsRejected : Prop :=
  ∀ (s : State) (status : Byte) (b : List Byte),
    s.pins.reset = false → s.station = .start → s.loader.reading = true →
    (status = 255 → Answers (.settingsReadCompletes status b) s fun t =>
      t.station = .inert ∧ t.flagSet .settingsInvalid = true ∧ t.ledger.copy = s.ledger.copy ∧
      t.loader = { s.loader with reading := false, source := .none, bytes := [], failedCheck := 1 }) ∧
    (status ≠ 255 → b.length = 384 → failedCheck b ≠ 0 → Answers (.settingsReadCompletes status b) s fun t =>
      t.station = .inert ∧ t.flagSet .settingsInvalid = true ∧ t.ledger.copy = s.ledger.copy ∧
      t.loader = { s.loader with reading := false, source := .rejected, bytes := b, failedCheck := failedCheck b })

/-- The ranges of the station's own fields (R199). -/
def Sys2Proof.Claims.StationInRange (b : List Byte) (im : Image) : Prop :=
  im.own.val + 1 = byteAt b 3 ∧ 1 ≤ im.weight ∧ im.weight ≤ 63 ∧ 1 ≤ im.nInst ∧ im.nInst ≤ 32 ∧ 1 ≤ im.tKeep ∧
  im.tKeep ≤ 10 ∧ 5 ≤ im.tStrokeMax ∧ im.tStrokeMax ≤ 120 ∧ 2 ≤ im.tReclaim ∧ im.tReclaim ≤ 60 ∧ im.guardCount ≤ 16

/-- The ranges of the fields of one service (R199). -/
def Sys2Proof.Claims.ServiceInRange (c : ServiceCfg) : Prop :=
  c.bounds.c0 ≤ c.bounds.c1 ∧ c.bounds.c1 ≤ c.bounds.c2 ∧ c.bounds.c2 ≤ c.bounds.c3 ∧ c.bounds.c3 ≤ 4095 ∧
  1 ≤ c.wantOn ∧ c.wantOn ≤ 4095 ∧ c.wantOff < c.wantOn ∧ 1 ≤ c.giveThreshold ∧ c.giveThreshold ≤ 4095 ∧
  1 ≤ c.giveHold ∧ c.giveHold ≤ 60 ∧ 1 ≤ c.callDelay ∧ c.callDelay ≤ 600 ∧ c.dropMargin ≤ 4095 ∧
  10 ≤ c.dropHold ∧ c.dropHold ≤ 1800

/-- The ranges of an outlet's fields, by its kind (R98, R200). -/
def Sys2Proof.Claims.OutletInRange (im : Image) (c : OutletCfg) : Prop :=
  1 ≤ c.pulseWeight ∧ c.pulseWeight ≤ 255 ∧ c.tolerance ≤ 100 ∧ 1 ≤ c.persistence ∧ c.persistence ≤ 10 ∧
  (∀ r, c.kind = .monitor r → 1 ≤ r ∧ r ≤ 1023) ∧
  ∀ w, c.valve? = some w →
    1 ≤ w.ratedDraw ∧ w.ratedDraw ≤ 1023 ∧ w.group ≤ 3 ∧ 5 ≤ w.strokeTime ∧ w.strokeTime ≤ im.tStrokeMax ∧
    (∀ m, c.modulating? = some m →
      m.minDraw ≤ w.ratedDraw ∧ m.pulseDraw ≤ w.ratedDraw ∧ 1 ≤ m.idleTime ∧ m.idleTime ≤ 240 ∧
      1 ≤ m.pulsePeriod ∧ m.pulsePeriod ≤ 120 ∧ 10 ≤ m.pulseLength ∧ m.pulseLength ≤ 600) ∧
    (∀ r, c.batch? = some r →
      1 ≤ r.runDraw ∧ r.runDraw ≤ w.ratedDraw ∧ 1 ≤ r.runLength ∧ r.runLength ≤ 7200 ∧
      1 ≤ r.waitLimit ∧ r.waitLimit ≤ 600 ∧ 1 ≤ r.maxSuspension ∧ r.maxSuspension ≤ 3600)

/-- The ranges of a stage's fields (R174, R200). -/
def Sys2Proof.Claims.StageInRange (c : StageCfg) : Prop :=
  1 ≤ c.rating ∧ c.rating ≤ 1023 ∧ 1 ≤ c.callOrder ∧ c.callOrder ≤ 16 ∧ 30 ≤ c.warmUpLimit ∧ c.warmUpLimit ≤ 1800 ∧
  60 ≤ c.lockoutTime ∧ c.lockoutTime ≤ 3600

/-- The fields of an image that passes the checks lie in their ranges: the station's own, each service's with its bounds
ascending, each outlet's with its draws within the rated draw and its stroke time within T_strokemax, and each stage's (R98, R174,
R199 to R201). -/
def Obligations.ValidImageIsInRange : Prop :=
  ∀ b : List Byte, failedCheck b = 0 →
    let im := readImage b
    StationInRange b im ∧ (∀ v, ServiceInRange (im.services.get v)) ∧
    (∀ (ch : Chan) (c : OutletCfg), im.channels[ch] = .outlet c → OutletInRange im c) ∧
    ∀ (ch : Chan) (c : StageCfg), im.channels[ch] = .stage c → StageInRange c

/-! ### The plant line -/

/-- A frame of any kind, with any field values, is read back from its line bits as it was sent (R33, R34). -/
def Obligations.FrameRoundTrip : Prop := ∀ f : Frame, receive (stuff (Frame.bits f)) = some f

/-- A receiver drives SEEN on a well-formed frame exactly when its weight is not 0, its number is another's and its profile
is the receiver's (R39). -/
def Obligations.ReceiverJudges : Prop :=
  ∀ (own : Stn) (profile : BitVec 16) (f : Frame),
    judge own profile (stuff (Frame.bits f)) =
      if Body.weightRight f.body = true ∧ f.sender ≠ own ∧ Body.profileRight profile f.body = true then .seen else .void

/-- START_OF_ATTEMPT takes into transmission a waiting frame that no other precedes by rank and then age, filled at that
moment, under the present sequence; nothing else of the station changes (R35, R42, R45, R48, R181). Of frames of one rank
placed together either may go (log 9). -/
def Sys2Proof.Claims.AttemptTakesTheHead : Prop :=
  ∀ s : State, s.onLine = true → s.liu.tx = none → s.liu.retryPause = none → (∃ key, s.liu.queue.waitsAt key = true) →
    ∃ (key : Key) (b : Body) (uses : Nat),
      s.liu.queue.waitsAt key = true ∧ (∀ other, s.liu.queue.waitsAt other = true → s.liu.queue.before other key = false) ∧
      s.fill key = some b ∧ Body.key b = key ∧
      exec .startOfAttempt s = .next { s with
        freeUses := uses
        liu := { s.liu with
          queue := s.liu.queue.remove key
          tx := some ⟨s.liu.seqCounter, b, (s.liu.queue.ageAt key).getD 0, s.coveredAt key, false⟩ } }

/-- At the start of an attempt an OFFER takes the intended offer and the forced mark, a WANT what the mark and the unmet total
say, a KEEP the own entry, a HAIL the image's weight and profile; a TAKE, GIVE or LAPSE carries what was placed (R10, R48,
R84, R180). -/
def Sys2Proof.Claims.FramesAreFilledAtTheAttempt : Prop :=
  ∀ (s : State) (v : Svc) (k : Cls) (im : Image),
    (∀ a, s.liu.queue.offer.get v = some a →
      s.fill (.offer v) = some (.offer v (s.supply.get v).forced (BitVec.ofNat 12 (s.intendedOffer v)))) ∧
    (∀ a, s.liu.queue.want.get v = some a →
      s.fill (.want v) = some (.want v (BitVec.ofNat 12 (if (s.hold.get v).wantMark then s.unmetTotal v else 0)))) ∧
    (∀ g, s.liu.queue.give.get v k = some g → s.fill (.give v k) = some (.give v k (BitVec.ofNat 12 g.amount))) ∧
    (∀ x, s.liu.queue.take.get v = some x → s.fill (.take v) = some (.take v x.cls (BitVec.ofNat 12 x.amount))) ∧
    (∀ x, s.liu.queue.lapse = some x → s.fill .lapse = some (.lapse x.target x.targetSeq)) ∧
    (∀ x, s.liu.queue.refresh = some x → s.loader.image = some im →
      s.fill .refresh = some (if x.isHail then .hail (BitVec.ofNat 6 im.weight) im.profile
        else .keep (BitVec.ofNat 6 s.ownEntry.weight) s.ownEntry.profile
          (Shares.account s.ownEntry.shares.hw) (Shares.account s.ownEntry.shares.st)))

/-- START_OF_ATTEMPT: the frame that goes, and what it is filled with (R35, R42, R45, R48, R84, R180, R181). -/
def Obligations.AttemptSendsTheHeadFilled : Prop := AttemptTakesTheHead ∧ FramesAreFilledAtTheAttempt

/-- A frame that loses arbitration returns under its key with its age; the failure count and the counters stand (R36, R41,
R47). One whose kind was discarded meanwhile does not return, and a TAKE then ends being outstanding (R51). -/
def Sys2Proof.Claims.LostAttemptReturns : Prop :=
  ∀ (s : State) (x : TxFrame), s.onLine = true → s.liu.tx = some x →
    (x.discarded = false → Acts .arbitrationLost s
      { s with liu := { s.liu with tx := none, queue := TxQueue.putBack x.body x.age s.liu.queue } }) ∧
    (x.discarded = true → ∀ v k n, x.body = .take v k n → Acts .arbitrationLost s
      { s with
        liu := { s.liu with tx := none }
        hold := s.hold.set v { s.hold.get v with outstanding := none } }) ∧
    (x.discarded = true → (∀ v k n, x.body ≠ .take v k n) → Acts .arbitrationLost s
      { s with liu := { s.liu with tx := none } })

/-- A failed attempt, short of the eighth in a row, raises the failure count and "attempts failed" and returns its frame; one
that failed by a bit read back differently has its VOID slot driven by the sender, any other drives neither slot (R37, R41,
R47). -/
def Sys2Proof.Claims.FailedAttemptCounts : Prop :=
  ∀ (s : State) (mismatch : Bool) (x : TxFrame),
    s.onLine = true → s.liu.tx = some x → x.discarded = false → s.liu.failCount < 7 →
    Acts (.attemptFails mismatch) s
      { s with
        liu := { s.liu with
          mark := if mismatch then .void else s.liu.mark
          tx := none, queue := TxQueue.putBack x.body x.age s.liu.queue, failCount := s.liu.failCount + 1 }
        fru := { s.fru with
          counters := { s.fru.counters with attemptsFailed := countUp s.fru.counters.attemptsFailed } } }

/-- The eighth failure in a row sets LINE-FAULT and starts the retry pause (R43). -/
def Sys2Proof.Claims.EighthFailurePauses : Prop :=
  ∀ (s : State) (mismatch : Bool) (x : TxFrame),
    s.onLine = true → s.liu.tx = some x → x.discarded = false → s.liu.failCount = 7 →
    (s.station ≠ .joining ∨ Body.rank x.body ≠ 3) →
    Acts (.attemptFails mismatch) s
      { s with
        liu := { s.liu with
          mark := if mismatch then .void else s.liu.mark
          tx := none, queue := TxQueue.putBack x.body x.age s.liu.queue, failCount := 8, retryPause := some 0 }
        fru := { s.fru with
          flags := s.fru.flags ||| 1#9
          counters := { s.fru.counters with attemptsFailed := countUp s.fru.counters.attemptsFailed } } }

/-- When that frame is the own HAIL in JOINING, the station enters INERT with JOIN-REFUSED, its queue empty and its copy as
it stood (R51, R58). -/
def Sys2Proof.Claims.EighthHailIsRefused : Prop :=
  ∀ (s : State) (mismatch : Bool) (x : TxFrame) (w : BitVec 6) (p : BitVec 16),
    s.onLine = true → s.station = .joining → s.liu.tx = some x → x.body = .hail w p → s.liu.failCount = 7 →
    Answers (.attemptFails mismatch) s fun t =>
      t.station = .inert ∧ t.flagSet .joinRefused = true ∧ t.liu.queue = TxQueue.empty ∧ t.liu.tx = none ∧
      t.ledger.copy = s.ledger.copy ∧ t.fru.counters.attemptsFailed = countUp s.fru.counters.attemptsFailed

/-- The end of the retry pause puts the failure count to 0, and changes nothing else of itself (R44). -/
def Sys2Proof.Claims.PauseEndResumes : Prop :=
  ∀ s : State, s.onLine = true → s.liu.retryPause.isSome = true →
    Acts .retryPauseExpires s { s with liu := { s.liu with retryPause := none, failCount := 0 } }

/-- ARBITRATION_LOST, ATTEMPT_FAILS short of and at the eighth failure in a row, RETRY_PAUSE_EXPIRES (R36, R37,
R41, R43, R44, R47, R51). -/
def Obligations.AttemptsReturnAndAreCounted : Prop :=
  LostAttemptReturns ∧ FailedAttemptCounts ∧ EighthFailurePauses ∧ PauseEndResumes

/-- A frame that does not land changes no copy: the station keeps the slot it drove by its own judgement (R39, R40). A partial
frame dropped changes nothing at all (R32), and a frame whose start bit the station did not hear, landed or not, is neither
marked nor applied (R38). One that lands after the end of a withdrawal, begun before it, is marked and counted, and the copy stays
as it stood (R4, R11, R38; that it is marked and not applied is the model's choice between these, log 38). -/
def Obligations.NoLandingNoChange : Prop :=
  (∀ (s : State) (bits : List Bool) (turns : Nat), s.heard turns = true → Staying s →
    (s.station ≠ .syncing ∨ ∀ f, receive bits = some f → Frame.profileAlone s.own s.profile f = false) →
    Answers (.frameNotLanded bits turns) s fun t =>
      t.still = { s.still with mark := judge s.own s.profile bits }) ∧
  (∀ (s : State) (bits : List Bool) (f : Frame) (turns : Nat), s.heard turns = false →
    exec (.frameNotLanded bits turns) s = .next s ∧ exec (landing f turns) s = .next s) ∧
  (∀ (s : State) (f : Frame) (turns : Nat), s.heard turns = true → s.participates = false → s.canLand f = true → Staying s →
    Answers (landing f turns) s fun t =>
      t.still = { s.still with mark := .seen, framesLanded := countUp s.fru.counters.framesLanded }) ∧
  ∀ s : State, exec .partialFrameDropped s = .next s

/-- A station in SYNCING that voids a KEEP for its profile code alone enters INERT with PROFILE-MISMATCH (R56). -/
def Sys2Proof.Claims.ProfileMismatchStopsSyncing : Prop :=
  ∀ (s : State) (turns : Nat) (f : Frame) (w : BitVec 6) (p : BitVec 16) (hw st : Account),
    s.heard turns = true → s.station = .syncing → f.body = .keep w p hw st → w ≠ 0 → f.sender ≠ s.own → p ≠ s.profile →
    Answers (.frameNotLanded (stuff (Frame.bits f)) turns) s fun t =>
      t.station = .inert ∧ t.flagSet .profileMismatch = true ∧ t.liu.mark = .void ∧ t.ledger.copy = s.ledger.copy

/-- The two ways a joining station is stopped in INERT (R56, R58). -/
def Obligations.RefusedJoinersStop : Prop := EighthHailIsRefused ∧ ProfileMismatchStopsSyncing

/-! ### The ledger copy -/

/-- TAKE: the holding rises by n when all five conditions hold in the copy before it; otherwise the copy changes by the
recorded sequence alone. No other entry changes (R12 to R14). -/
def Obligations.TakeIsJudged : Prop :=
  ∀ (s : State) (turns : Nat) (sender : Stn) (seq : BitVec 8) (v : Svc) (k : Cls) (n : BitVec 12),
    Lands s turns ⟨sender, seq, .take v k n⟩ →
    Answers (.take sender seq v k n turns) s fun t =>
      let c := s.ledger.copy
      let e := s.entry sender
      t.ledger.copy = c.set sender (heardAs seq
        (if e.isMember = true ∧ 1 ≤ n.toNat ∧ (n.toNat : Int) ≤ free c v ∧ s.quorum ≤ memberCount c ∧
            (e.total v + n.toNat ≤ fairShare c v sender ∨ ∀ p, p ≠ sender → (s.entry p).isMember = true → (s.entry p).want v = 0)
          then e.setHolding v k (e.holding v k + n.toNat) else e))

/-- GIVE: the holding of a MEMBER sender falls by n, to 0 at the least; nothing else of the copy changes but its sequence
(R13, R15). -/
def Sys2Proof.Claims.GiveLowersTheHolding : Prop :=
  ∀ (s : State) (turns : Nat) (sender : Stn) (seq : BitVec 8) (v : Svc) (k : Cls) (n : BitVec 12),
    Lands s turns ⟨sender, seq, .give v k n⟩ →
    Answers (.give sender seq v k n turns) s fun t =>
      let e := s.entry sender
      t.ledger.copy = s.ledger.copy.set sender
        (heardAs seq (if e.isMember then e.setHolding v k (e.holding v k - n.toNat) else e))

/-- WANT: the want of a MEMBER sender takes the amount, which may be 0 (R13, R16). -/
def Sys2Proof.Claims.WantIsAnnounced : Prop :=
  ∀ (s : State) (turns : Nat) (sender : Stn) (seq : BitVec 8) (v : Svc) (n : BitVec 12),
    Lands s turns ⟨sender, seq, .want v n⟩ →
    Answers (.want sender seq v n turns) s fun t =>
      let e := s.entry sender
      t.ledger.copy = s.ledger.copy.set sender (heardAs seq (if e.isMember then e.setWant v n.toNat else e))

/-- OFFER: a MEMBER sender's offer takes the amount when it is forced or no decrease, and a voluntary decrease only when it
leaves C′ − H at 0 or more (R13, R17, R18). -/
def Obligations.OfferIsJudged : Prop :=
  ∀ (s : State) (turns : Nat) (sender : Stn) (seq : BitVec 8) (v : Svc) (forced : Bool) (n : BitVec 12),
    Lands s turns ⟨sender, seq, .offer v forced n⟩ →
    Answers (.offer sender seq v forced n turns) s fun t =>
      let c := s.ledger.copy
      let e := s.entry sender
      t.ledger.copy = c.set sender (heardAs seq
        (if e.isMember = true ∧ (forced = true ∨ e.offer v ≤ n.toNat ∨
            held c v ≤ capacity (c.set sender (e.setOffer v n.toNat)) v)
          then e.setOffer v n.toNat else e))

/-- KEEP: overwrites a MEMBER entry, and creates an entry in SYNCING and JOINING; a VACANT sender's KEEP changes nothing in the
other states (R13, R19, R20). -/
def Sys2Proof.Claims.KeepOverwrites : Prop :=
  ∀ (s : State) (turns : Nat) (sender : Stn) (seq : BitVec 8) (w : BitVec 6) (p : BitVec 16) (hw st : Account),
    Lands s turns ⟨sender, seq, .keep w p hw st⟩ →
    Answers (.keep sender seq w p hw st turns) s fun t =>
      t.ledger.copy = s.ledger.copy.set sender
        (if (s.entry sender).isMember = true ∨ s.station = .syncing ∨ s.station = .joining
          then ⟨.member, w.toNat, p, seq, ⟨Account.shares hw, Account.shares st⟩⟩ else s.entry sender)

/-- HAIL: the sender's entry becomes MEMBER with every holding, want and offer 0, in every participating state (R13, R21). -/
def Sys2Proof.Claims.HailResetsTheEntry : Prop :=
  ∀ (s : State) (turns : Nat) (sender : Stn) (seq : BitVec 8) (w : BitVec 6) (p : BitVec 16),
    Lands s turns ⟨sender, seq, .hail w p⟩ →
    Answers (.hail sender seq w p turns) s fun t =>
      t.ledger.copy = s.ledger.copy.set sender ⟨.member, w.toNat, p, seq, ⟨⟨⟨0, 0, 0, 0⟩, 0, 0⟩, ⟨⟨0, 0, 0, 0⟩, 0, 0⟩⟩⟩

/-- GIVE lowers a holding of a MEMBER sender, WANT sets its want, KEEP overwrites its entry or creates one in SYNCING and JOINING, and
HAIL resets it; no other entry changes (R13, R15, R16, R19 to R21). -/
def Obligations.GiveWantKeepHailAreApplied : Prop :=
  GiveLowersTheHolding ∧ WantIsAnnounced ∧ KeepOverwrites ∧ HailResetsTheEntry

/-- LAPSE: a MEMBER target whose last sequence is the one carried becomes VACANT with every field 0; otherwise only the
sender's sequence is recorded. A LAPSE of self records none (R13, R22). -/
def Obligations.LapseIsJudgedOnItsTarget : Prop :=
  ∀ (s : State) (turns : Nat) (sender : Stn) (seq : BitVec 8) (target : Stn) (q : BitVec 8),
    Lands s turns ⟨sender, seq, .lapse target q⟩ →
    Answers (.lapse sender seq target q turns) s fun t =>
      ∀ p, t.entry p =
        if p = target ∧ (s.entry target).isMember = true ∧ (s.entry target).lastSeq = q then Entry.blank
        else if p = sender then heardAs seq (s.entry p) else s.entry p

/-- The frame of a landing, of every kind. Another station's: beside the copy only "frames landed" and the SEEN mark change of
what `State.still` holds. An own one: the sequence counter rises, the frame is sent, the failure count is 0, and an own TAKE
that was refused is counted (R39, R42, R50, R82, R195). -/
def Obligations.LandingChangesOnlyTheCopy : Prop :=
  ∀ (s : State) (turns : Nat) (f : Frame), Lands s turns f →
    Answers (landing f turns) s fun t =>
      (f.sender ≠ s.own →
        t.still = { s.still with
          copy := t.ledger.copy, framesLanded := countUp s.fru.counters.framesLanded, mark := .seen }) ∧
      (f.sender = s.own →
        t.liu.failCount = 0 ∧
        t.still = { s.still with
          copy := t.ledger.copy
          framesLanded := countUp s.fru.counters.framesLanded
          seqCounter := s.liu.seqCounter + 1
          tx := none
          takeRefused := match f.body with
            | .take v _ n =>
              if takeAccepted s.ledger.copy s.quorum s.own v n.toNat then s.fru.counters.takeRefused
              else countUp s.fru.counters.takeRefused
            | _ => s.fru.counters.takeRefused })

/-- R6, whole: the station total, the active set, and W, which is 0 when the set is empty. -/
def Obligations.StationTotalAndActiveSet : Prop :=
  ∀ (copy : Copy) (v : Svc),
    (∀ s : Stn, (copy[s]).isMember = true →
      (copy[s]).total v = (copy[s]).holding v .c0 + (copy[s]).holding v .c1 + (copy[s]).holding v .c2 + (copy[s]).holding v .c3) ∧
    (∀ s : Stn, (copy[s]).active v = true ↔ (copy[s]).isMember = true ∧ ((copy[s]).total v ≠ 0 ∨ (copy[s]).want v ≠ 0)) ∧
    activeWeight copy v = ((stations.filter fun s => (copy[s]).active v).map fun s => (copy[s]).weight).sum ∧
    ((∀ s : Stn, (copy[s]).active v = false) → activeWeight copy v = 0)

/-- The fair share counts its station as active: floor(C × w / W), with the weight added to W when the station is not in the
active set. It never exceeds C; over the active set the fair shares never exceed C in all (R7). -/
def Sys2Proof.Claims.FairSharesFitTheCapacity : Prop :=
  ∀ (copy : Copy) (v : Svc),
    (∀ s : Stn, (copy[s]).isMember = true → fairShare copy v s =
      capacity copy v * (copy[s]).weight /
        ((stations.filter fun n => n = s ∨ (copy[n]).active v = true).map fun n => (copy[n]).weight).sum) ∧
    (∀ s : Stn, fairShare copy v s ≤ capacity copy v) ∧
    ((stations.filter fun s => (copy[s]).active v).map (fairShare copy v)).sum ≤ capacity copy v

/-- R29, whole: when a reclaim duty is laid, its amount, and that it is 0 otherwise. -/
def Obligations.ReclaimAmountIsTheExcess : Prop :=
  ∀ (copy : Copy) (v : Svc) (s : Stn), (copy[s]).isMember = true →
    ((∃ p : Stn, p ≠ s ∧ (copy[p]).isMember = true ∧ (copy[p]).want v ≠ 0) → fairShare copy v s < (copy[s]).total v →
      reclaimAmount copy v s = (copy[s]).total v - fairShare copy v s ∧ (copy[s]).active v = true ∧
        fairShare copy v s = capacity copy v * (copy[s]).weight / activeWeight copy v) ∧
    (¬(∃ p : Stn, p ≠ s ∧ (copy[p]).isMember = true ∧ (copy[p]).want v ≠ 0) ∨ ¬fairShare copy v s < (copy[s]).total v →
      reclaimAmount copy v s = 0)

/-- Applying a TAKE or a voluntary OFFER never makes free capacity negative, and never lowers it when it is already negative,
in either service (R14, R18). -/
def Obligations.FreeCapacityStaysFree : Prop :=
  ∀ (recv : Station) (quorum : Nat) (copy : Copy) (f : Frame) (w : Svc),
    ((∃ v k n, f.body = .take v k n) ∨ ∃ v n, f.body = .offer v false n) →
    (0 ≤ free copy w → 0 ≤ free (applyFrame recv quorum copy f) w) ∧
    (free copy w < 0 → free copy w ≤ free (applyFrame recv quorum copy f) w)

/-- The shortage goes to the classes 3, 2, 1 and 0 in that order, each bearing as much as all its members hold; a member's duty
in a class is its part by its holding, rounded up, and 0 where nobody holds (R27). The reclaim amount goes to the classes 3, 2
and 1 in that order, each bearing as much as its holding allows (R30). -/
def Sys2Proof.Claims.DutiesGoByClass : Prop :=
  ∀ (copy : Copy) (v : Svc),
    let all (k : Cls) : Nat := (stations.map fun n => if (copy[n]).isMember then (copy[n]).holding v k else 0).sum
    let short : Nat := (-free copy v).toNat
    let part := shortageParts copy v
    (part.c3 = min short (all .c3) ∧ part.c2 = min (short - part.c3) (all .c2) ∧
      part.c1 = min (short - part.c3 - part.c2) (all .c1) ∧
      part.c0 = min (short - part.c3 - part.c2 - part.c1) (all .c0)) ∧
    (∀ (s : Stn) (k : Cls),
      ((copy[s]).isMember = true → 0 < all k →
        shortageDuty copy v s k = (part.get k * (copy[s]).holding v k + all k - 1) / all k) ∧
      ((copy[s]).isMember = false ∨ all k = 0 → shortageDuty copy v s k = 0)) ∧
    ∀ s : Stn,
      let x := reclaimAmount copy v s
      let d := reclaimDuties copy v s
      d.c3 = min x ((copy[s]).holding v .c3) ∧ d.c2 = min (x - d.c3) ((copy[s]).holding v .c2) ∧
        d.c1 = min (x - d.c3 - d.c2) ((copy[s]).holding v .c1) ∧ d.c0 = 0

/-- The shortage is spread whole over the classes, no station's duty exceeds its holding, the duties of a class cover its part,
and there is none while F is 0 or more (R27, R28). The reclaim duties together are the reclaim amount or all that classes 1
to 3 hold, and class 0 has none (R30). -/
def Sys2Proof.Claims.DutiesCoverAndFit : Prop :=
  ∀ (copy : Copy) (v : Svc),
    (shortageParts copy v).sum = (-free copy v).toNat ∧
    (∀ k, (shortageParts copy v).get k ≤ (stations.map fun s => shortageDuty copy v s k).sum) ∧
    (∀ (s : Stn) (k : Cls), shortageDuty copy v s k ≤ (copy[s]).holding v k) ∧
    (0 ≤ free copy v → ∀ (s : Stn) (k : Cls), shortageDuty copy v s k = 0) ∧
    (∀ s : Stn,
      (reclaimDuties copy v s).sum =
        min (reclaimAmount copy v s) ((copy[s]).holding v .c1 + (copy[s]).holding v .c2 + (copy[s]).holding v .c3) ∧
      (∀ k, (reclaimDuties copy v s).get k ≤ (copy[s]).holding v k) ∧ (reclaimDuties copy v s).c0 = 0)

/-- Fair shares, shortage duties and reclaim duties: their formulas, and how they fit capacity and holdings (R7, R27, R28,
R30). -/
def Obligations.SharesAndDutiesFit : Prop := FairSharesFitTheCapacity ∧ DutiesGoByClass ∧ DutiesCoverAndFit

/-- In MEMBER and ORPHAN a TAKE, GIVE, WANT, OFFER or KEEP of a station whose entry was VACANT makes its sender a lapse
candidate with the frame's sequence, or renews a waiting LAPSE that names it; never the own station, never in SYNCING, JOINING
or HALTED (R25, R26, R49). -/
def Obligations.StrangersAreDisowned : Prop :=
  ∀ (s : State) (turns : Nat) (f : Frame), Lands s turns f →
    exec (landing f turns) s = .next (s.landed f).settle ∧
    ((s.station = .member ∨ s.station = .orphan) → f.sender ≠ s.own → (s.entry f.sender).isMember = false →
        Body.disownable f.body = true →
      ((s.landed f).ledger.candidates.any (fun p => p == (f.sender, f.seq)) ∨
        (s.landed f).liu.queue.lapse.any (fun l => l.target == f.sender && l.targetSeq == f.seq))) ∧
    (s.station.disowns = false ∨ f.sender = s.own ∨ (s.entry f.sender).isMember = true ∨ Body.disownable f.body = false →
      ∀ p ∈ (s.landed f).ledger.candidates, p ∈ s.ledger.candidates ∧ p.1 ≠ f.sender)

/-! ### Membership and contact -/

/-- The end of the syncing window leads to JOINING with a HAIL waiting (R57). -/
def Sys2Proof.Claims.SyncingWindowLeadsToJoining : Prop :=
  ∀ s : State, s.onLine = true → s.station = .syncing → s.memb.syncWindow.isSome = true →
    s.memb.lapseSelfRequested = false → Staying s →
    Answers .syncingWindowExpires s fun t =>
      t.memb = { s.memb with station := .joining, syncWindow := none } ∧
      t.liu.queue.refresh.any WaitingRefresh.isHail = true ∧ t.still = s.still

/-- The own HAIL's landing in JOINING makes the station MEMBER, its own-landing timer at zero, before the contact watch looks
(R21, R54, R58). -/
def Sys2Proof.Claims.OwnHailMakesMember : Prop :=
  ∀ (s : State) (turns : Nat) (seq : BitVec 8) (w : BitVec 6) (p : BitVec 16),
    s.heard turns = true → s.station = .joining → s.isSent ⟨s.own, seq, .hail w p⟩ = true →
    ∃ u, Acts (.hail s.own seq w p turns) s u ∧ u.station = .member ∧ u.memb.ownLanding = some 0 ∧
      u.memb.leaveMark = s.memb.leaveMark ∧ u.ownEntry.isMember = true ∧ u.liu.tx = none

/-- The way from SYNCING by JOINING to MEMBER (R21, R54, R57, R58). -/
def Obligations.JoiningLeadsToMember : Prop := SyncingWindowLeadsToJoining ∧ OwnHailMakesMember

/-- An own landing T_self ago leads out of MEMBER to ORPHAN whatever the station holds: ORPHANED, every grant 0, the copy as
it stands (R64, R67). -/
def Sys2Proof.Claims.OwnSilenceOrphans : Prop :=
  ∀ s : State, s.onLine = true → s.station = .member → s.ownEntry.isMember = true → Staying s →
    Timer.below (s.limit Image.tSelf) s.memb.ownLanding = true →
    Answers .ownLandingTimerTSelf s fun t =>
      t.station = .orphan ∧ t.flagSet .orphaned = true ∧ t.still = s.still ∧
      ∀ ch, (t.outletCfg? ch).isSome = true → (t.outlet ch).grant = 0

/-- An own landing T_keep ago in MEMBER puts a KEEP request under way, unless contact is lost in the event (R60). -/
def Sys2Proof.Claims.RefreshFallsDue : Prop :=
  ∀ s : State, s.onLine = true → s.station = .member → s.ownEntry.isMember = true → Staying s →
    Timer.below (s.limit Image.tKeep) s.memb.ownLanding = true →
    Answers .ownLandingTimerTKeep s fun t =>
      t.still = s.still ∧ (t.station = .orphan ∨ (t.station = .member ∧ t.refreshBusy = true))

/-- A peer's silence of T_self that leaves fewer stations heard than the quorum, while the station holds anything, leads from
MEMBER to ORPHAN (R65; the case of a bound above 0 with nothing held is not said here). SILENCE_TIMER_T_SELF sets its own timer
and no other thing of itself (log 4, the model's choice). -/
def Sys2Proof.Claims.LostQuorumOrphans : Prop :=
  ∀ (s : State) (peer : Stn), s.onLine = true → peer ≠ s.own →
    Timer.below (s.limit Image.tSelf) s.ledger.silence[peer] = true →
    let u := { s with ledger := { s.ledger with silence := s.ledger.silence.set peer (some (s.limit Image.tSelf)) } }
    Acts (.silenceTimerTSelf peer) s u ∧
    (s.station = .member → s.ownEntry.isMember = true → Staying s → u.heardCount < u.quorum →
        (s.ownEntry.total .hw ≠ 0 ∨ s.ownEntry.total .st ≠ 0) →
      Answers (.silenceTimerTSelf peer) s fun t =>
        t.station = .orphan ∧ t.flagSet .orphaned = true ∧ t.still = s.still)

/-- The two timers that may lead out of MEMBER: OWN_LANDING_TIMER_T_SELF and SILENCE_TIMER_T_SELF (R64, R65, R67; log 4; of R65
the case of a bound above 0 with nothing held is not said here). -/
def Obligations.LostContactOrphans : Prop := OwnSilenceOrphans ∧ LostQuorumOrphans

/-- A peer silent for T_exp in MEMBER is a lapse candidate or is named by a LAPSE, unless contact is lost in the event (R62,
R63). -/
def Sys2Proof.Claims.SilentPeerIsToBeLapsed : Prop :=
  ∀ (s : State) (peer : Stn), s.onLine = true → peer ≠ s.own → s.station = .member → s.ownEntry.isMember = true → Staying s →
    (s.entry peer).isMember = true → Timer.below (s.limit Image.tExp) s.ledger.silence[peer] = true →
    Answers (.silenceTimerTExp peer) s fun t =>
      t.still = s.still ∧
      (t.station = .orphan ∨
        (t.station = .member ∧
          (t.lapseNames peer = true ∨ t.ledger.candidates.any (fun p => p.1 == peer) = true)))

/-- What OWN_LANDING_TIMER_T_KEEP and SILENCE_TIMER_T_EXP ask of the line (R60, R62, R63). -/
def Obligations.SilenceIsAnswered : Prop := RefreshFallsDue ∧ SilentPeerIsToBeLapsed

/-- RESTART is answered DONE and taken by the station's state: a full reset waits for the response in START, INERT and a
HALTED that has ended; ORPHAN and a withdrawal under way take the mark; SYNCING, JOINING and MEMBER enter HALTED with it (R70,
R71, R204). This is the command's own act: where the leave ends in the same event the reset follows at once and the DONE is lost
with it (log 13, the model's choice). -/
def Obligations.RestartByState : Prop :=
  ∀ s : State, Free s →
    let a := answered s .done []
    ((s.station = .start ∨ s.station = .inert ∨ s.station = .halted true) →
      Acts .restart s { a with serial := { a.serial with resetWaiting := true } }) ∧
    ((s.station = .orphan ∨ s.station = .halted false) →
      Acts .restart s { a with memb := { a.memb with leaveMark := .restart } }) ∧
    ((s.station = .syncing ∨ s.station = .joining ∨ s.station = .member) →
      let u := (a.setLeave .restart).enterHalted
      Acts .restart s u ∧ u.station = .halted false ∧ u.memb.leaveMark = .restart ∧ u.still = a.still ∧
        u.liu.queue.take = Per2.both none ∧ u.liu.queue.want = Per2.both none ∧ u.liu.queue.refresh = none ∧
        u.liu.queue.give = s.liu.queue.give ∧ u.liu.queue.offer = s.liu.queue.offer ∧
        u.liu.queue.lapse = s.liu.queue.lapse ∧ u.ledger.candidates = [])

/-! ### Holdings, grants, cuts and strokes -/

/-- SPARE_TIMER_EXPIRES makes the class releasing and RECLAIM_TIMER_EXPIRES sets RECLAIM-LATE (R86, R94). Each sets its own
timer at its limit and moves no other (log 4); that the spare timer then holds there is log 21. -/
def Sys2Proof.Claims.HoldingTimersExpire : Prop :=
  ∀ (s : State) (v : Svc) (k : Cls), s.acts = true →
    (Timer.below (s.giveHold v) (s.classHold v k).spareTimer = true →
      Acts (.spareTimerExpires v k) s
        (s.modClass v k fun c => { c with spareTimer := some (s.giveHold v), releasing := true })) ∧
    (Timer.below (s.limit Image.tReclaim) (s.hold.get v).reclaimTimer = true →
      Acts (.reclaimTimerExpires v) s
          ((s.modHold v fun h => { h with reclaimTimer := some (s.limit Image.tReclaim) }).setFlag .reclaimLate) ∧
        (Staying s → Answers (.reclaimTimerExpires v) s fun t =>
          t.flagSet .reclaimLate = true ∧
          t.still = { s.still with otherFlags := s.still.otherFlags ||| Flag.bit .reclaimLate }))

/-- On the values an event leaves (R76): the spare timer of a class runs on, or starts from zero, while the holding exceeds the
target by the give threshold, and its releasing mark stays as the event itself left it; otherwise the timer is stopped and the
mark clear (R86). A station outside SYNCING, JOINING, MEMBER and ORPHAN has neither. The event leaves the station in its state, or
leads from MEMBER to ORPHAN. -/
def Sys2Proof.Claims.SparesAreJudged : Prop :=
  ∀ (s : State) (v : Svc) (k : Cls),
    let t := s.settle
    t.live = true → (t.station = s.station ∨ (s.station = .member ∧ t.station = .orphan)) →
    if t.station.holdsSpares = true ∧ t.target v k + t.svcSetting v ServiceCfg.giveThreshold ≤ t.ownHolding v k then
      (t.classHold v k).spareTimer = some ((s.classHold v k).spareTimer.getD 0) ∧
        (t.classHold v k).releasing = (s.classHold v k).releasing
    else (t.classHold v k).spareTimer = none ∧ (t.classHold v k).releasing = false

/-- BLOCK_TIMER_EXPIRES moves the blocker to the tail of its queue and counts the deferral, of the outlet and of the station; a
pass over that queue is due, by the model's own field `passDue` (R124, R129; log 11). -/
def Sys2Proof.Claims.BlockedRunIsDeferred : Prop :=
  ∀ (s : State) (v : Svc) (k : Cls) (ch : Chan), s.acts = true → (s.queue v k).blocker = some ch →
    (s.queue v k).blockTimer.isSome = true →
    (∃ u, Acts (.blockTimerExpires v k) s u ∧
      u.queue v k = ⟨(s.queue v k).members.filter (fun c => c != ch) ++ [ch], none, none⟩ ∧
      u.app.passDue.get v k = true ∧ (u.outlet ch).grant = (s.outlet ch).grant) ∧
    (Staying s → Answers (.blockTimerExpires v k) s fun t =>
      t.still = { s.still with
        deferrals := countUp s.fru.counters.deferrals
        outlets := s.still.outlets.set ch
          { (s.outlet ch).still with deferrals := countUp (s.outlet ch).deferrals } })

/-- SPARE_TIMER_EXPIRES, RECLAIM_TIMER_EXPIRES and BLOCK_TIMER_EXPIRES at their limits, and the spare timers and releasing marks
by the spares that an event leaves (R76, R86, R94, R124, R129; logs 4, 11, 21). -/
def Obligations.ShareTimersExpire : Prop := HoldingTimersExpire ∧ SparesAreJudged ∧ BlockedRunIsDeferred

/-- A service pass never takes the grants of its class past the keep amount, nor its bounds past the holding less the GIVEs
under way (R125 to R128). -/
def Sys2Proof.Claims.PassKeepsTheRooms : Prop :=
  ∀ (s : State) (v : Svc) (k : Cls), 0 ≤ s.keepRoom v k → 0 ≤ s.holdingRoom v k →
    0 ≤ (s.servicePass v k).keepRoom v k ∧ 0 ≤ (s.servicePass v k).holdingRoom v k

/-- A service pass lowers no grant whose outlet wants at least what it has, and touches no outlet outside the queue (R128). -/
def Sys2Proof.Claims.PassOnlyRaises : Prop :=
  ∀ (s : State) (v : Svc) (k : Cls),
    (∀ ch, (s.outlet ch).grant ≤ (s.outlet ch).desired →
      (s.outlet ch).grant ≤ ((s.servicePass v k).outlet ch).grant ∧
      ((s.servicePass v k).outlet ch).grant ≤ (s.outlet ch).desired) ∧
    (∀ ch, ch ∉ (s.queue v k).members → (s.servicePass v k).outlet ch = s.outlet ch)

/-- A service pass takes its members one after another, each on the rooms the one before it left. A partly raised member goes
to min(d, g + r^K, p + r^H) when that is above its grant, a MODULATING one from 0 only to its min draw at least; a whole request
goes to its desired draw when both rooms allow it, a run then RUNNING, and otherwise stays; with a room below 0 nothing is
raised. A batch request that does not fit stops a ROTATING pass and is its blocker (R125 to R129). -/
def Sys2Proof.Claims.PassTakesEachMember : Prop :=
  (∀ (s : State) (v : Svc) (k : Cls),
    let r := (s.queue v k).members.foldl (passMember v k) (s, none)
    (s.servicePass v k).outlets = r.1.outlets ∧ ((s.servicePass v k).queue v k).blocker = r.2) ∧
  (∀ (v : Svc) (k : Cls) (s : State) (b ch : Chan), passMember v k (s, some b) ch = (s, some b)) ∧
  ∀ (s : State) (v : Svc) (k : Cls) (ch : Chan) (c : OutletCfg), s.outletCfg? ch = some c →
    let o := s.outlet ch
    let rk := s.keepRoom v k
    let rh := s.holdingRoom v k
    let best : Int := min (o.desired : Int) (min (o.grant + rk) (o.peak + rh))
    let after := passMember v k (s, none) ch
    let o' := after.1.outlet ch
    let whole := (c.batch?.isSome = true ∧ (o.state = .waiting ∨ o.state = .suspended)) ∨
      (c.modulating?.isSome = true ∧ o.state = .standby ∧ o.pulsePhase = .requested)
    let fits := (o.desired : Int) ≤ rk ∧ max 0 ((o.desired : Int) - o.peak) ≤ rh
    ((∀ w m, c.kind = .modulating w m → o.state = .active → 0 ≤ rk → 0 ≤ rh →
      (o'.grant : Int) = if o.grant < best ∧ (o.grant = 0 → m.minDraw ≤ best) then best else o.grant) ∧
    (∀ r, c.kind = .monitor r → 0 ≤ rk → 0 ≤ rh →
      (o'.grant : Int) = if o.grant < best then best else o.grant)) ∧
    (whole → o.grant = 0 →
      (fits → o'.grant = o.desired ∧ (c.batch?.isSome = true → o'.state = .running)) ∧
      (¬fits → o' = o ∧
        after.2 = if c.batch?.isSome = true ∧ s.rotating = true then some ch else none)) ∧
    (rk < 0 ∨ rh < 0 → o.grant = 0 ∨ ¬whole → o' = o) ∧
    ∀ p, p ≠ ch → after.1.outlet p = s.outlet p

/-- What a service pass does (R125 to R129). -/
def Obligations.PassRaisesWithinTheRooms : Prop := PassKeepsTheRooms ∧ PassOnlyRaises ∧ PassTakesEachMember

/-- A keep cut raises no grant, lowers none while the class is within its keep, and as a duty cut lowers no guarded outlet's
(R146 to R150). -/
def Sys2Proof.Claims.CutLowersWhatItMay : Prop :=
  ∀ (s : State) (v : Svc) (k : Cls) (ch : Chan),
    ((s.keepCut v k).outlet ch).grant ≤ (s.outlet ch).grant ∧
    ((s.classHold v k).dutyMark = true → s.guarded ch = true →
      ((s.keepCut v k).outlet ch).grant = (s.outlet ch).grant) ∧
    (s.sumGrants v k ≤ (s.classHold v k).keep → ((s.keepCut v k).outlet ch).grant = (s.outlet ch).grant)

/-- A keep cut ends with the class within its keep, or with no eligible grant left that one of its steps lowers: no pulse in
OPENING or HELD, no ACTIVE modulating outlet or MONITOR in the reverse order, and no RUNNING run in the start order (R146 to
R150). An outlet is eligible when its grant is above 0 and, in a duty cut, it is not guarded (R147). -/
def Sys2Proof.Claims.CutReachesTheKeep : Prop :=
  ∀ (s : State) (v : Svc) (k : Cls),
    CutIsMade (s.classHold v k).keep (s.classHold v k).dutyMark s.guarded (s.keepCut v k) v k

/-- What a keep cut does (R146 to R150). -/
def Obligations.CutSparesTheGuarded : Prop := CutLowersWhatItMay ∧ CutReachesTheKeep

/-- A changed grant on a valve starts a stroke: peak, draw command, stroke timer, drift timer and the deasserted mark; with
in-position asserted at an unchanged command whose mark stands it settles in the same event (R132 to R135, R139). A MONITOR
settles at once at its grant (R113). No other outlet changes. -/
def Obligations.GrantChangeStartsAStroke : Prop :=
  ∀ (s : State) (ch : Chan) (c : OutletCfg) (g : Nat), s.outletCfg? ch = some c → (s.outlet ch).grant ≠ g →
    let o := s.outlet ch
    let o' := (s.setGrant ch g).outlet ch
    o'.grant = g ∧ (∀ p, p ≠ ch → (s.setGrant ch g).outlet p = s.outlet p) ∧
    (∀ w, c.valve? = some w → 1 ≤ w.ratedDraw →
      let command := (100 * g + w.ratedDraw - 1) / w.ratedDraw
      let seen := if command = o.command then o.seenDeasserted else !s.pins.inPosition[ch]
      o'.command = command ∧ o'.drift = none ∧
      ((w.feedback && seen && s.pins.inPosition[ch]) = false →
        o' = { o with
          grant := g, peak := max o.peak g, command := command, moving := true, stroke := some 0, drift := none
          seenDeasserted := seen }) ∧
      ((w.feedback && seen && s.pins.inPosition[ch]) = true → o'.moving = false ∧ o'.peak = g)) ∧
    (c.valve? = none → o' = { o with grant := g, peak := g })

/-- When a valve settles it is SETTLED, its stroke timer stopped, its overrun mark clear and its bound the grant; a pulse in
OPENING at its draw becomes HELD and one in CLOSING at 0 ends; no other outlet changes (R109, R110, R132, R137). -/
def Obligations.SettlingSetsTheBound : Prop :=
  ∀ (s : State) (ch : Chan) (c : OutletCfg), s.outletCfg? ch = some c →
    let o := s.outlet ch
    let o' := (s.settleValve ch).outlet ch
    o'.moving = false ∧ o'.stroke = none ∧ o'.overrun = false ∧ o'.peak = o.grant ∧ o'.grant = o.grant ∧
    (∀ m, c.modulating? = some m →
      o'.state = o.state ∧
      (o.pulsePhase = .opening → o.grant = m.pulseDraw → o'.pulsePhase = .held ∧ o'.pulseLength = some 0) ∧
      (o.pulsePhase = .closing → o.grant = 0 → o'.pulsePhase = .none)) ∧
    (∀ b, c.batch? = some b → o.state = .idle → o.endOfRun = true →
      o'.endOfRun = false ∧
      (o.disablePending = true → o'.state = .off) ∧
      (o.disablePending = false → o.repeatFlag = true → o'.state = .waiting ∧ o'.runRemaining = 2 * b.runLength) ∧
      (o.disablePending = false → o.repeatFlag = false → o'.state = .idle)) ∧
    ∀ p, p ≠ ch → (s.settleValve ch).outlet p = s.outlet p

/-! ### The guard -/

/-- R154, whole: the range of a count and a side, the complement, the two extremes, and the flag set unused. -/
def Obligations.GuardRange : Prop :=
  ∀ (g : Guard) (ch : Chan), g.mode = .range → g.count ≤ 16 →
    (g.side = .top → g.complement = false →
      (Guard.covers g ch = true ↔ 17 - g.count ≤ ch.val + 1 ∧ ch.val + 1 ≤ 16)) ∧
    (g.side = .bottom → g.complement = false → (Guard.covers g ch = true ↔ 1 ≤ ch.val + 1 ∧ ch.val + 1 ≤ g.count)) ∧
    (g.complement = true → Guard.covers g ch = !Guard.covers { g with complement := false } ch) ∧
    (g.count = 0 → Guard.covers g ch = g.complement) ∧
    (g.count = 16 → Guard.covers g ch = !g.complement) ∧
    (∀ flags, Guard.covers { g with flags := flags } ch = Guard.covers g ch) ∧
    (∀ s : State, s.app.guard = g → s.guarded ch = ((s.outletCfg? ch).isSome && Guard.covers g ch))

/-- R155, whole: the channel's flag decides, and the count, the side and the complement are not used. -/
def Obligations.GuardEach : Prop :=
  ∀ (g : Guard) (ch : Chan), g.mode = .each →
    (Guard.covers g ch = true ↔ g.flags.getLsbD ch.val = true) ∧
    (∀ count side complement,
      Guard.covers { g with count := count, side := side, complement := complement } ch = Guard.covers g ch) ∧
    (∀ s : State, s.app.guard = g → s.guarded ch = ((s.outletCfg? ch).isSome && Guard.covers g ch))

/-! ### Outlets -/

/-- DEMAND_INPUT_CHANGE: the level the input presents, or 0 and the out-of-range mark out of span; a mark newly set on an outlet
in use is a DEMAND-RANGE fault (R101, R142, R189, R207). Nothing else changes but by reaction. -/
def Obligations.DemandSetsTheLevel : Prop :=
  ∀ (s : State) (ch : Chan) (mv : Nat) (c : OutletCfg), Takes s ch c → c.modulating?.isSome = true →
    let o := s.outlet ch
    let outOfSpan := decide (mv < 400 ∨ 2600 < mv)
    let level := if mv < 400 ∨ 2600 < mv ∨ mv ≤ 500 then 0 else if 2500 ≤ mv then 100 else (mv - 500) / 20
    let taken := { s.still with
      pins := { s.pins with demand := s.pins.demand.set ch mv }
      outlets := s.still.outlets.set ch { o.still with level := level, outOfRange := outOfSpan } }
    Answers (.demandInputChange ch mv) s fun t =>
      t.still =
        if outOfSpan = true ∧ o.outOfRange = false ∧ o.state ≠ .off then reported s .demandRange ch taken else taken

/-- IDLE_TIMER_EXPIRES takes the outlet to STANDBY and starts its pulse timer (R103, R107). -/
def Sys2Proof.Claims.IdleTimerLeadsToStandby : Prop :=
  ∀ (s : State) (ch : Chan) (c : OutletCfg) (n : Nat), Takes s ch c → c.modulating?.isSome = true →
    (s.outlet ch).state = .idle → (s.outlet ch).idleTimer = .running n →
    Acts (.idleTimerExpires ch) s (s.modOutlet ch fun o =>
      { o with state := .standby, idleTimer := .stopped, pulsePhase := .none, pulseTimer := some 0, pulseLength := none })

/-- The pulse timers: an expiry in MEMBER requests a pulse where a pulse draw is set, a pulse still requested is missed and
counted, and a pulse under way goes on; a pulse held to its length closes (R107, R108, R110, R111). -/
def Sys2Proof.Claims.PulseTimersExpire : Prop :=
  ∀ (s : State) (ch : Chan) (c : OutletCfg) (m : ModulatingCfg), Takes s ch c → c.modulating? = some m →
    ((s.outlet ch).state = .standby → (s.outlet ch).pulseTimer.isSome = true →
      ((s.outlet ch).pulsePhase = .none → 0 < m.pulseDraw → s.station = .member →
        Acts (.pulseTimerExpires ch) s (s.modOutlet ch fun o => { o with pulseTimer := some 0, pulsePhase := .requested })) ∧
      ((s.outlet ch).pulsePhase = .none → m.pulseDraw = 0 ∨ s.station ≠ .member →
        Acts (.pulseTimerExpires ch) s (s.modOutlet ch fun o => { o with pulseTimer := some 0 })) ∧
      ((s.outlet ch).pulsePhase = .requested →
        Acts (.pulseTimerExpires ch) s
          (s.modOutlet ch fun o => { o with pulseTimer := some 0, pulsePhase := .none }).countPulseMissed) ∧
      ((s.outlet ch).pulsePhase = .opening ∨ (s.outlet ch).pulsePhase = .held ∨ (s.outlet ch).pulsePhase = .closing →
        Acts (.pulseTimerExpires ch) s (s.modOutlet ch fun o => { o with pulseTimer := some 0 }))) ∧
    ((s.outlet ch).pulsePhase = .held → (s.outlet ch).pulseLength.isSome = true →
      Acts (.pulseLengthTimerExpires ch) s
        (s.modOutlet ch fun o => { o with pulsePhase := .closing, pulseLength := none }))

/-- IDLE_TIMER_EXPIRES, PULSE_TIMER_EXPIRES and PULSE_LENGTH_TIMER_EXPIRES (R103, R107, R108, R110, R111). -/
def Obligations.IdleAndPulseTimersExpire : Prop := IdleTimerLeadsToStandby ∧ PulseTimersExpire

/-- The in-position input of an outlet with feedback: a rise settles a MOVING valve seen deasserted, and stops the drift timer
of a SETTLED one; a fall sets the deasserted mark and starts the drift timer of a SETTLED one (R135, R139). -/
def Obligations.InPositionSettles : Prop :=
  ∀ (s : State) (ch : Chan) (c : OutletCfg), Takes s ch c → c.feedback = true →
    let o := s.outlet ch
    let at' (level : Bool) : State := { s with pins := { s.pins with inPosition := s.pins.inPosition.set ch level } }
    (s.pins.inPosition[ch] = false →
      (o.moving = true → o.seenDeasserted = true → Acts (.inPositionRises ch) s ((at' true).settleValve ch)) ∧
      (o.moving = true → o.seenDeasserted = false → Acts (.inPositionRises ch) s (at' true)) ∧
      (o.moving = false → Acts (.inPositionRises ch) s ((at' true).modOutlet ch fun o => { o with drift := none }))) ∧
    (s.pins.inPosition[ch] = true →
      (o.moving = true →
        Acts (.inPositionFalls ch) s ((at' false).modOutlet ch fun o => { o with seenDeasserted := true })) ∧
      (o.moving = false →
        Acts (.inPositionFalls ch) s
          ((at' false).modOutlet ch fun o => { o with seenDeasserted := true, drift := some 0 })))

/-- A stroke timer settles a valve without feedback (R136); with feedback one and a half stroke times report STROKE-OVERRUN
once, and a drift of a stroke time reports DRIFT (R138, R139, R189). -/
def Obligations.StrokeTimersExpire : Prop :=
  ∀ (s : State) (ch : Chan) (c : OutletCfg) (w : ValveCfg), Takes s ch c → c.valve? = some w →
    let o := s.outlet ch
    (w.feedback = false → o.moving = true → Acts (.strokeTimerExpires ch) s (s.settleValve ch)) ∧
    (w.feedback = true → o.moving = true → Timer.below (2 * w.strokeTime + w.strokeTime) o.stroke = true →
      Answers (.strokeOverrun ch) s fun t =>
        t.still = if o.overrun then s.still else reported s .strokeOverrun ch s.still) ∧
    (w.feedback = true → o.moving = false → Timer.below (2 * w.strokeTime) o.drift = true →
      Answers (.drift ch) s fun t => t.still = reported s .drift ch s.still)

/-- METER_PULSE counts one pulse of its channel, held at 65535, and changes nothing else (R140). -/
def Sys2Proof.Claims.MeterPulseCounts : Prop :=
  ∀ (s : State) (ch : Chan) (c : OutletCfg), Takes s ch c → s.meterWindow.isSome = true →
    exec (.meterPulse ch) s =
      .next (s.modOutlet ch fun o => { o with pulses := min (o.pulses + 1) 65535 })

/-- METER_WINDOW_ENDS: every outlet's metered draw is its pulses by its weight, its excess count follows its overdraw limit, and
a count that reaches the persistence is an OVERDRAW fault; the next window begins (R140, R141, R189). -/
def Sys2Proof.Claims.MeterWindowIsJudged : Prop :=
  ∀ s : State, s.acts = true → s.meterWindow.isSome = true → Staying s →
    Answers .meterWindowEnds s fun t =>
      t.meterWindow = some 0 ∧ t.ledger.copy = s.ledger.copy ∧ t.pins = s.pins ∧
      ∀ (ch : Chan) (c : OutletCfg), s.outletCfg? ch = some c →
        let o := s.outlet ch
        let metered := o.pulses * c.pulseWeight
        let excess :=
          if o.wasOff = false ∧ o.largestBound * (100 + c.tolerance) / 100 + 1 < metered then min (o.excess + 1) c.persistence
          else 0
        (t.outlet ch).metered = metered ∧ (t.outlet ch).pulses = 0 ∧ (t.outlet ch).excess = excess ∧
        (excess = c.persistence → o.excess < c.persistence →
          t.flagSet .outletFault = true ∧ (t.outlet ch).lastFault = some .overdraw)

/-- The own-flow test at the end of a window: where own flow is selected and the outlet was shut throughout the window, a metered
draw above 1 hu restarts the idle timer of an IDLE outlet, which a group peer may hold, and takes one in STANDBY to IDLE, its
pulse given up (R104 to R106). -/
def Sys2Proof.Claims.OwnFlowIsActivity : Prop :=
  ∀ (s : State) (ch : Chan) (c : OutletCfg) (m : ModulatingCfg), Takes s ch c → s.meterWindow.isSome = true →
    c.modulating? = some m → m.ownFlow = true → s.fru.responses.overdraw ≠ .isolate →
    let o := s.outlet ch
    o.shut = true → 1 < o.pulses * c.pulseWeight → o.level = 0 → (o.state = .idle ∨ o.state = .standby) →
    (o.idleTimer = .held → m.groupSource = true) →
    Answers .meterWindowEnds s fun t =>
      let o' := t.outlet ch
      o'.state = .idle ∧ (o'.idleTimer = .running 0 ∨ (m.groupSource = true ∧ o'.idleTimer = .held)) ∧
      (o.state = .standby → o'.pulsePhase = .none ∧ o'.pulseTimer = none ∧ o'.pulseLength = none)

/-- METER_PULSE and METER_WINDOW_ENDS (R104 to R106, R140, R141, R189). -/
def Obligations.MeterCountsAndJudges : Prop := MeterPulseCounts ∧ MeterWindowIsJudged ∧ OwnFlowIsActivity

/-- A STROKE-OVERRUN and an OVERDRAW that come due in one half-second are both flagged, counted and recorded, whichever is taken
first and whatever its response: on one outlet the last-fault field holds the second, and the first puts the outlet in FAULT where
its response is ISOLATE; a WITHDRAW among the two brings the station to HALTED, or marks the orphan leave (R70, R190; that both are
reported when the first calls the second off is log 37, and that the order is free log 3). -/
def Obligations.FaultsTogetherAreReported : Prop :=
  ∀ (s : State) (a b : Chan), s.pending = [] → s.acts = true → Staying s →
    s.dueEvents = [.meterWindowEnds, .strokeOverrun b] →
    (s.outlet b).moving = true → (s.outlet b).overrun = false →
    s.overdrawDue a = true → (∀ ch, ch ≠ a → s.overdrawDue ch = false) →
    ∃ t, step s = .next t ∧
      t.flagSet .outletFault = true ∧
      t.fru.counters.outletFaults = countUp (countUp s.fru.counters.outletFaults) ∧
      (a ≠ b → (t.outlet a).lastFault = some .overdraw ∧ (t.outlet b).lastFault = some .strokeOverrun) ∧
      (a = b → ∃ first second : FaultKind,
        ((first = .overdraw ∧ second = .strokeOverrun) ∨ (first = .strokeOverrun ∧ second = .overdraw)) ∧
        (t.outlet a).lastFault = some second ∧
        (s.fru.responses.get first = .isolate → (s.outlet a).state.isolable = true →
          (t.outlet a).state = .fault ∧ (t.outlet a).faultKind = some first)) ∧
      (s.fru.responses.overdraw = .withdraw ∨ s.fru.responses.strokeOverrun = .withdraw →
        (∃ ended, t.station = .halted ended) ∨ (t.station = .orphan ∧ t.memb.leaveMark ≠ .none))

/-- CALL_INPUT_RISES begins a run of an idle BATCH outlet, and asks for a repeat of one that waits, runs or is suspended or has
its end of run before it; an outlet in OFF or FAULT takes no call (R161, R162). -/
def Sys2Proof.Claims.CallBeginsARun : Prop :=
  ∀ (s : State) (ch : Chan) (c : OutletCfg) (b : BatchCfg), Takes s ch c → c.batch? = some b → s.pins.call[ch] = false →
    let o := s.outlet ch
    let pinned : State := { s with pins := { s.pins with call := s.pins.call.set ch true } }
    (o.state = .idle → o.endOfRun = false → Acts (.callInputRises ch) s (pinned.modOutlet ch fun o =>
      { o with state := .waiting, runRemaining := 2 * b.runLength, suspension := none, repeatFlag := false })) ∧
    ((o.state = .idle ∧ o.endOfRun = true) ∨ o.state = .waiting ∨ o.state = .running ∨ o.state = .suspended →
      Acts (.callInputRises ch) s (pinned.modOutlet ch fun o => { o with repeatFlag := true })) ∧
    (o.state = .off ∨ o.state = .fault → Acts (.callInputRises ch) s pinned)

/-- CALL_INPUT_FALLS, in every state and for every channel, does nothing but at the pin (R161). -/
def Sys2Proof.Claims.FallingCallDoesNothing : Prop :=
  ∀ (s : State) (ch : Chan),
    exec (.callInputFalls ch) s = .next { s with pins := { s.pins with call := s.pins.call.set ch false } }

/-- RUN_REMAINING_ZERO ends a run that counts down: IDLE, nothing left to run, the end-of-run mark set, out of the start order
(R149, R169). -/
def Sys2Proof.Claims.RunEndsAtZero : Prop :=
  ∀ (s : State) (ch : Chan) (c : OutletCfg), Takes s ch c → c.batch?.isSome = true → (s.outlet ch).state = .running →
    (s.outlet ch).moving = false →
    Acts (.runRemainingZero ch) s ((s.modOutlet ch fun o =>
      { o with state := .idle, runRemaining := 0, endOfRun := true }).modStartOrder c.svc c.cls fun l =>
        l.filter fun p => p != ch)

/-- RUN_SPOILT counts one spoilt run and discards it: IDLE with desired draw 0, nothing left to run, the suspension timer
stopped, out of its wait queue and the start order; with the repeat flag set a new run begins and the flag is cleared. The other
outlets follow, and then the response to RUN-SPOILT acts on the outlet as this leaves it (R162, R168). -/
def Sys2Proof.Claims.SpoiltRunIsDiscarded : Prop :=
  ∀ (s : State) (ch : Chan) (c : OutletCfg) (b : BatchCfg), Takes s ch c → c.batch? = some b →
    (s.outlet ch).state = .suspended → (s.outlet ch).suspension.isSome = true →
    let counted : State := { s with fru := { s.fru with
      counters := { s.fru.counters with runsSpoilt := countUp s.fru.counters.runsSpoilt } } }
    let out := (counted.leaveQueue ch).modStartOrder c.svc c.cls fun l => l.filter fun p => p != ch
    let u := out.modOutlet ch fun o =>
      if o.repeatFlag then
        { o with state := .waiting, desired := 0, runRemaining := 2 * b.runLength, suspension := none, repeatFlag := false }
      else { o with state := .idle, desired := 0, runRemaining := 0, suspension := none }
    ch ∉ (u.queue c.svc c.cls).members ∧ (u.queue c.svc c.cls).blocker ≠ some ch ∧
    Acts (.runSpoilt ch) s (u.outletPhase.reportFault .runSpoilt ch)

/-- RUN_SPOILT reports RUN-SPOILT: counter, flag, last-fault field; the counters of the frames and the copy stand (R168, R189,
R195). -/
def Sys2Proof.Claims.SpoiltRunIsReported : Prop :=
  ∀ (s : State) (ch : Chan) (c : OutletCfg), Takes s ch c → c.batch?.isSome = true → (s.outlet ch).state = .suspended →
    (s.outlet ch).suspension.isSome = true →
    Answers (.runSpoilt ch) s fun t =>
      t.fru.counters.runsSpoilt = countUp s.fru.counters.runsSpoilt ∧
      t.fru.counters.outletFaults = countUp s.fru.counters.outletFaults ∧
      t.flagSet .outletFault = true ∧ (t.outlet ch).lastFault = some .runSpoilt ∧
      t.ledger.copy = s.ledger.copy ∧ t.fru.counters.framesLanded = s.fru.counters.framesLanded ∧
      ∀ p, p ≠ ch → (t.outlet p).still = (s.outlet p).still

/-- CALL_INPUT_RISES, CALL_INPUT_FALLS, RUN_REMAINING_ZERO and RUN_SPOILT (R161, R162, R168, R169). -/
def Obligations.RunsBeginAndEnd : Prop :=
  CallBeginsARun ∧ FallingCallDoesNothing ∧ RunEndsAtZero ∧ SpoiltRunIsDiscarded ∧ SpoiltRunIsReported

/-! ### Stages -/

/-- The ready and trip inputs of a stage: CALLED to READY; READY to LOCKOUT or, tripped, TRIPPED, with STAGE-FAULT; CALLED to
LOCKOUT on a trip; TRIPPED to LOCKOUT when the trip clears (R176 to R178, R192). -/
def Obligations.StageInputsMoveTheStage : Prop :=
  ∀ (s : State) (ch : Chan) (c : StageCfg), StageTakes s ch c →
    let g := s.stage ch
    (s.pins.ready[ch] = false → g.state = .called → Answers (.stageReadyRises ch) s fun t =>
      (t.stage ch).state = .ready ∧ (t.stage ch).warmUp = none ∧
      t.still = { s.still with pins := { s.pins with ready := s.pins.ready.set ch true } }) ∧
    (s.pins.ready[ch] = true → g.state = .ready → Answers (.stageReadyFalls ch) s fun t =>
      (if s.pins.trip[ch] then (t.stage ch).state = .tripped
        else (t.stage ch).state = .lockout ∧ (t.stage ch).lockout = some 0) ∧
      (t.stage ch).leaving = false ∧ t.flagSet .stageFault = true ∧
      ((t.supply.get c.svc).forced = true ∨ t.station = .syncing)) ∧
    (s.pins.trip[ch] = false → Answers (.tripInputAsserts ch) s fun t =>
      t.pins = { s.pins with trip := s.pins.trip.set ch true } ∧
      (g.state = .called →
        (t.stage ch).state = .lockout ∧ (t.stage ch).lockout = some 0 ∧ (t.stage ch).warmUp = none ∧
          t.flagSet .stageFault = true) ∧
      (g.state = .ready →
        (t.stage ch).state = .tripped ∧ (t.stage ch).leaving = false ∧ t.flagSet .stageFault = true ∧
          ((t.supply.get c.svc).forced = true ∨ t.station = .syncing)) ∧
      (g.state = .down ∨ g.state = .tripped ∨ g.state = .lockout → (t.stage ch).state = g.state)) ∧
    (s.pins.trip[ch] = true →
      (g.state = .tripped → Answers (.tripInputClears ch) s fun t =>
        (t.stage ch).state = .lockout ∧ (t.stage ch).lockout = some 0) ∧
      (g.state = .lockout → g.lockout.isSome = true → Answers (.tripInputClears ch) s fun t =>
        (t.stage ch).state = .lockout ∧ (t.stage ch).lockout = g.lockout) ∧
      (g.state = .lockout → g.lockout = none → Acts (.tripInputClears ch) s
        (State.modStage ch (fun g => { g with state := .down })
          { s with pins := { s.pins with trip := s.pins.trip.set ch false } })))

/-- The timers of the stages: a warm-up that runs out leads to LOCKOUT with STAGE-FAULT; a lockout over leads to DOWN, or waits
for the trip to clear; a call delay over calls a stage; a drop hold over sets the candidate's leaving mark (R176, R178, R182,
R184). That the call timer's expiry sets it at the delay is log 4, and the candidate the drop hold runs for is the model's own
field `dropCandidate` of log 26. -/
def Obligations.StageTimersExpire : Prop :=
  (∀ (s : State) (ch : Chan) (c : StageCfg), StageTakes s ch c →
    ((s.stage ch).state = .called → (s.stage ch).warmUp.isSome = true → Answers (.warmUpTimerExpires ch) s fun t =>
      (t.stage ch).state = .lockout ∧ (t.stage ch).lockout = some 0 ∧ (t.stage ch).warmUp = none ∧
      t.flagSet .stageFault = true) ∧
    ((s.stage ch).state = .lockout → (s.stage ch).lockout.isSome = true →
      (s.pins.trip[ch] = true → Answers (.lockoutTimerExpires ch) s fun t =>
        (t.stage ch).state = .lockout ∧ (t.stage ch).lockout = none) ∧
      (s.pins.trip[ch] = false → Acts (.lockoutTimerExpires ch) s
        (s.modStage ch fun g => { g with state := .down, lockout := none })))) ∧
  (∀ (s : State) (v : Svc), s.acts = true → s.station = .member →
    (Timer.below (s.callDelay v) (s.supply.get v).callTimer = true →
      Acts (.callTimerExpires v) s (s.modSupply v fun p => { p with callTimer := some (s.callDelay v) })) ∧
    (∀ ch, s.callCondition v = true → Timer.atLeast (s.callDelay v) (s.supply.get v).callTimer = true →
        s.callCandidate v = some ch →
      ((callStep v s).stage ch).state = (if s.pins.ready[ch] then .ready else .called) ∧
        ((callStep v s).supply.get v).callTimer = none) ∧
    (∀ ch, (s.supply.get v).dropCandidate = some ch → (s.supply.get v).dropTimer.isSome = true →
      Acts (.dropHoldTimerExpires v) s
        ((s.modStage ch fun g => { g with leaving := true }).modSupply v fun p =>
          { p with dropTimer := none, dropCandidate := none })))

/-- In START and INERT, and while the RESET pin is asserted, an input moves its pin and nothing else; the LOCK input never does
more (R99, R157, R175, R186, R198, R202; the pin levels, logs 5 and 14). -/
def Obligations.InputsMoveTheirPins : Prop :=
  (∀ (s : State) (ch : Chan) (mv : Nat), s.acts = false →
    exec (.demandInputChange ch mv) s = .next { s with pins := { s.pins with demand := s.pins.demand.set ch mv } } ∧
    exec (.callInputRises ch) s = .next { s with pins := { s.pins with call := s.pins.call.set ch true } } ∧
    exec (.inPositionRises ch) s = .next { s with pins := { s.pins with inPosition := s.pins.inPosition.set ch true } } ∧
    exec (.inPositionFalls ch) s = .next { s with pins := { s.pins with inPosition := s.pins.inPosition.set ch false } } ∧
    exec (.stageReadyRises ch) s = .next { s with pins := { s.pins with ready := s.pins.ready.set ch true } } ∧
    exec (.stageReadyFalls ch) s = .next { s with pins := { s.pins with ready := s.pins.ready.set ch false } } ∧
    exec (.tripInputAsserts ch) s = .next { s with pins := { s.pins with trip := s.pins.trip.set ch true } } ∧
    exec (.tripInputClears ch) s = .next { s with pins := { s.pins with trip := s.pins.trip.set ch false } }) ∧
  ∀ (s : State) (level : Bool), exec (.lockInputChanges level) s = .next { s with pins := { s.pins with lock := level } }

/-! ### The service line -/

/-- The reading commands change nothing of the station but the service line: one response, DONE with the data, or BAD-ARG for
an argument out of its range (R31, R52, R74, R96, R120, R144, R159, R173, R187, R197, R204, R205). -/
def Obligations.ReadingChangesNothing : Prop :=
  ∀ (s : State) (n : Byte), Free s →
    exec .readFlags s = .next (answered s .done (flagItems s)) ∧
    exec (.readStation n) s = .next
      (match stationPage s n.toNat with | some d => answered s .done d | none => answered s .badArg []) ∧
    ((stationPage s n.toNat).isSome = true ↔ n.toNat ≤ 4) ∧
    exec (.readSettings n) s = .next
      (if n.toNat ≤ 5 then answered s .done (settingsItems s n.toNat) else answered s .badArg []) ∧
    (∀ p : Stn, n.toNat = p.val + 1 → exec (.readEntry n) s = .next (answered s .done (entryItems s p))) ∧
    (n.toNat = 0 ∨ 32 < n.toNat → exec (.readEntry n) s = .next (answered s .badArg [])) ∧
    (∀ ch : Chan, n.toNat = ch.val + 1 →
      exec (.readOutlet n) s = .next (answered s .done (outletItems s ch)) ∧
      exec (.readStage n) s = .next (answered s .done (stageItems s ch))) ∧
    (n.toNat = 0 ∨ 16 < n.toNat →
      exec (.readOutlet n) s = .next (answered s .badArg []) ∧ exec (.readStage n) s = .next (answered s .badArg []))

/-- A command that comes while another is in progress is answered BUSY and dropped (R203). -/
def Sys2Proof.Claims.BusyIsAnswered : Prop :=
  ∀ (s : State) (n mode count side complement : Byte) (mask : BitVec 16) (data : List Byte) (c : Instr),
    s.pins.reset = false → s.serial.busy = true → data.length = 64 →
    c ∈ [Instr.readStation n, .readEntry n, .readOutlet n, .readStage n, .readFlags, .clearFlags mask, .enableOutlet n,
      .disableOutlet n, .clearOutlet n, .setGuard mode count side complement mask, .restart, .readSettings n,
      .writeSettings n data] →
    exec c s = .next { s with serial := { s.serial with replies := s.serial.replies ++ [⟨.busy, [], false⟩] } }

/-- A malformed frame, and an open one cut off by a gap, are answered BAD-FRAME and have no other effect, whatever command is in
progress, and a gap with no frame open has none at all; bytes that come while no frame is open are discarded until a start byte of
165 (R203). RESPONSE_SENT takes the first response off, ends its command, and is followed by the full reset that waits for it
(R204). -/
def Sys2Proof.Claims.MalformedFramesAndResponses : Prop :=
  ∀ s : State,
    (s.pins.reset = false →
      (∀ bytes frame, endedFrame bytes = some frame → malformed frame = true →
        exec (.badFrame bytes) s =
          .next { s with serial := { s.serial with replies := s.serial.replies ++ [⟨.badFrame, [], false⟩] } }) ∧
      (∀ bytes, frameOpen bytes = true →
        exec (.serviceByteGapTimeout bytes) s =
          .next { s with serial := { s.serial with replies := s.serial.replies ++ [⟨.badFrame, [], false⟩] } })) ∧
    (∀ bytes, frameOpen bytes = false → exec (.serviceByteGapTimeout bytes) s = .next s) ∧
    (∀ noise bytes, (∀ b ∈ noise, b ≠ 165) →
      exec (.serviceByteGapTimeout (noise ++ bytes)) s = exec (.serviceByteGapTimeout bytes) s ∧
      exec (.badFrame (noise ++ bytes)) s = exec (.badFrame bytes) s) ∧
    (∀ r rest, s.serial.replies = r :: rest →
      (r.ofCommand = false → exec .responseSent s = .next { s with serial := { s.serial with replies := rest } }) ∧
      (r.ofCommand = true → s.serial.resetWaiting = false →
        exec .responseSent s = .next { s with serial := { s.serial with replies := rest, busy := false } }) ∧
      (r.ofCommand = true → s.serial.resetWaiting = true → exec .responseSent s = .next (cleared s s.pins.reset)))

/-- BUSY, BAD_FRAME, SERVICE_BYTE_GAP_TIMEOUT and RESPONSE_SENT (R203, R204). -/
def Obligations.ServiceLineAnswers : Prop := BusyIsAnswered ∧ MalformedFramesAndResponses

/-- CLEAR-FLAGS clears the flags its mask names and no other, and ALERT follows; a mask that names a flag above 8 is BAD-ARG and
clears nothing (R194, R196). -/
def Obligations.FlagsAreClearedByMask : Prop :=
  ∀ (s : State) (mask : BitVec 16), Free s →
    (mask.toNat < 512 → Answers (.clearFlags mask) s fun t =>
      t = answered { s with fru := { s.fru with flags := t.fru.flags } } .done [] ∧
      (∀ f : Flag, t.flagSet f = (s.flagSet f && !mask.getLsbD f.number)) ∧
      (t.alert = true ↔ ∃ f : Flag, t.flagSet f = true ∧ s.fru.alertMask.getLsbD f.number = true)) ∧
    (512 ≤ mask.toNat → exec (.clearFlags mask) s = .next (answered s .badArg []))

/-- ENABLE-OUTLET, DISABLE-OUTLET and CLEAR-OUTLET by the outlet's state: the replies, and what each does of itself (R115 to
R117, R119, R169, R204). An outlet that leaves OFF with its out-of-range mark set is reported DEMAND-RANGE in that event (R142,
R189); that an outlet cleared through OFF is reported so again, for which R191 has no report, is the model's choice between the
rules (log 44), and so is the reply DONE of DISABLE-OUTLET to an outlet in FAULT, for which R117 and R119 give none (log 47). -/
def Obligations.OutletCommandsByState : Prop :=
  ∀ (s : State) (n : Byte), Free s →
    (s.station = .start ∨ s.station = .inert → ∀ c ∈ [Instr.enableOutlet n, .disableOutlet n, .clearOutlet n],
      exec c s = .next (answered s .refused [])) ∧
    (s.station ≠ .start → s.station ≠ .inert →
      ((n.toNat = 0 ∨ 16 < n.toNat ∨ ∀ ch : Chan, n.toNat = ch.val + 1 → s.outletCfg? ch = none) →
        ∀ c ∈ [Instr.enableOutlet n, .disableOutlet n, .clearOutlet n], exec c s = .next (answered s .badArg [])) ∧
      (∀ (ch : Chan) (c : OutletCfg), n.toNat = ch.val + 1 → s.outletCfg? ch = some c →
        let o := s.outlet ch
        let a := answered s .done []
        (o.state = .off → o.outOfRange = false → Acts (.enableOutlet n) s (a.modOutlet ch (OutletCfg.enterUse c))) ∧
        (o.state = .off → o.outOfRange = true → Staying s → Answers (.enableOutlet n) s fun t =>
          t.serial = a.serial ∧ t.flagSet .outletFault = true ∧ (t.outlet ch).lastFault = some .demandRange) ∧
        (o.state = .fault → exec (.enableOutlet n) s = .next (answered s .refused [])) ∧
        (o.state = .running →
          Acts (.enableOutlet n) s (a.modOutlet ch fun o => { o with disablePending := false }) ∧
          Acts (.disableOutlet n) s (a.modOutlet ch fun o => { o with disablePending := true })) ∧
        (o.state ≠ .off → o.state ≠ .fault → o.state ≠ .running → exec (.enableOutlet n) s = .next a) ∧
        (o.state ≠ .running → Staying s → Answers (.disableOutlet n) s fun t =>
          t.serial = a.serial ∧ (t.outlet ch).state = .off ∧ (o.state ≠ .off → (t.outlet ch).grant = 0) ∧
          (t.outlet ch).desired = 0) ∧
        (o.state = .fault → o.moving = false → Acts (.clearOutlet n) s
          (a.modOutlet ch fun o => OutletCfg.enterUse c { o with faultKind := none })) ∧
        (o.state ≠ .fault ∨ o.moving = true → exec (.clearOutlet n) s = .next (answered s .refused []))))

/-- SET-GUARD: LOCKED while the LOCK input is asserted, REFUSED in START and INERT, BAD-ARG for an argument out of range; else
the guard of the mode asked for, the other mode's parts kept (R157, R204). -/
def Obligations.GuardIsSet : Prop :=
  ∀ (s : State) (mode count side complement : Byte) (mask : BitVec 16), Free s →
    let c := Instr.setGuard mode count side complement mask
    let bad := 1 < mode.toNat ∨ 16 < count.toNat ∨ 1 < side.toNat ∨ 1 < complement.toNat
    (s.pins.lock = true → exec c s = .next (answered s .locked [])) ∧
    (s.pins.lock = false →
      (s.station = .start ∨ s.station = .inert → exec c s = .next (answered s .refused [])) ∧
      (s.station ≠ .start → s.station ≠ .inert →
        (bad → exec c s = .next (answered s .badArg [])) ∧
        (¬bad → mode.toNat = 1 → Acts c s
          { answered s .done [] with app := { s.app with guard := { s.app.guard with mode := .each, flags := mask } } }) ∧
        (¬bad → mode.toNat = 0 → Acts c s
          { answered s .done [] with app := { s.app with guard := { s.app.guard with
              mode := .range
              count := count.toNat
              side := if side.toNat = 1 then .bottom else .top
              complement := decide (complement.toNat = 1) } } })))

/-- WRITE-SETTINGS by state and segment; the last segment checks the staged image and begins the write, the command staying in
progress without a response (R206). -/
def Sys2Proof.Claims.SettingsAreStaged : Prop :=
  ∀ (s : State) (n : Byte) (data : List Byte), Free s → data.length = 64 →
    (s.station ≠ .inert → (∀ ended, s.station ≠ .halted ended) →
      exec (.writeSettings n data) s = .next (answered s .refused [])) ∧
    (s.station = .inert ∨ (∃ ended, s.station = .halted ended) →
      (5 < n.toNat → exec (.writeSettings n data) s = .next (answered s .badArg [])) ∧
      (∀ k : Fin 6, n.toNat = k.val →
        let staged : State := { s with loader := { s.loader with staging := s.loader.staging.set k (some data) } }
        (k ≠ 5 → exec (.writeSettings n data) s = .next (answered staged .done [])) ∧
        (k = 5 → (∃ j : Fin 6, staged.loader.staging[j] = none) →
          exec (.writeSettings n data) s = .next (answered staged .badArg [])) ∧
        (k = 5 → ∀ b, stagedBytes staged.loader.staging = some b →
          (failedCheck b ≠ 0 →
            exec (.writeSettings n data) s = .next (answered staged .badArg [BitVec.ofNat 8 (failedCheck b)])) ∧
          (failedCheck b = 0 → exec (.writeSettings n data) s = .next
            { staged with
              loader := { staged.loader with write := some (.page 0) }
              serial := { staged.serial with busy := true } }))))

/-- The memory write: a page is written by the command byte 6 and then the page's command 2 with its 32 bytes; a status of 255
ends the write REFUSED 1; with bit 0 at 1 the status request alone is made again; else the next of twelve pages or the read-back
follows; the read-back ends it DONE when it equals the staged bytes, and REFUSED 2 when it does not (R206). The status asked for
before the first page stands with page 0 (log 20). -/
def Sys2Proof.Claims.MemoryWriteRuns : Prop :=
  ∀ (s : State) (status : Byte) (readBack : List Byte), s.pins.reset = false →
    let ended : State := { s with loader := { s.loader with write := none } }
    (s.loader.reading = false → ∀ n,
      (s.loader.write = some (.page n) →
        Loader.exchanges s.loader = (if n = 0 then [[5]] else []) ++
          [[6], 2 :: byte2 (32 * n) ++ (((stagedBytes s.loader.staging).getD []).drop (32 * n)).take 32, [5]]) ∧
      (s.loader.write = some (.polling n) → Loader.exchanges s.loader = [[5]])) ∧
    (∀ n, s.loader.write = some (.page n) ∨ s.loader.write = some (.polling n) →
      (status = 255 →
        exec (.settingsPageWritten status) s = .next (answered ended .refused [1]) ∧
        exec (.settingsWriteCompletes status readBack) s = .next (answered ended .refused [1])) ∧
      (status ≠ 255 → status.getLsbD 0 = true → exec (.settingsPageWritten status) s = .next
        { s with loader := { s.loader with write := some (.polling n) } }) ∧
      (status ≠ 255 → status.getLsbD 0 = false → exec (.settingsPageWritten status) s = .next
        { s with loader := { s.loader with write := some (if n < 11 then .page (n + 1) else .readBack) } })) ∧
    (s.loader.write = some .readBack → readBack.length = 384 →
      (status = 255 → exec (.settingsWriteCompletes status readBack) s = .next (answered ended .refused [1])) ∧
      (status ≠ 255 → stagedBytes s.loader.staging = some readBack →
        exec (.settingsWriteCompletes status readBack) s = .next
          (answered { ended with loader := { ended.loader with staging := Vector.replicate 6 none } } .done [])) ∧
      (status ≠ 255 → stagedBytes s.loader.staging ≠ some readBack →
        exec (.settingsWriteCompletes status readBack) s = .next (answered ended .refused [2])))

/-- WRITE_SETTINGS, SETTINGS_PAGE_WRITTEN and SETTINGS_WRITE_COMPLETES (R206). -/
def Obligations.SettingsAreWritten : Prop := SettingsAreStaged ∧ MemoryWriteRuns

/-! ### The invariants -/

/-- Every step keeps every entry's holdings, wants and offers between 0 and 4095, every VACANT entry all zero, and the seven
counters between 0 and 65535 (R2, R3, R195). -/
def Obligations.StepKeepsTheRecordsSound : Prop :=
  ∀ s t : State, step s = .next t →
    (s.ledgerSound = true → t.ledgerSound = true) ∧
    (s.fru.counters.sound = true → t.fru.counters.sound = true)

/-- Every step keeps every outlet's bound at its grant or above, and at its grant while the valve is SETTLED (R132). -/
def Obligations.StepKeepsTheBounds : Prop :=
  ∀ s t : State, s.boundsSound = true → step s = .next t → t.boundsSound = true

/-- Every step keeps every grant at 0 but those of outlets in MEMBER (R124, R152). -/
def Obligations.StepKeepsGrantsToMember : Prop :=
  ∀ s t : State, s.grantsSound = true → step s = .next t → t.grantsSound = true

/-- Every step keeps the raise and start orders of a class to OUTLET channels of that class, with no image loaded while one is read
(R131, R149, R198); and it keeps what is carried into class 3, and the reclaim carried into class 0, at 0 (R91, R92). -/
def Obligations.StepKeepsOrdersAndCarries : Prop :=
  ∀ s t : State, step s = .next t →
    (s.ordersSound = true → t.ordersSound = true) ∧ (s.carriesSound = true → t.carriesSound = true)

/-- The invariants hold right after power-on. -/
def Obligations.InvariantsHoldAtReset : Prop :=
  State.reset.ledgerSound = true ∧ State.reset.boundsSound = true ∧ State.reset.grantsSound = true ∧
    State.reset.fru.counters.sound = true ∧ State.reset.ordersSound = true ∧ State.reset.carriesSound = true
end

