-- ==== Sys2Proof/Laws/Ops.lean ====
section
/-! SUPPORT. The small lemmas of the named operations: records by index, quantities by service and class, lists applied in
order, timers. -/

namespace Sys2Proof

@[simp] theorem Per2.get_set_self {α : Type} (p : Per2 α) (v : Svc) (a : α) : (p.set v a).get v = a := by
  cases v <;> rfl

theorem Per2.get_set_of_ne {α : Type} (p : Per2 α) {v w : Svc} (a : α) (h : v ≠ w) : (p.set v a).get w = p.get w := by
  cases v <;> cases w <;> first | rfl | exact absurd rfl h

@[simp] theorem Per4.get_set_self {α : Type} (p : Per4 α) (k : Cls) (a : α) : (p.set k a).get k = a := by
  cases k <;> rfl

theorem Per4.get_set_of_ne {α : Type} (p : Per4 α) {k j : Cls} (a : α) (h : k ≠ j) : (p.set k a).get j = p.get j := by
  cases k <;> cases j <;> first | rfl | exact absurd rfl h

@[simp] theorem Per2.get_map {α β : Type} (f : α → β) (p : Per2 α) (v : Svc) : (p.map f).get v = f (p.get v) := by
  cases v <;> rfl

@[simp] theorem Per4.get_map {α β : Type} (f : α → β) (p : Per4 α) (k : Cls) : (p.map f).get k = f (p.get k) := by
  cases k <;> rfl

@[simp] theorem Per2.set_get_self {α : Type} (p : Per2 α) (v : Svc) : p.set v (p.get v) = p := by cases v <;> rfl

@[simp] theorem Per4.set_get_self {α : Type} (p : Per4 α) (k : Cls) : p.set k (p.get k) = p := by cases k <;> rfl

@[simp] theorem Per8.get_set_self {α : Type} (p : Per8 α) (v : Svc) (k : Cls) (a : α) : (Per8.set p v k a).get v k = a := by
  simp [Per8.get, Per8.set]

theorem Per8.get_set_of_ne {α : Type} (p : Per8 α) {v w : Svc} {k j : Cls} (a : α) (h : v ≠ w ∨ k ≠ j) :
    (Per8.set p v k a).get w j = Per8.get p w j := by
  cases v <;> cases w <;> cases k <;> cases j <;> first | rfl | simp at h

namespace Machine

@[simp] theorem modifyAt_get_self {α : Type} {n : Nat} (i : Fin n) (f : α → α) (v : Vector α n) :
    (modifyAt i f v)[i] = f v[i] := by simp [modifyAt]

theorem modifyAt_get_of_ne {α : Type} {n : Nat} {i j : Fin n} (f : α → α) (v : Vector α n) (h : i ≠ j) :
    (modifyAt i f v)[j] = v[j] := by
  simp only [modifyAt, Fin.getElem_fin]
  exact Vector.getElem_set_ne i.isLt j.isLt (fun e => h (Fin.ext e))

@[simp] theorem mapAt_get {α : Type} {n : Nat} (f : Fin n → α → α) (v : Vector α n) (i : Fin n) :
    (mapAt f v)[i] = f i v[i] := by simp [mapAt]

@[simp] theorem State.modOutlet_outlet_self (s : State) (ch : Chan) (f : Outlet → Outlet) :
    (s.modOutlet ch f).outlet ch = f (s.outlet ch) := modifyAt_get_self ch f s.outlets

theorem State.modOutlet_outlet_of_ne (s : State) {ch p : Chan} (f : Outlet → Outlet) (h : ch ≠ p) :
    (s.modOutlet ch f).outlet p = s.outlet p := modifyAt_get_of_ne f s.outlets h

@[simp] theorem State.modStage_stage_self (s : State) (ch : Chan) (f : Stage → Stage) :
    (s.modStage ch f).stage ch = f (s.stage ch) := modifyAt_get_self ch f s.stages

theorem State.modStage_stage_of_ne (s : State) {ch p : Chan} (f : Stage → Stage) (h : ch ≠ p) :
    (s.modStage ch f).stage p = s.stage p := modifyAt_get_of_ne f s.stages h

@[simp] theorem State.modOutlet_stage (s : State) (ch p : Chan) (f : Outlet → Outlet) :
    (s.modOutlet ch f).stage p = s.stage p := rfl

@[simp] theorem State.modStage_outlet (s : State) (ch p : Chan) (f : Stage → Stage) :
    (s.modStage ch f).outlet p = s.outlet p := rfl

/-- What every step of a list keeps, the whole list keeps. -/
theorem forEach_keeps {α β : Type} (g : State → β) (l : List α) (f : α → State → State)
    (h : ∀ a s, g (f a s) = g s) (s : State) : g (forEach l f s) = g s := by
  induction l generalizing s with
  | nil => rfl
  | cons a rest ih => exact (ih (f a s)).trans (h a s)

/-- A property that every step of a list keeps holds after the whole list. -/
theorem forEach_inv {α : Type} (P : State → Prop) (l : List α) (f : α → State → State)
    (h : ∀ a s, P s → P (f a s)) (s : State) (hs : P s) : P (forEach l f s) := by
  induction l generalizing s with
  | nil => exact hs
  | cons a rest ih => exact ih (f a s) (h a s hs)

/-- Every channel stands in the list of channels. -/
@[simp] theorem mem_channels (ch : Chan) : ch ∈ channels := by revert ch; decide

/-- Every station stands in the list of stations. -/
@[simp] theorem mem_stations (n : Stn) : n ∈ stations := by revert n; decide

@[simp] theorem mem_services (v : Svc) : v ∈ services := by cases v <;> decide

@[simp] theorem mem_classes (k : Cls) : k ∈ classes := by cases k <;> decide

/-- A counter at or below its ceiling stays there (R195). -/
theorem countUp_le (n : Nat) : countUp n ≤ Config.maxCount := Nat.min_le_right _ _

theorem modifyAt_map {α β : Type} {n : Nat} (g : α → β) (i : Fin n) (f : α → α) (v : Vector α n)
    (h : g (f v[i]) = g v[i]) : (modifyAt i f v).map g = v.map g := by
  ext j hj
  simp only [modifyAt, Vector.getElem_map, Vector.getElem_set]
  split
  · next e => subst e; simpa using h
  · rfl

theorem mapAt_map {α β : Type} {n : Nat} (g : α → β) (f : Fin n → α → α) (v : Vector α n)
    (h : ∀ i a, g (f i a) = g a) : (mapAt f v).map g = v.map g := by
  ext j hj
  simp [mapAt, h]

end Machine

end Sys2Proof
end

