-- ==== Sys2Proof/Laws/Apart.lean ====
section
/-! SUPPORT. The operations on grants, queues, pulses and runs reach the outlet records, the Apportioner and the counter
"PULSE-MISSED", and nothing else of the station. -/

namespace Sys2Proof.Machine

variable (s : State)

/-- The station apart from its outlet records, its Apportioner and the counter "PULSE-MISSED", which are set aside. -/
def State.apart : State :=
  { s with
    outlets := Vector.replicate 16 Outlet.initial
    app := Apportioner.initial
    fru := { s.fru with counters := { s.fru.counters with pulseMissed := 0 } } }

theorem memb_of_apart {s t : State} (h : t.apart = s.apart) : t.memb = s.memb :=
  show t.apart.memb = s.apart.memb from congrArg State.memb h
theorem ledger_of_apart {s t : State} (h : t.apart = s.apart) : t.ledger = s.ledger :=
  show t.apart.ledger = s.apart.ledger from congrArg State.ledger h
theorem liu_of_apart {s t : State} (h : t.apart = s.apart) : t.liu = s.liu :=
  show t.apart.liu = s.apart.liu from congrArg State.liu h
theorem hold_of_apart {s t : State} (h : t.apart = s.apart) : t.hold = s.hold :=
  show t.apart.hold = s.apart.hold from congrArg State.hold h
theorem stages_of_apart {s t : State} (h : t.apart = s.apart) : t.stages = s.stages :=
  show t.apart.stages = s.apart.stages from congrArg State.stages h
theorem supply_of_apart {s t : State} (h : t.apart = s.apart) : t.supply = s.supply :=
  show t.apart.supply = s.apart.supply from congrArg State.supply h
theorem loader_of_apart {s t : State} (h : t.apart = s.apart) : t.loader = s.loader :=
  show t.apart.loader = s.apart.loader from congrArg State.loader h
theorem flags_of_apart {s t : State} (h : t.apart = s.apart) : t.fru.flags = s.fru.flags :=
  show t.apart.fru.flags = s.apart.fru.flags from congrArg (fun u : State => u.fru.flags) h

@[simp] theorem State.modOutlet_apart (ch : Chan) (f : Outlet → Outlet) : (s.modOutlet ch f).apart = s.apart := rfl
@[simp] theorem State.modApp_apart (f : Apportioner → Apportioner) : (s.modApp f).apart = s.apart := rfl
@[simp] theorem State.modQueue_apart (v : Svc) (k : Cls) (f : WaitQueue → WaitQueue) :
    (s.modQueue v k f).apart = s.apart := rfl
@[simp] theorem State.modRaiseOrder_apart (v : Svc) (k : Cls) (f : List Chan → List Chan) :
    (s.modRaiseOrder v k f).apart = s.apart := rfl
@[simp] theorem State.modStartOrder_apart (v : Svc) (k : Cls) (f : List Chan → List Chan) :
    (s.modStartOrder v k f).apart = s.apart := rfl
@[simp] theorem State.markPass_apart (v : Svc) (k : Cls) : (s.markPass v k).apart = s.apart := rfl
@[simp] theorem State.clearPass_apart (v : Svc) (k : Cls) : (s.clearPass v k).apart = s.apart := rfl
@[simp] theorem State.countPulseMissed_apart : s.countPulseMissed.apart = s.apart := rfl

theorem State.forEach_apart {α : Type} (l : List α) (f : α → State → State) (h : ∀ a t, (f a t).apart = t.apart) :
    (forEach l f s).apart = s.apart := forEach_keeps State.apart l f h s

@[simp] theorem State.leaveStartOrder_apart (ch : Chan) : (s.leaveStartOrder ch).apart = s.apart := by
  unfold State.leaveStartOrder; split <;> rfl

@[simp] theorem State.enterStartOrder_apart (ch : Chan) : (s.enterStartOrder ch).apart = s.apart := by
  unfold State.enterStartOrder; split <;> rfl

@[simp] theorem State.settleValve_apart (ch : Chan) : (s.settleValve ch).apart = s.apart := by
  unfold State.settleValve
  split
  · dsimp only; split <;> rfl
  · rfl

@[simp] theorem State.setGrant_apart (ch : Chan) (g : Nat) : (s.setGrant ch g).apart = s.apart := by
  unfold State.setGrant
  split
  · dsimp only
    split
    · rfl
    · next c _ _ =>
      generalize hr : (if s.rotating then
          s.modRaiseOrder c.svc c.cls (raiseOrderAfter ch (s.outlet ch).grant g) else s) = r
      have hr' : r.apart = s.apart := by rw [← hr]; split <;> rfl
      generalize hq : (if g < (s.outlet ch).grant then r.markPass c.svc c.cls else r) = q
      have hq' : q.apart = s.apart := by rw [← hr', ← hq]; split <;> rfl
      split
      · split
        · exact (State.settleValve_apart _ ch).trans ((State.modOutlet_apart q ch _).trans hq')
        · exact (State.modOutlet_apart q ch _).trans hq'
      · exact (State.modOutlet_apart q ch _).trans hq'
  · rfl

@[simp] theorem State.requeue_apart (v : Svc) (k : Cls) : (s.requeue v k).apart = s.apart := by
  unfold State.requeue; dsimp only; split <;> rfl

@[simp] theorem State.requeueAll_apart : s.requeueAll.apart = s.apart :=
  State.forEach_apart s _ _ fun _ t => State.requeue_apart t _ _

@[simp] theorem State.leaveQueue_apart (ch : Chan) : (s.leaveQueue ch).apart = s.apart := by
  unfold State.leaveQueue; split <;> rfl

@[simp] theorem State.cutPulse_apart (ch : Chan) : (s.cutPulse ch).apart = s.apart := by
  unfold State.cutPulse
  rw [State.countPulseMissed_apart, State.setGrant_apart, State.modOutlet_apart]

@[simp] theorem State.suspendRun_apart (ch : Chan) : (s.suspendRun ch).apart = s.apart := by
  unfold State.suspendRun
  split
  · rw [State.leaveStartOrder_apart, State.setGrant_apart, State.modOutlet_apart]
  · rw [State.setGrant_apart, State.modOutlet_apart]

@[simp] theorem cutPulseStep_apart (v : Svc) (k : Cls) (ch : Chan) : (cutPulseStep v k ch s).apart = s.apart := by
  unfold cutPulseStep; split
  · exact State.cutPulse_apart s ch
  · rfl

@[simp] theorem trimStep_apart (v : Svc) (k : Cls) (ch : Chan) : (trimStep v k ch s).apart = s.apart := by
  unfold trimStep; split
  · split
    · exact State.setGrant_apart s ch _
    · rfl
  · rfl

@[simp] theorem closeStep_apart (v : Svc) (k : Cls) (ch : Chan) : (closeStep v k ch s).apart = s.apart := by
  unfold closeStep; split
  · exact State.setGrant_apart s ch _
  · rfl

@[simp] theorem cutRunStep_apart (v : Svc) (k : Cls) (ch : Chan) : (cutRunStep v k ch s).apart = s.apart := by
  unfold cutRunStep; split
  · exact State.suspendRun_apart s ch
  · rfl

@[simp] theorem State.keepCut_apart (v : Svc) (k : Cls) : (s.keepCut v k).apart = s.apart := by
  unfold State.keepCut
  dsimp only
  rw [State.requeue_apart, State.forEach_apart _ _ _ fun a t => cutRunStep_apart t v k a,
    State.forEach_apart _ _ _ fun a t => closeStep_apart t v k a,
    State.forEach_apart _ _ _ fun a t => trimStep_apart t v k a,
    State.forEach_apart _ _ _ fun a t => cutPulseStep_apart t v k a]

@[simp] theorem zeroOutlet_apart (ch : Chan) : (zeroOutlet ch s).apart = s.apart := by
  unfold zeroOutlet; dsimp only; split
  · exact State.cutPulse_apart s ch
  · exact State.cutPulse_apart s ch
  · rw [State.setGrant_apart, State.modOutlet_apart]
  · split
    · exact State.suspendRun_apart s ch
    · exact State.setGrant_apart s ch 0
  · split
    · exact State.suspendRun_apart s ch
    · exact State.setGrant_apart s ch 0

@[simp] theorem State.zeroAll_apart : s.zeroAll.apart = s.apart := by
  have h := (State.requeueAll_apart _).trans (State.forEach_apart s channels zeroOutlet fun a t => zeroOutlet_apart t a)
  unfold State.zeroAll
  rw [State.modApp_apart, h]

@[simp] theorem State.raiseWhole_apart (ch : Chan) : (s.raiseWhole ch).apart = s.apart := by
  unfold State.raiseWhole
  dsimp only
  rw [State.setGrant_apart]
  split
  · rw [State.enterStartOrder_apart, State.modOutlet_apart]
  all_goals rfl

@[simp] theorem State.replace_apart (v : Svc) (k : Cls) (ch : Chan) : (s.replace v k ch).apart = s.apart := by
  unfold State.replace; split
  · split <;> rfl
  · rfl

theorem passMember_apart (v : Svc) (k : Cls) (st : State × Option Chan) (ch : Chan) :
    (passMember v k st ch).1.apart = st.1.apart := by
  unfold passMember
  split
  · rfl
  · dsimp only
    split
    · split
      · simp
      · rfl
    · split
      · simp
      · split <;> rfl
    · rfl

@[simp] theorem State.servicePass_apart (v : Svc) (k : Cls) : (s.servicePass v k).apart = s.apart := by
  have h : ∀ (l : List Chan) (st : State × Option Chan), (l.foldl (passMember v k) st).1.apart = st.1.apart := by
    intro l
    induction l with
    | nil => intro st; rfl
    | cons a rest ih => intro st; exact (ih _).trans (passMember_apart v k st a)
  exact h (s.queue v k).members (s, none)

@[simp] theorem levelStep_apart (ch : Chan) : (levelStep ch s).apart = s.apart := by
  unfold levelStep; split
  · split <;> rfl
  · rfl

@[simp] theorem groupStep_apart (ch : Chan) : (groupStep ch s).apart = s.apart := by
  unfold groupStep; split
  · split
    · split <;> rfl
    · rfl
    · rfl
  · rfl

@[simp] theorem desiredStep_apart (ch : Chan) : (desiredStep ch s).apart = s.apart := by
  unfold desiredStep; split <;> rfl

@[simp] theorem lowerStep_apart (ch : Chan) : (lowerStep ch s).apart = s.apart := by
  unfold lowerStep; split
  · exact State.setGrant_apart s ch _
  · rfl

@[simp] theorem State.outletPhase_apart : s.outletPhase.apart = s.apart := by
  unfold State.outletPhase
  rw [State.requeueAll_apart, State.forEach_apart _ _ _ fun a t => lowerStep_apart t a,
    State.forEach_apart _ _ _ fun a t => desiredStep_apart t a,
    State.forEach_apart _ _ _ fun a t => groupStep_apart t a,
    State.forEach_apart _ _ _ fun a t => levelStep_apart t a]

@[simp] theorem State.takeOut_apart (st : OutletState) (ch : Chan) : (s.takeOut st ch).apart = s.apart := by
  unfold State.takeOut
  rw [State.leaveStartOrder_apart, State.leaveQueue_apart, State.setGrant_apart, State.modOutlet_apart]

@[simp] theorem State.isolate_apart (kind : FaultKind) (ch : Chan) : (s.isolate kind ch).apart = s.apart := by
  unfold State.isolate
  rw [State.modOutlet_apart, State.takeOut_apart]

/-! ### What the holdings and the stages leave of the membership -/

@[simp] theorem State.outletPhase_memb : s.outletPhase.memb = s.memb := memb_of_apart s.outletPhase_apart

@[simp] theorem State.presentKeep_memb (v : Svc) (k : Cls) : (s.presentKeep v k).memb = s.memb := by
  unfold State.presentKeep; dsimp only; split <;> rfl

@[simp] theorem State.cutIfOver_memb (v : Svc) (k : Cls) : (s.cutIfOver v k).memb = s.memb := by
  unfold State.cutIfOver; split
  · rw [State.presentKeep_memb, memb_of_apart (State.keepCut_apart s v k)]
  · rfl

@[simp] theorem State.passIfDue_memb (v : Svc) (k : Cls) : (s.passIfDue v k).memb = s.memb := by
  unfold State.passIfDue; split
  · exact memb_of_apart (State.servicePass_apart (s.clearPass v k) v k)
  · rfl

@[simp] theorem State.carry_memb (v : Svc) (k : Cls) : (s.carry v k).memb = s.memb := by
  unfold State.carry; dsimp only; split <;> rfl

@[simp] theorem classStep_memb (v : Svc) (k : Cls) : (classStep v k s).memb = s.memb := by simp [classStep]

@[simp] theorem State.holdPhase_memb : s.holdPhase.memb = s.memb := by
  have h1 : ∀ v t, (wantStep v t).memb = t.memb := by
    intro v t; unfold wantStep
    split
    · dsimp only; split <;> rfl
    · rfl
  have h2 : ∀ v t, (takeStep v t).memb = t.memb := by
    intro v t; unfold takeStep
    split
    · split
      · dsimp only; split <;> rfl
      · rfl
    · rfl
  have h3 : ∀ (p : Svc × Cls) t, (giveStep p.1 p.2 t).memb = t.memb := by
    intro p t; unfold giveStep; dsimp only; split <;> rfl
  unfold State.holdPhase
  dsimp only
  rw [forEach_keeps State.memb _ _ h1, forEach_keeps State.memb _ _ h2, forEach_keeps State.memb _ _ h3,
    forEach_keeps State.memb _ reclaimStep fun _ _ => rfl,
    forEach_keeps State.memb _ keepPhase fun v t => forEach_keeps State.memb _ _ (fun k u => classStep_memb u v k) t]

@[simp] theorem State.sparePhase_memb : s.sparePhase.memb = s.memb :=
  forEach_keeps State.memb _ (fun (p : Svc × Cls) => spareStep p.1 p.2) (fun _ _ => rfl) s

@[simp] theorem State.stagePhase_memb : s.stagePhase.memb = s.memb := by
  have h : ∀ v t, (callStep v t).memb = t.memb := by
    intro v t; unfold callStep; dsimp only; split
    · split <;> rfl
    · rfl
  unfold State.stagePhase
  split
  · dsimp only
    rw [forEach_keeps State.memb _ dropStep fun _ _ => rfl,
      forEach_keeps State.memb _ offerStep fun _ t => by unfold offerStep; split <;> rfl,
      forEach_keeps State.memb _ _ h,
      forEach_keeps State.memb _ alwaysStep fun _ t => by unfold alwaysStep; split <;> rfl]
  · rfl

end Sys2Proof.Machine
end

