-- ==== Sys2Proof/Laws/State.lean ====
section
/-! SUPPORT. What each update of the state's record changes and what it leaves: one lemma per field per update. -/

namespace Sys2Proof.Machine

variable (s : State)

@[simp] theorem State.modOutlet_pending (ch : Chan) (f : Outlet → Outlet) :
    (s.modOutlet ch f).pending = s.pending := rfl
@[simp] theorem State.modOutlet_pins (ch : Chan) (f : Outlet → Outlet) : (s.modOutlet ch f).pins = s.pins := rfl
@[simp] theorem State.modOutlet_ledger (ch : Chan) (f : Outlet → Outlet) : (s.modOutlet ch f).ledger = s.ledger := rfl
@[simp] theorem State.modOutlet_liu (ch : Chan) (f : Outlet → Outlet) : (s.modOutlet ch f).liu = s.liu := rfl
@[simp] theorem State.modOutlet_memb (ch : Chan) (f : Outlet → Outlet) : (s.modOutlet ch f).memb = s.memb := rfl
@[simp] theorem State.modOutlet_hold (ch : Chan) (f : Outlet → Outlet) : (s.modOutlet ch f).hold = s.hold := rfl
@[simp] theorem State.modOutlet_outlets (ch : Chan) (f : Outlet → Outlet) :
    (s.modOutlet ch f).outlets = modifyAt ch f s.outlets := rfl
@[simp] theorem State.modOutlet_app (ch : Chan) (f : Outlet → Outlet) : (s.modOutlet ch f).app = s.app := rfl
@[simp] theorem State.modOutlet_stages (ch : Chan) (f : Outlet → Outlet) : (s.modOutlet ch f).stages = s.stages := rfl
@[simp] theorem State.modOutlet_supply (ch : Chan) (f : Outlet → Outlet) : (s.modOutlet ch f).supply = s.supply := rfl
@[simp] theorem State.modOutlet_meterWindow (ch : Chan) (f : Outlet → Outlet) :
    (s.modOutlet ch f).meterWindow = s.meterWindow := rfl
@[simp] theorem State.modOutlet_fru (ch : Chan) (f : Outlet → Outlet) : (s.modOutlet ch f).fru = s.fru := rfl
@[simp] theorem State.modOutlet_loader (ch : Chan) (f : Outlet → Outlet) : (s.modOutlet ch f).loader = s.loader := rfl
@[simp] theorem State.modOutlet_serial (ch : Chan) (f : Outlet → Outlet) : (s.modOutlet ch f).serial = s.serial := rfl
@[simp] theorem State.modOutlet_now (ch : Chan) (f : Outlet → Outlet) : (s.modOutlet ch f).now = s.now := rfl
@[simp] theorem State.modOutlet_freeUses (ch : Chan) (f : Outlet → Outlet) :
    (s.modOutlet ch f).freeUses = s.freeUses := rfl

@[simp] theorem State.modStage_pending (ch : Chan) (f : Stage → Stage) : (s.modStage ch f).pending = s.pending := rfl
@[simp] theorem State.modStage_pins (ch : Chan) (f : Stage → Stage) : (s.modStage ch f).pins = s.pins := rfl
@[simp] theorem State.modStage_ledger (ch : Chan) (f : Stage → Stage) : (s.modStage ch f).ledger = s.ledger := rfl
@[simp] theorem State.modStage_liu (ch : Chan) (f : Stage → Stage) : (s.modStage ch f).liu = s.liu := rfl
@[simp] theorem State.modStage_memb (ch : Chan) (f : Stage → Stage) : (s.modStage ch f).memb = s.memb := rfl
@[simp] theorem State.modStage_hold (ch : Chan) (f : Stage → Stage) : (s.modStage ch f).hold = s.hold := rfl
@[simp] theorem State.modStage_outlets (ch : Chan) (f : Stage → Stage) : (s.modStage ch f).outlets = s.outlets := rfl
@[simp] theorem State.modStage_app (ch : Chan) (f : Stage → Stage) : (s.modStage ch f).app = s.app := rfl
@[simp] theorem State.modStage_stages (ch : Chan) (f : Stage → Stage) :
    (s.modStage ch f).stages = modifyAt ch f s.stages := rfl
@[simp] theorem State.modStage_supply (ch : Chan) (f : Stage → Stage) : (s.modStage ch f).supply = s.supply := rfl
@[simp] theorem State.modStage_meterWindow (ch : Chan) (f : Stage → Stage) :
    (s.modStage ch f).meterWindow = s.meterWindow := rfl
@[simp] theorem State.modStage_fru (ch : Chan) (f : Stage → Stage) : (s.modStage ch f).fru = s.fru := rfl
@[simp] theorem State.modStage_loader (ch : Chan) (f : Stage → Stage) : (s.modStage ch f).loader = s.loader := rfl
@[simp] theorem State.modStage_serial (ch : Chan) (f : Stage → Stage) : (s.modStage ch f).serial = s.serial := rfl
@[simp] theorem State.modStage_now (ch : Chan) (f : Stage → Stage) : (s.modStage ch f).now = s.now := rfl
@[simp] theorem State.modStage_freeUses (ch : Chan) (f : Stage → Stage) :
    (s.modStage ch f).freeUses = s.freeUses := rfl

@[simp] theorem State.modSupply_pending (v : Svc) (f : Supply → Supply) : (s.modSupply v f).pending = s.pending := rfl
@[simp] theorem State.modSupply_pins (v : Svc) (f : Supply → Supply) : (s.modSupply v f).pins = s.pins := rfl
@[simp] theorem State.modSupply_ledger (v : Svc) (f : Supply → Supply) : (s.modSupply v f).ledger = s.ledger := rfl
@[simp] theorem State.modSupply_liu (v : Svc) (f : Supply → Supply) : (s.modSupply v f).liu = s.liu := rfl
@[simp] theorem State.modSupply_memb (v : Svc) (f : Supply → Supply) : (s.modSupply v f).memb = s.memb := rfl
@[simp] theorem State.modSupply_hold (v : Svc) (f : Supply → Supply) : (s.modSupply v f).hold = s.hold := rfl
@[simp] theorem State.modSupply_outlets (v : Svc) (f : Supply → Supply) : (s.modSupply v f).outlets = s.outlets := rfl
@[simp] theorem State.modSupply_app (v : Svc) (f : Supply → Supply) : (s.modSupply v f).app = s.app := rfl
@[simp] theorem State.modSupply_stages (v : Svc) (f : Supply → Supply) : (s.modSupply v f).stages = s.stages := rfl
@[simp] theorem State.modSupply_supply (v : Svc) (f : Supply → Supply) :
    (s.modSupply v f).supply = s.supply.set v (f (s.supply.get v)) := rfl
@[simp] theorem State.modSupply_meterWindow (v : Svc) (f : Supply → Supply) :
    (s.modSupply v f).meterWindow = s.meterWindow := rfl
@[simp] theorem State.modSupply_fru (v : Svc) (f : Supply → Supply) : (s.modSupply v f).fru = s.fru := rfl
@[simp] theorem State.modSupply_loader (v : Svc) (f : Supply → Supply) : (s.modSupply v f).loader = s.loader := rfl
@[simp] theorem State.modSupply_serial (v : Svc) (f : Supply → Supply) : (s.modSupply v f).serial = s.serial := rfl
@[simp] theorem State.modSupply_now (v : Svc) (f : Supply → Supply) : (s.modSupply v f).now = s.now := rfl
@[simp] theorem State.modSupply_freeUses (v : Svc) (f : Supply → Supply) :
    (s.modSupply v f).freeUses = s.freeUses := rfl

@[simp] theorem State.modHold_pending (v : Svc) (f : ServiceHold → ServiceHold) :
    (s.modHold v f).pending = s.pending := rfl
@[simp] theorem State.modHold_pins (v : Svc) (f : ServiceHold → ServiceHold) : (s.modHold v f).pins = s.pins := rfl
@[simp] theorem State.modHold_ledger (v : Svc) (f : ServiceHold → ServiceHold) :
    (s.modHold v f).ledger = s.ledger := rfl
@[simp] theorem State.modHold_liu (v : Svc) (f : ServiceHold → ServiceHold) : (s.modHold v f).liu = s.liu := rfl
@[simp] theorem State.modHold_memb (v : Svc) (f : ServiceHold → ServiceHold) : (s.modHold v f).memb = s.memb := rfl
@[simp] theorem State.modHold_hold (v : Svc) (f : ServiceHold → ServiceHold) :
    (s.modHold v f).hold = s.hold.set v (f (s.hold.get v)) := rfl
@[simp] theorem State.modHold_outlets (v : Svc) (f : ServiceHold → ServiceHold) :
    (s.modHold v f).outlets = s.outlets := rfl
@[simp] theorem State.modHold_app (v : Svc) (f : ServiceHold → ServiceHold) : (s.modHold v f).app = s.app := rfl
@[simp] theorem State.modHold_stages (v : Svc) (f : ServiceHold → ServiceHold) :
    (s.modHold v f).stages = s.stages := rfl
@[simp] theorem State.modHold_supply (v : Svc) (f : ServiceHold → ServiceHold) :
    (s.modHold v f).supply = s.supply := rfl
@[simp] theorem State.modHold_meterWindow (v : Svc) (f : ServiceHold → ServiceHold) :
    (s.modHold v f).meterWindow = s.meterWindow := rfl
@[simp] theorem State.modHold_fru (v : Svc) (f : ServiceHold → ServiceHold) : (s.modHold v f).fru = s.fru := rfl
@[simp] theorem State.modHold_loader (v : Svc) (f : ServiceHold → ServiceHold) :
    (s.modHold v f).loader = s.loader := rfl
@[simp] theorem State.modHold_serial (v : Svc) (f : ServiceHold → ServiceHold) :
    (s.modHold v f).serial = s.serial := rfl
@[simp] theorem State.modHold_now (v : Svc) (f : ServiceHold → ServiceHold) : (s.modHold v f).now = s.now := rfl
@[simp] theorem State.modHold_freeUses (v : Svc) (f : ServiceHold → ServiceHold) :
    (s.modHold v f).freeUses = s.freeUses := rfl

@[simp] theorem State.modClass_pending (v : Svc) (k : Cls) (f : ClassHold → ClassHold) :
    (s.modClass v k f).pending = s.pending := rfl
@[simp] theorem State.modClass_pins (v : Svc) (k : Cls) (f : ClassHold → ClassHold) :
    (s.modClass v k f).pins = s.pins := rfl
@[simp] theorem State.modClass_ledger (v : Svc) (k : Cls) (f : ClassHold → ClassHold) :
    (s.modClass v k f).ledger = s.ledger := rfl
@[simp] theorem State.modClass_liu (v : Svc) (k : Cls) (f : ClassHold → ClassHold) :
    (s.modClass v k f).liu = s.liu := rfl
@[simp] theorem State.modClass_memb (v : Svc) (k : Cls) (f : ClassHold → ClassHold) :
    (s.modClass v k f).memb = s.memb := rfl
@[simp] theorem State.modClass_hold (v : Svc) (k : Cls) (f : ClassHold → ClassHold) :
    (s.modClass v k f).hold = s.hold.set v { s.hold.get v with classes := (s.hold.get v).classes.set k (f ((s.hold.get v).classes.get k)) } := rfl
@[simp] theorem State.modClass_outlets (v : Svc) (k : Cls) (f : ClassHold → ClassHold) :
    (s.modClass v k f).outlets = s.outlets := rfl
@[simp] theorem State.modClass_app (v : Svc) (k : Cls) (f : ClassHold → ClassHold) :
    (s.modClass v k f).app = s.app := rfl
@[simp] theorem State.modClass_stages (v : Svc) (k : Cls) (f : ClassHold → ClassHold) :
    (s.modClass v k f).stages = s.stages := rfl
@[simp] theorem State.modClass_supply (v : Svc) (k : Cls) (f : ClassHold → ClassHold) :
    (s.modClass v k f).supply = s.supply := rfl
@[simp] theorem State.modClass_meterWindow (v : Svc) (k : Cls) (f : ClassHold → ClassHold) :
    (s.modClass v k f).meterWindow = s.meterWindow := rfl
@[simp] theorem State.modClass_fru (v : Svc) (k : Cls) (f : ClassHold → ClassHold) :
    (s.modClass v k f).fru = s.fru := rfl
@[simp] theorem State.modClass_loader (v : Svc) (k : Cls) (f : ClassHold → ClassHold) :
    (s.modClass v k f).loader = s.loader := rfl
@[simp] theorem State.modClass_serial (v : Svc) (k : Cls) (f : ClassHold → ClassHold) :
    (s.modClass v k f).serial = s.serial := rfl
@[simp] theorem State.modClass_now (v : Svc) (k : Cls) (f : ClassHold → ClassHold) :
    (s.modClass v k f).now = s.now := rfl
@[simp] theorem State.modClass_freeUses (v : Svc) (k : Cls) (f : ClassHold → ClassHold) :
    (s.modClass v k f).freeUses = s.freeUses := rfl

@[simp] theorem State.modMemb_pending (f : Membership → Membership) : (s.modMemb f).pending = s.pending := rfl
@[simp] theorem State.modMemb_pins (f : Membership → Membership) : (s.modMemb f).pins = s.pins := rfl
@[simp] theorem State.modMemb_ledger (f : Membership → Membership) : (s.modMemb f).ledger = s.ledger := rfl
@[simp] theorem State.modMemb_liu (f : Membership → Membership) : (s.modMemb f).liu = s.liu := rfl
@[simp] theorem State.modMemb_memb (f : Membership → Membership) : (s.modMemb f).memb = f s.memb := rfl
@[simp] theorem State.modMemb_hold (f : Membership → Membership) : (s.modMemb f).hold = s.hold := rfl
@[simp] theorem State.modMemb_outlets (f : Membership → Membership) : (s.modMemb f).outlets = s.outlets := rfl
@[simp] theorem State.modMemb_app (f : Membership → Membership) : (s.modMemb f).app = s.app := rfl
@[simp] theorem State.modMemb_stages (f : Membership → Membership) : (s.modMemb f).stages = s.stages := rfl
@[simp] theorem State.modMemb_supply (f : Membership → Membership) : (s.modMemb f).supply = s.supply := rfl
@[simp] theorem State.modMemb_meterWindow (f : Membership → Membership) :
    (s.modMemb f).meterWindow = s.meterWindow := rfl
@[simp] theorem State.modMemb_fru (f : Membership → Membership) : (s.modMemb f).fru = s.fru := rfl
@[simp] theorem State.modMemb_loader (f : Membership → Membership) : (s.modMemb f).loader = s.loader := rfl
@[simp] theorem State.modMemb_serial (f : Membership → Membership) : (s.modMemb f).serial = s.serial := rfl
@[simp] theorem State.modMemb_now (f : Membership → Membership) : (s.modMemb f).now = s.now := rfl
@[simp] theorem State.modMemb_freeUses (f : Membership → Membership) : (s.modMemb f).freeUses = s.freeUses := rfl

@[simp] theorem State.modLiu_pending (f : Liu → Liu) : (s.modLiu f).pending = s.pending := rfl
@[simp] theorem State.modLiu_pins (f : Liu → Liu) : (s.modLiu f).pins = s.pins := rfl
@[simp] theorem State.modLiu_ledger (f : Liu → Liu) : (s.modLiu f).ledger = s.ledger := rfl
@[simp] theorem State.modLiu_liu (f : Liu → Liu) : (s.modLiu f).liu = f s.liu := rfl
@[simp] theorem State.modLiu_memb (f : Liu → Liu) : (s.modLiu f).memb = s.memb := rfl
@[simp] theorem State.modLiu_hold (f : Liu → Liu) : (s.modLiu f).hold = s.hold := rfl
@[simp] theorem State.modLiu_outlets (f : Liu → Liu) : (s.modLiu f).outlets = s.outlets := rfl
@[simp] theorem State.modLiu_app (f : Liu → Liu) : (s.modLiu f).app = s.app := rfl
@[simp] theorem State.modLiu_stages (f : Liu → Liu) : (s.modLiu f).stages = s.stages := rfl
@[simp] theorem State.modLiu_supply (f : Liu → Liu) : (s.modLiu f).supply = s.supply := rfl
@[simp] theorem State.modLiu_meterWindow (f : Liu → Liu) : (s.modLiu f).meterWindow = s.meterWindow := rfl
@[simp] theorem State.modLiu_fru (f : Liu → Liu) : (s.modLiu f).fru = s.fru := rfl
@[simp] theorem State.modLiu_loader (f : Liu → Liu) : (s.modLiu f).loader = s.loader := rfl
@[simp] theorem State.modLiu_serial (f : Liu → Liu) : (s.modLiu f).serial = s.serial := rfl
@[simp] theorem State.modLiu_now (f : Liu → Liu) : (s.modLiu f).now = s.now := rfl
@[simp] theorem State.modLiu_freeUses (f : Liu → Liu) : (s.modLiu f).freeUses = s.freeUses := rfl

@[simp] theorem State.modTxQueue_pending (f : TxQueue → TxQueue) : (s.modTxQueue f).pending = s.pending := rfl
@[simp] theorem State.modTxQueue_pins (f : TxQueue → TxQueue) : (s.modTxQueue f).pins = s.pins := rfl
@[simp] theorem State.modTxQueue_ledger (f : TxQueue → TxQueue) : (s.modTxQueue f).ledger = s.ledger := rfl
@[simp] theorem State.modTxQueue_liu (f : TxQueue → TxQueue) :
    (s.modTxQueue f).liu = { s.liu with queue := f s.liu.queue } := rfl
@[simp] theorem State.modTxQueue_memb (f : TxQueue → TxQueue) : (s.modTxQueue f).memb = s.memb := rfl
@[simp] theorem State.modTxQueue_hold (f : TxQueue → TxQueue) : (s.modTxQueue f).hold = s.hold := rfl
@[simp] theorem State.modTxQueue_outlets (f : TxQueue → TxQueue) : (s.modTxQueue f).outlets = s.outlets := rfl
@[simp] theorem State.modTxQueue_app (f : TxQueue → TxQueue) : (s.modTxQueue f).app = s.app := rfl
@[simp] theorem State.modTxQueue_stages (f : TxQueue → TxQueue) : (s.modTxQueue f).stages = s.stages := rfl
@[simp] theorem State.modTxQueue_supply (f : TxQueue → TxQueue) : (s.modTxQueue f).supply = s.supply := rfl
@[simp] theorem State.modTxQueue_meterWindow (f : TxQueue → TxQueue) :
    (s.modTxQueue f).meterWindow = s.meterWindow := rfl
@[simp] theorem State.modTxQueue_fru (f : TxQueue → TxQueue) : (s.modTxQueue f).fru = s.fru := rfl
@[simp] theorem State.modTxQueue_loader (f : TxQueue → TxQueue) : (s.modTxQueue f).loader = s.loader := rfl
@[simp] theorem State.modTxQueue_serial (f : TxQueue → TxQueue) : (s.modTxQueue f).serial = s.serial := rfl
@[simp] theorem State.modTxQueue_now (f : TxQueue → TxQueue) : (s.modTxQueue f).now = s.now := rfl
@[simp] theorem State.modTxQueue_freeUses (f : TxQueue → TxQueue) : (s.modTxQueue f).freeUses = s.freeUses := rfl

@[simp] theorem State.modLedger_pending (f : Ledger → Ledger) : (s.modLedger f).pending = s.pending := rfl
@[simp] theorem State.modLedger_pins (f : Ledger → Ledger) : (s.modLedger f).pins = s.pins := rfl
@[simp] theorem State.modLedger_ledger (f : Ledger → Ledger) : (s.modLedger f).ledger = f s.ledger := rfl
@[simp] theorem State.modLedger_liu (f : Ledger → Ledger) : (s.modLedger f).liu = s.liu := rfl
@[simp] theorem State.modLedger_memb (f : Ledger → Ledger) : (s.modLedger f).memb = s.memb := rfl
@[simp] theorem State.modLedger_hold (f : Ledger → Ledger) : (s.modLedger f).hold = s.hold := rfl
@[simp] theorem State.modLedger_outlets (f : Ledger → Ledger) : (s.modLedger f).outlets = s.outlets := rfl
@[simp] theorem State.modLedger_app (f : Ledger → Ledger) : (s.modLedger f).app = s.app := rfl
@[simp] theorem State.modLedger_stages (f : Ledger → Ledger) : (s.modLedger f).stages = s.stages := rfl
@[simp] theorem State.modLedger_supply (f : Ledger → Ledger) : (s.modLedger f).supply = s.supply := rfl
@[simp] theorem State.modLedger_meterWindow (f : Ledger → Ledger) : (s.modLedger f).meterWindow = s.meterWindow := rfl
@[simp] theorem State.modLedger_fru (f : Ledger → Ledger) : (s.modLedger f).fru = s.fru := rfl
@[simp] theorem State.modLedger_loader (f : Ledger → Ledger) : (s.modLedger f).loader = s.loader := rfl
@[simp] theorem State.modLedger_serial (f : Ledger → Ledger) : (s.modLedger f).serial = s.serial := rfl
@[simp] theorem State.modLedger_now (f : Ledger → Ledger) : (s.modLedger f).now = s.now := rfl
@[simp] theorem State.modLedger_freeUses (f : Ledger → Ledger) : (s.modLedger f).freeUses = s.freeUses := rfl

@[simp] theorem State.modApp_pending (f : Apportioner → Apportioner) : (s.modApp f).pending = s.pending := rfl
@[simp] theorem State.modApp_pins (f : Apportioner → Apportioner) : (s.modApp f).pins = s.pins := rfl
@[simp] theorem State.modApp_ledger (f : Apportioner → Apportioner) : (s.modApp f).ledger = s.ledger := rfl
@[simp] theorem State.modApp_liu (f : Apportioner → Apportioner) : (s.modApp f).liu = s.liu := rfl
@[simp] theorem State.modApp_memb (f : Apportioner → Apportioner) : (s.modApp f).memb = s.memb := rfl
@[simp] theorem State.modApp_hold (f : Apportioner → Apportioner) : (s.modApp f).hold = s.hold := rfl
@[simp] theorem State.modApp_outlets (f : Apportioner → Apportioner) : (s.modApp f).outlets = s.outlets := rfl
@[simp] theorem State.modApp_app (f : Apportioner → Apportioner) : (s.modApp f).app = f s.app := rfl
@[simp] theorem State.modApp_stages (f : Apportioner → Apportioner) : (s.modApp f).stages = s.stages := rfl
@[simp] theorem State.modApp_supply (f : Apportioner → Apportioner) : (s.modApp f).supply = s.supply := rfl
@[simp] theorem State.modApp_meterWindow (f : Apportioner → Apportioner) :
    (s.modApp f).meterWindow = s.meterWindow := rfl
@[simp] theorem State.modApp_fru (f : Apportioner → Apportioner) : (s.modApp f).fru = s.fru := rfl
@[simp] theorem State.modApp_loader (f : Apportioner → Apportioner) : (s.modApp f).loader = s.loader := rfl
@[simp] theorem State.modApp_serial (f : Apportioner → Apportioner) : (s.modApp f).serial = s.serial := rfl
@[simp] theorem State.modApp_now (f : Apportioner → Apportioner) : (s.modApp f).now = s.now := rfl
@[simp] theorem State.modApp_freeUses (f : Apportioner → Apportioner) : (s.modApp f).freeUses = s.freeUses := rfl

@[simp] theorem State.modSerial_pending (f : ServiceLine → ServiceLine) : (s.modSerial f).pending = s.pending := rfl
@[simp] theorem State.modSerial_pins (f : ServiceLine → ServiceLine) : (s.modSerial f).pins = s.pins := rfl
@[simp] theorem State.modSerial_ledger (f : ServiceLine → ServiceLine) : (s.modSerial f).ledger = s.ledger := rfl
@[simp] theorem State.modSerial_liu (f : ServiceLine → ServiceLine) : (s.modSerial f).liu = s.liu := rfl
@[simp] theorem State.modSerial_memb (f : ServiceLine → ServiceLine) : (s.modSerial f).memb = s.memb := rfl
@[simp] theorem State.modSerial_hold (f : ServiceLine → ServiceLine) : (s.modSerial f).hold = s.hold := rfl
@[simp] theorem State.modSerial_outlets (f : ServiceLine → ServiceLine) : (s.modSerial f).outlets = s.outlets := rfl
@[simp] theorem State.modSerial_app (f : ServiceLine → ServiceLine) : (s.modSerial f).app = s.app := rfl
@[simp] theorem State.modSerial_stages (f : ServiceLine → ServiceLine) : (s.modSerial f).stages = s.stages := rfl
@[simp] theorem State.modSerial_supply (f : ServiceLine → ServiceLine) : (s.modSerial f).supply = s.supply := rfl
@[simp] theorem State.modSerial_meterWindow (f : ServiceLine → ServiceLine) :
    (s.modSerial f).meterWindow = s.meterWindow := rfl
@[simp] theorem State.modSerial_fru (f : ServiceLine → ServiceLine) : (s.modSerial f).fru = s.fru := rfl
@[simp] theorem State.modSerial_loader (f : ServiceLine → ServiceLine) : (s.modSerial f).loader = s.loader := rfl
@[simp] theorem State.modSerial_serial (f : ServiceLine → ServiceLine) : (s.modSerial f).serial = f s.serial := rfl
@[simp] theorem State.modSerial_now (f : ServiceLine → ServiceLine) : (s.modSerial f).now = s.now := rfl
@[simp] theorem State.modSerial_freeUses (f : ServiceLine → ServiceLine) :
    (s.modSerial f).freeUses = s.freeUses := rfl

@[simp] theorem State.modLoader_pending (f : Loader → Loader) : (s.modLoader f).pending = s.pending := rfl
@[simp] theorem State.modLoader_pins (f : Loader → Loader) : (s.modLoader f).pins = s.pins := rfl
@[simp] theorem State.modLoader_ledger (f : Loader → Loader) : (s.modLoader f).ledger = s.ledger := rfl
@[simp] theorem State.modLoader_liu (f : Loader → Loader) : (s.modLoader f).liu = s.liu := rfl
@[simp] theorem State.modLoader_memb (f : Loader → Loader) : (s.modLoader f).memb = s.memb := rfl
@[simp] theorem State.modLoader_hold (f : Loader → Loader) : (s.modLoader f).hold = s.hold := rfl
@[simp] theorem State.modLoader_outlets (f : Loader → Loader) : (s.modLoader f).outlets = s.outlets := rfl
@[simp] theorem State.modLoader_app (f : Loader → Loader) : (s.modLoader f).app = s.app := rfl
@[simp] theorem State.modLoader_stages (f : Loader → Loader) : (s.modLoader f).stages = s.stages := rfl
@[simp] theorem State.modLoader_supply (f : Loader → Loader) : (s.modLoader f).supply = s.supply := rfl
@[simp] theorem State.modLoader_meterWindow (f : Loader → Loader) : (s.modLoader f).meterWindow = s.meterWindow := rfl
@[simp] theorem State.modLoader_fru (f : Loader → Loader) : (s.modLoader f).fru = s.fru := rfl
@[simp] theorem State.modLoader_loader (f : Loader → Loader) : (s.modLoader f).loader = f s.loader := rfl
@[simp] theorem State.modLoader_serial (f : Loader → Loader) : (s.modLoader f).serial = s.serial := rfl
@[simp] theorem State.modLoader_now (f : Loader → Loader) : (s.modLoader f).now = s.now := rfl
@[simp] theorem State.modLoader_freeUses (f : Loader → Loader) : (s.modLoader f).freeUses = s.freeUses := rfl

@[simp] theorem State.modFru_pending (f : FaultUnit → FaultUnit) : (s.modFru f).pending = s.pending := rfl
@[simp] theorem State.modFru_pins (f : FaultUnit → FaultUnit) : (s.modFru f).pins = s.pins := rfl
@[simp] theorem State.modFru_ledger (f : FaultUnit → FaultUnit) : (s.modFru f).ledger = s.ledger := rfl
@[simp] theorem State.modFru_liu (f : FaultUnit → FaultUnit) : (s.modFru f).liu = s.liu := rfl
@[simp] theorem State.modFru_memb (f : FaultUnit → FaultUnit) : (s.modFru f).memb = s.memb := rfl
@[simp] theorem State.modFru_hold (f : FaultUnit → FaultUnit) : (s.modFru f).hold = s.hold := rfl
@[simp] theorem State.modFru_outlets (f : FaultUnit → FaultUnit) : (s.modFru f).outlets = s.outlets := rfl
@[simp] theorem State.modFru_app (f : FaultUnit → FaultUnit) : (s.modFru f).app = s.app := rfl
@[simp] theorem State.modFru_stages (f : FaultUnit → FaultUnit) : (s.modFru f).stages = s.stages := rfl
@[simp] theorem State.modFru_supply (f : FaultUnit → FaultUnit) : (s.modFru f).supply = s.supply := rfl
@[simp] theorem State.modFru_meterWindow (f : FaultUnit → FaultUnit) : (s.modFru f).meterWindow = s.meterWindow := rfl
@[simp] theorem State.modFru_fru (f : FaultUnit → FaultUnit) : (s.modFru f).fru = f s.fru := rfl
@[simp] theorem State.modFru_loader (f : FaultUnit → FaultUnit) : (s.modFru f).loader = s.loader := rfl
@[simp] theorem State.modFru_serial (f : FaultUnit → FaultUnit) : (s.modFru f).serial = s.serial := rfl
@[simp] theorem State.modFru_now (f : FaultUnit → FaultUnit) : (s.modFru f).now = s.now := rfl
@[simp] theorem State.modFru_freeUses (f : FaultUnit → FaultUnit) : (s.modFru f).freeUses = s.freeUses := rfl

@[simp] theorem State.modQueue_pending (v : Svc) (k : Cls) (f : WaitQueue → WaitQueue) :
    (s.modQueue v k f).pending = s.pending := rfl
@[simp] theorem State.modQueue_pins (v : Svc) (k : Cls) (f : WaitQueue → WaitQueue) :
    (s.modQueue v k f).pins = s.pins := rfl
@[simp] theorem State.modQueue_ledger (v : Svc) (k : Cls) (f : WaitQueue → WaitQueue) :
    (s.modQueue v k f).ledger = s.ledger := rfl
@[simp] theorem State.modQueue_liu (v : Svc) (k : Cls) (f : WaitQueue → WaitQueue) :
    (s.modQueue v k f).liu = s.liu := rfl
@[simp] theorem State.modQueue_memb (v : Svc) (k : Cls) (f : WaitQueue → WaitQueue) :
    (s.modQueue v k f).memb = s.memb := rfl
@[simp] theorem State.modQueue_hold (v : Svc) (k : Cls) (f : WaitQueue → WaitQueue) :
    (s.modQueue v k f).hold = s.hold := rfl
@[simp] theorem State.modQueue_outlets (v : Svc) (k : Cls) (f : WaitQueue → WaitQueue) :
    (s.modQueue v k f).outlets = s.outlets := rfl
@[simp] theorem State.modQueue_app (v : Svc) (k : Cls) (f : WaitQueue → WaitQueue) :
    (s.modQueue v k f).app = { s.app with queues := s.app.queues.set v k (f (s.app.queues.get v k)) } := rfl
@[simp] theorem State.modQueue_stages (v : Svc) (k : Cls) (f : WaitQueue → WaitQueue) :
    (s.modQueue v k f).stages = s.stages := rfl
@[simp] theorem State.modQueue_supply (v : Svc) (k : Cls) (f : WaitQueue → WaitQueue) :
    (s.modQueue v k f).supply = s.supply := rfl
@[simp] theorem State.modQueue_meterWindow (v : Svc) (k : Cls) (f : WaitQueue → WaitQueue) :
    (s.modQueue v k f).meterWindow = s.meterWindow := rfl
@[simp] theorem State.modQueue_fru (v : Svc) (k : Cls) (f : WaitQueue → WaitQueue) :
    (s.modQueue v k f).fru = s.fru := rfl
@[simp] theorem State.modQueue_loader (v : Svc) (k : Cls) (f : WaitQueue → WaitQueue) :
    (s.modQueue v k f).loader = s.loader := rfl
@[simp] theorem State.modQueue_serial (v : Svc) (k : Cls) (f : WaitQueue → WaitQueue) :
    (s.modQueue v k f).serial = s.serial := rfl
@[simp] theorem State.modQueue_now (v : Svc) (k : Cls) (f : WaitQueue → WaitQueue) :
    (s.modQueue v k f).now = s.now := rfl
@[simp] theorem State.modQueue_freeUses (v : Svc) (k : Cls) (f : WaitQueue → WaitQueue) :
    (s.modQueue v k f).freeUses = s.freeUses := rfl

@[simp] theorem State.modRaiseOrder_pending (v : Svc) (k : Cls) (f : List Chan → List Chan) :
    (s.modRaiseOrder v k f).pending = s.pending := rfl
@[simp] theorem State.modRaiseOrder_pins (v : Svc) (k : Cls) (f : List Chan → List Chan) :
    (s.modRaiseOrder v k f).pins = s.pins := rfl
@[simp] theorem State.modRaiseOrder_ledger (v : Svc) (k : Cls) (f : List Chan → List Chan) :
    (s.modRaiseOrder v k f).ledger = s.ledger := rfl
@[simp] theorem State.modRaiseOrder_liu (v : Svc) (k : Cls) (f : List Chan → List Chan) :
    (s.modRaiseOrder v k f).liu = s.liu := rfl
@[simp] theorem State.modRaiseOrder_memb (v : Svc) (k : Cls) (f : List Chan → List Chan) :
    (s.modRaiseOrder v k f).memb = s.memb := rfl
@[simp] theorem State.modRaiseOrder_hold (v : Svc) (k : Cls) (f : List Chan → List Chan) :
    (s.modRaiseOrder v k f).hold = s.hold := rfl
@[simp] theorem State.modRaiseOrder_outlets (v : Svc) (k : Cls) (f : List Chan → List Chan) :
    (s.modRaiseOrder v k f).outlets = s.outlets := rfl
@[simp] theorem State.modRaiseOrder_app (v : Svc) (k : Cls) (f : List Chan → List Chan) :
    (s.modRaiseOrder v k f).app = { s.app with raiseOrder := s.app.raiseOrder.set v k (f (s.app.raiseOrder.get v k)) } := rfl
@[simp] theorem State.modRaiseOrder_stages (v : Svc) (k : Cls) (f : List Chan → List Chan) :
    (s.modRaiseOrder v k f).stages = s.stages := rfl
@[simp] theorem State.modRaiseOrder_supply (v : Svc) (k : Cls) (f : List Chan → List Chan) :
    (s.modRaiseOrder v k f).supply = s.supply := rfl
@[simp] theorem State.modRaiseOrder_meterWindow (v : Svc) (k : Cls) (f : List Chan → List Chan) :
    (s.modRaiseOrder v k f).meterWindow = s.meterWindow := rfl
@[simp] theorem State.modRaiseOrder_fru (v : Svc) (k : Cls) (f : List Chan → List Chan) :
    (s.modRaiseOrder v k f).fru = s.fru := rfl
@[simp] theorem State.modRaiseOrder_loader (v : Svc) (k : Cls) (f : List Chan → List Chan) :
    (s.modRaiseOrder v k f).loader = s.loader := rfl
@[simp] theorem State.modRaiseOrder_serial (v : Svc) (k : Cls) (f : List Chan → List Chan) :
    (s.modRaiseOrder v k f).serial = s.serial := rfl
@[simp] theorem State.modRaiseOrder_now (v : Svc) (k : Cls) (f : List Chan → List Chan) :
    (s.modRaiseOrder v k f).now = s.now := rfl
@[simp] theorem State.modRaiseOrder_freeUses (v : Svc) (k : Cls) (f : List Chan → List Chan) :
    (s.modRaiseOrder v k f).freeUses = s.freeUses := rfl

@[simp] theorem State.modStartOrder_pending (v : Svc) (k : Cls) (f : List Chan → List Chan) :
    (s.modStartOrder v k f).pending = s.pending := rfl
@[simp] theorem State.modStartOrder_pins (v : Svc) (k : Cls) (f : List Chan → List Chan) :
    (s.modStartOrder v k f).pins = s.pins := rfl
@[simp] theorem State.modStartOrder_ledger (v : Svc) (k : Cls) (f : List Chan → List Chan) :
    (s.modStartOrder v k f).ledger = s.ledger := rfl
@[simp] theorem State.modStartOrder_liu (v : Svc) (k : Cls) (f : List Chan → List Chan) :
    (s.modStartOrder v k f).liu = s.liu := rfl
@[simp] theorem State.modStartOrder_memb (v : Svc) (k : Cls) (f : List Chan → List Chan) :
    (s.modStartOrder v k f).memb = s.memb := rfl
@[simp] theorem State.modStartOrder_hold (v : Svc) (k : Cls) (f : List Chan → List Chan) :
    (s.modStartOrder v k f).hold = s.hold := rfl
@[simp] theorem State.modStartOrder_outlets (v : Svc) (k : Cls) (f : List Chan → List Chan) :
    (s.modStartOrder v k f).outlets = s.outlets := rfl
@[simp] theorem State.modStartOrder_app (v : Svc) (k : Cls) (f : List Chan → List Chan) :
    (s.modStartOrder v k f).app = { s.app with startOrder := s.app.startOrder.set v k (f (s.app.startOrder.get v k)) } := rfl
@[simp] theorem State.modStartOrder_stages (v : Svc) (k : Cls) (f : List Chan → List Chan) :
    (s.modStartOrder v k f).stages = s.stages := rfl
@[simp] theorem State.modStartOrder_supply (v : Svc) (k : Cls) (f : List Chan → List Chan) :
    (s.modStartOrder v k f).supply = s.supply := rfl
@[simp] theorem State.modStartOrder_meterWindow (v : Svc) (k : Cls) (f : List Chan → List Chan) :
    (s.modStartOrder v k f).meterWindow = s.meterWindow := rfl
@[simp] theorem State.modStartOrder_fru (v : Svc) (k : Cls) (f : List Chan → List Chan) :
    (s.modStartOrder v k f).fru = s.fru := rfl
@[simp] theorem State.modStartOrder_loader (v : Svc) (k : Cls) (f : List Chan → List Chan) :
    (s.modStartOrder v k f).loader = s.loader := rfl
@[simp] theorem State.modStartOrder_serial (v : Svc) (k : Cls) (f : List Chan → List Chan) :
    (s.modStartOrder v k f).serial = s.serial := rfl
@[simp] theorem State.modStartOrder_now (v : Svc) (k : Cls) (f : List Chan → List Chan) :
    (s.modStartOrder v k f).now = s.now := rfl
@[simp] theorem State.modStartOrder_freeUses (v : Svc) (k : Cls) (f : List Chan → List Chan) :
    (s.modStartOrder v k f).freeUses = s.freeUses := rfl

@[simp] theorem State.markPass_pending (v : Svc) (k : Cls) : (s.markPass v k).pending = s.pending := rfl
@[simp] theorem State.markPass_pins (v : Svc) (k : Cls) : (s.markPass v k).pins = s.pins := rfl
@[simp] theorem State.markPass_ledger (v : Svc) (k : Cls) : (s.markPass v k).ledger = s.ledger := rfl
@[simp] theorem State.markPass_liu (v : Svc) (k : Cls) : (s.markPass v k).liu = s.liu := rfl
@[simp] theorem State.markPass_memb (v : Svc) (k : Cls) : (s.markPass v k).memb = s.memb := rfl
@[simp] theorem State.markPass_hold (v : Svc) (k : Cls) : (s.markPass v k).hold = s.hold := rfl
@[simp] theorem State.markPass_outlets (v : Svc) (k : Cls) : (s.markPass v k).outlets = s.outlets := rfl
@[simp] theorem State.markPass_app (v : Svc) (k : Cls) :
    (s.markPass v k).app = { s.app with passDue := s.app.passDue.set v k true } := rfl
@[simp] theorem State.markPass_stages (v : Svc) (k : Cls) : (s.markPass v k).stages = s.stages := rfl
@[simp] theorem State.markPass_supply (v : Svc) (k : Cls) : (s.markPass v k).supply = s.supply := rfl
@[simp] theorem State.markPass_meterWindow (v : Svc) (k : Cls) : (s.markPass v k).meterWindow = s.meterWindow := rfl
@[simp] theorem State.markPass_fru (v : Svc) (k : Cls) : (s.markPass v k).fru = s.fru := rfl
@[simp] theorem State.markPass_loader (v : Svc) (k : Cls) : (s.markPass v k).loader = s.loader := rfl
@[simp] theorem State.markPass_serial (v : Svc) (k : Cls) : (s.markPass v k).serial = s.serial := rfl
@[simp] theorem State.markPass_now (v : Svc) (k : Cls) : (s.markPass v k).now = s.now := rfl
@[simp] theorem State.markPass_freeUses (v : Svc) (k : Cls) : (s.markPass v k).freeUses = s.freeUses := rfl

@[simp] theorem State.clearPass_pending (v : Svc) (k : Cls) : (s.clearPass v k).pending = s.pending := rfl
@[simp] theorem State.clearPass_pins (v : Svc) (k : Cls) : (s.clearPass v k).pins = s.pins := rfl
@[simp] theorem State.clearPass_ledger (v : Svc) (k : Cls) : (s.clearPass v k).ledger = s.ledger := rfl
@[simp] theorem State.clearPass_liu (v : Svc) (k : Cls) : (s.clearPass v k).liu = s.liu := rfl
@[simp] theorem State.clearPass_memb (v : Svc) (k : Cls) : (s.clearPass v k).memb = s.memb := rfl
@[simp] theorem State.clearPass_hold (v : Svc) (k : Cls) : (s.clearPass v k).hold = s.hold := rfl
@[simp] theorem State.clearPass_outlets (v : Svc) (k : Cls) : (s.clearPass v k).outlets = s.outlets := rfl
@[simp] theorem State.clearPass_app (v : Svc) (k : Cls) :
    (s.clearPass v k).app = { s.app with passDue := s.app.passDue.set v k false } := rfl
@[simp] theorem State.clearPass_stages (v : Svc) (k : Cls) : (s.clearPass v k).stages = s.stages := rfl
@[simp] theorem State.clearPass_supply (v : Svc) (k : Cls) : (s.clearPass v k).supply = s.supply := rfl
@[simp] theorem State.clearPass_meterWindow (v : Svc) (k : Cls) : (s.clearPass v k).meterWindow = s.meterWindow := rfl
@[simp] theorem State.clearPass_fru (v : Svc) (k : Cls) : (s.clearPass v k).fru = s.fru := rfl
@[simp] theorem State.clearPass_loader (v : Svc) (k : Cls) : (s.clearPass v k).loader = s.loader := rfl
@[simp] theorem State.clearPass_serial (v : Svc) (k : Cls) : (s.clearPass v k).serial = s.serial := rfl
@[simp] theorem State.clearPass_now (v : Svc) (k : Cls) : (s.clearPass v k).now = s.now := rfl
@[simp] theorem State.clearPass_freeUses (v : Svc) (k : Cls) : (s.clearPass v k).freeUses = s.freeUses := rfl

@[simp] theorem State.setFlag_pending (g : Flag) : (s.setFlag g).pending = s.pending := rfl
@[simp] theorem State.setFlag_pins (g : Flag) : (s.setFlag g).pins = s.pins := rfl
@[simp] theorem State.setFlag_ledger (g : Flag) : (s.setFlag g).ledger = s.ledger := rfl
@[simp] theorem State.setFlag_liu (g : Flag) : (s.setFlag g).liu = s.liu := rfl
@[simp] theorem State.setFlag_memb (g : Flag) : (s.setFlag g).memb = s.memb := rfl
@[simp] theorem State.setFlag_hold (g : Flag) : (s.setFlag g).hold = s.hold := rfl
@[simp] theorem State.setFlag_outlets (g : Flag) : (s.setFlag g).outlets = s.outlets := rfl
@[simp] theorem State.setFlag_app (g : Flag) : (s.setFlag g).app = s.app := rfl
@[simp] theorem State.setFlag_stages (g : Flag) : (s.setFlag g).stages = s.stages := rfl
@[simp] theorem State.setFlag_supply (g : Flag) : (s.setFlag g).supply = s.supply := rfl
@[simp] theorem State.setFlag_meterWindow (g : Flag) : (s.setFlag g).meterWindow = s.meterWindow := rfl
@[simp] theorem State.setFlag_fru (g : Flag) :
    (s.setFlag g).fru = { s.fru with flags := s.fru.flags ||| g.bit } := rfl
@[simp] theorem State.setFlag_loader (g : Flag) : (s.setFlag g).loader = s.loader := rfl
@[simp] theorem State.setFlag_serial (g : Flag) : (s.setFlag g).serial = s.serial := rfl
@[simp] theorem State.setFlag_now (g : Flag) : (s.setFlag g).now = s.now := rfl
@[simp] theorem State.setFlag_freeUses (g : Flag) : (s.setFlag g).freeUses = s.freeUses := rfl

@[simp] theorem State.clearFlagMask_pending (m : BitVec 9) : (s.clearFlagMask m).pending = s.pending := rfl
@[simp] theorem State.clearFlagMask_pins (m : BitVec 9) : (s.clearFlagMask m).pins = s.pins := rfl
@[simp] theorem State.clearFlagMask_ledger (m : BitVec 9) : (s.clearFlagMask m).ledger = s.ledger := rfl
@[simp] theorem State.clearFlagMask_liu (m : BitVec 9) : (s.clearFlagMask m).liu = s.liu := rfl
@[simp] theorem State.clearFlagMask_memb (m : BitVec 9) : (s.clearFlagMask m).memb = s.memb := rfl
@[simp] theorem State.clearFlagMask_hold (m : BitVec 9) : (s.clearFlagMask m).hold = s.hold := rfl
@[simp] theorem State.clearFlagMask_outlets (m : BitVec 9) : (s.clearFlagMask m).outlets = s.outlets := rfl
@[simp] theorem State.clearFlagMask_app (m : BitVec 9) : (s.clearFlagMask m).app = s.app := rfl
@[simp] theorem State.clearFlagMask_stages (m : BitVec 9) : (s.clearFlagMask m).stages = s.stages := rfl
@[simp] theorem State.clearFlagMask_supply (m : BitVec 9) : (s.clearFlagMask m).supply = s.supply := rfl
@[simp] theorem State.clearFlagMask_meterWindow (m : BitVec 9) :
    (s.clearFlagMask m).meterWindow = s.meterWindow := rfl
@[simp] theorem State.clearFlagMask_fru (m : BitVec 9) :
    (s.clearFlagMask m).fru = { s.fru with flags := s.fru.flags &&& ~~~m } := rfl
@[simp] theorem State.clearFlagMask_loader (m : BitVec 9) : (s.clearFlagMask m).loader = s.loader := rfl
@[simp] theorem State.clearFlagMask_serial (m : BitVec 9) : (s.clearFlagMask m).serial = s.serial := rfl
@[simp] theorem State.clearFlagMask_now (m : BitVec 9) : (s.clearFlagMask m).now = s.now := rfl
@[simp] theorem State.clearFlagMask_freeUses (m : BitVec 9) : (s.clearFlagMask m).freeUses = s.freeUses := rfl

@[simp] theorem State.modCounters_pending (f : Counters → Counters) : (s.modCounters f).pending = s.pending := rfl
@[simp] theorem State.modCounters_pins (f : Counters → Counters) : (s.modCounters f).pins = s.pins := rfl
@[simp] theorem State.modCounters_ledger (f : Counters → Counters) : (s.modCounters f).ledger = s.ledger := rfl
@[simp] theorem State.modCounters_liu (f : Counters → Counters) : (s.modCounters f).liu = s.liu := rfl
@[simp] theorem State.modCounters_memb (f : Counters → Counters) : (s.modCounters f).memb = s.memb := rfl
@[simp] theorem State.modCounters_hold (f : Counters → Counters) : (s.modCounters f).hold = s.hold := rfl
@[simp] theorem State.modCounters_outlets (f : Counters → Counters) : (s.modCounters f).outlets = s.outlets := rfl
@[simp] theorem State.modCounters_app (f : Counters → Counters) : (s.modCounters f).app = s.app := rfl
@[simp] theorem State.modCounters_stages (f : Counters → Counters) : (s.modCounters f).stages = s.stages := rfl
@[simp] theorem State.modCounters_supply (f : Counters → Counters) : (s.modCounters f).supply = s.supply := rfl
@[simp] theorem State.modCounters_meterWindow (f : Counters → Counters) :
    (s.modCounters f).meterWindow = s.meterWindow := rfl
@[simp] theorem State.modCounters_fru (f : Counters → Counters) :
    (s.modCounters f).fru = { s.fru with counters := f s.fru.counters } := rfl
@[simp] theorem State.modCounters_loader (f : Counters → Counters) : (s.modCounters f).loader = s.loader := rfl
@[simp] theorem State.modCounters_serial (f : Counters → Counters) : (s.modCounters f).serial = s.serial := rfl
@[simp] theorem State.modCounters_now (f : Counters → Counters) : (s.modCounters f).now = s.now := rfl
@[simp] theorem State.modCounters_freeUses (f : Counters → Counters) : (s.modCounters f).freeUses = s.freeUses := rfl

@[simp] theorem State.observe_pending : (s.observe).pending = s.pending := rfl
@[simp] theorem State.observe_pins : (s.observe).pins = s.pins := rfl
@[simp] theorem State.observe_ledger : (s.observe).ledger = s.ledger := rfl
@[simp] theorem State.observe_liu : (s.observe).liu = s.liu := rfl
@[simp] theorem State.observe_memb : (s.observe).memb = s.memb := rfl
@[simp] theorem State.observe_hold : (s.observe).hold = s.hold := rfl
@[simp] theorem State.observe_outlets :
    (s.observe).outlets = mapAt (fun ch o => if (s.outletCfg? ch).isSome then o.observe else o) s.outlets := rfl
@[simp] theorem State.observe_app : (s.observe).app = s.app := rfl
@[simp] theorem State.observe_stages : (s.observe).stages = s.stages := rfl
@[simp] theorem State.observe_supply : (s.observe).supply = s.supply := rfl
@[simp] theorem State.observe_meterWindow : (s.observe).meterWindow = s.meterWindow := rfl
@[simp] theorem State.observe_fru : (s.observe).fru = s.fru := rfl
@[simp] theorem State.observe_loader : (s.observe).loader = s.loader := rfl
@[simp] theorem State.observe_serial : (s.observe).serial = s.serial := rfl
@[simp] theorem State.observe_now : (s.observe).now = s.now := rfl
@[simp] theorem State.observe_freeUses : (s.observe).freeUses = s.freeUses := rfl

@[simp] theorem State.reply_pending (r : Reply) : (s.reply r).pending = s.pending := rfl
@[simp] theorem State.reply_pins (r : Reply) : (s.reply r).pins = s.pins := rfl
@[simp] theorem State.reply_ledger (r : Reply) : (s.reply r).ledger = s.ledger := rfl
@[simp] theorem State.reply_liu (r : Reply) : (s.reply r).liu = s.liu := rfl
@[simp] theorem State.reply_memb (r : Reply) : (s.reply r).memb = s.memb := rfl
@[simp] theorem State.reply_hold (r : Reply) : (s.reply r).hold = s.hold := rfl
@[simp] theorem State.reply_outlets (r : Reply) : (s.reply r).outlets = s.outlets := rfl
@[simp] theorem State.reply_app (r : Reply) : (s.reply r).app = s.app := rfl
@[simp] theorem State.reply_stages (r : Reply) : (s.reply r).stages = s.stages := rfl
@[simp] theorem State.reply_supply (r : Reply) : (s.reply r).supply = s.supply := rfl
@[simp] theorem State.reply_meterWindow (r : Reply) : (s.reply r).meterWindow = s.meterWindow := rfl
@[simp] theorem State.reply_fru (r : Reply) : (s.reply r).fru = s.fru := rfl
@[simp] theorem State.reply_loader (r : Reply) : (s.reply r).loader = s.loader := rfl
@[simp] theorem State.reply_serial (r : Reply) :
    (s.reply r).serial = { s.serial with replies := s.serial.replies ++ [r] } := rfl
@[simp] theorem State.reply_now (r : Reply) : (s.reply r).now = s.now := rfl
@[simp] theorem State.reply_freeUses (r : Reply) : (s.reply r).freeUses = s.freeUses := rfl

@[simp] theorem State.answer_pending (st : Status) (d : List Byte) : (s.answer st d).pending = s.pending := rfl
@[simp] theorem State.answer_pins (st : Status) (d : List Byte) : (s.answer st d).pins = s.pins := rfl
@[simp] theorem State.answer_ledger (st : Status) (d : List Byte) : (s.answer st d).ledger = s.ledger := rfl
@[simp] theorem State.answer_liu (st : Status) (d : List Byte) : (s.answer st d).liu = s.liu := rfl
@[simp] theorem State.answer_memb (st : Status) (d : List Byte) : (s.answer st d).memb = s.memb := rfl
@[simp] theorem State.answer_hold (st : Status) (d : List Byte) : (s.answer st d).hold = s.hold := rfl
@[simp] theorem State.answer_outlets (st : Status) (d : List Byte) : (s.answer st d).outlets = s.outlets := rfl
@[simp] theorem State.answer_app (st : Status) (d : List Byte) : (s.answer st d).app = s.app := rfl
@[simp] theorem State.answer_stages (st : Status) (d : List Byte) : (s.answer st d).stages = s.stages := rfl
@[simp] theorem State.answer_supply (st : Status) (d : List Byte) : (s.answer st d).supply = s.supply := rfl
@[simp] theorem State.answer_meterWindow (st : Status) (d : List Byte) :
    (s.answer st d).meterWindow = s.meterWindow := rfl
@[simp] theorem State.answer_fru (st : Status) (d : List Byte) : (s.answer st d).fru = s.fru := rfl
@[simp] theorem State.answer_loader (st : Status) (d : List Byte) : (s.answer st d).loader = s.loader := rfl
@[simp] theorem State.answer_serial (st : Status) (d : List Byte) :
    (s.answer st d).serial = { s.serial with busy := true, replies := s.serial.replies ++ [⟨st, d, true⟩] } := rfl
@[simp] theorem State.answer_now (st : Status) (d : List Byte) : (s.answer st d).now = s.now := rfl
@[simp] theorem State.answer_freeUses (st : Status) (d : List Byte) : (s.answer st d).freeUses = s.freeUses := rfl

@[simp] theorem State.fullReset_pending : s.fullReset.pending = s.pending := rfl
@[simp] theorem State.fullReset_pins : s.fullReset.pins = s.pins := rfl
@[simp] theorem State.fullReset_ledger : s.fullReset.ledger = State.reset.ledger := rfl
@[simp] theorem State.fullReset_liu : s.fullReset.liu = State.reset.liu := rfl
@[simp] theorem State.fullReset_memb : s.fullReset.memb = State.reset.memb := rfl
@[simp] theorem State.fullReset_hold : s.fullReset.hold = State.reset.hold := rfl
@[simp] theorem State.fullReset_outlets : s.fullReset.outlets = State.reset.outlets := rfl
@[simp] theorem State.fullReset_app : s.fullReset.app = State.reset.app := rfl
@[simp] theorem State.fullReset_stages : s.fullReset.stages = State.reset.stages := rfl
@[simp] theorem State.fullReset_supply : s.fullReset.supply = State.reset.supply := rfl
@[simp] theorem State.fullReset_meterWindow : s.fullReset.meterWindow = State.reset.meterWindow := rfl
@[simp] theorem State.fullReset_fru : s.fullReset.fru = State.reset.fru := rfl
@[simp] theorem State.fullReset_loader : s.fullReset.loader = Loader.initial (!s.pins.reset) := rfl
@[simp] theorem State.fullReset_serial : s.fullReset.serial = State.reset.serial := rfl
@[simp] theorem State.fullReset_now : s.fullReset.now = s.now := rfl
@[simp] theorem State.fullReset_freeUses : s.fullReset.freeUses = s.freeUses := rfl

@[simp] theorem State.turnLine_pending : s.turnLine.pending = s.pending := rfl
@[simp] theorem State.turnLine_pins : s.turnLine.pins = s.pins := rfl
@[simp] theorem State.turnLine_ledger : s.turnLine.ledger = s.ledger := rfl
@[simp] theorem State.turnLine_liu : s.turnLine.liu = { s.liu with turns := s.liu.turns + 1 } := rfl
@[simp] theorem State.turnLine_memb : s.turnLine.memb = s.memb := rfl
@[simp] theorem State.turnLine_hold : s.turnLine.hold = s.hold := rfl
@[simp] theorem State.turnLine_outlets : s.turnLine.outlets = s.outlets := rfl
@[simp] theorem State.turnLine_app : s.turnLine.app = s.app := rfl
@[simp] theorem State.turnLine_stages : s.turnLine.stages = s.stages := rfl
@[simp] theorem State.turnLine_supply : s.turnLine.supply = s.supply := rfl
@[simp] theorem State.turnLine_meterWindow : s.turnLine.meterWindow = s.meterWindow := rfl
@[simp] theorem State.turnLine_fru : s.turnLine.fru = s.fru := rfl
@[simp] theorem State.turnLine_loader : s.turnLine.loader = s.loader := rfl
@[simp] theorem State.turnLine_serial : s.turnLine.serial = s.serial := rfl
@[simp] theorem State.turnLine_now : s.turnLine.now = s.now := rfl
@[simp] theorem State.turnLine_freeUses : s.turnLine.freeUses = s.freeUses := rfl

/-- A frame that no change of participation overtook is heard by a station that takes part in the line (R38). -/
@[simp] theorem State.heard_zero : s.heard 0 = s.onLine := by simp [State.heard, State.onLine]

/-- A frame that a change overtook is heard only by a station that takes part now, or by one whose withdrawal has ended (R38). -/
theorem State.heard_imp {n : Nat} (h : s.heard n = true) :
    s.pins.reset = false ∧ n ≤ s.liu.turns ∧ (s.participates = true ∨ s.station = .halted true) := by
  simp only [State.heard, Bool.and_eq_true, decide_eq_true_eq, Bool.not_eq_true'] at h
  refine ⟨h.1.1.1, h.1.2, ?_⟩
  by_cases e : n % 2 = 0
  · left; simpa [e] using h.2
  · right; simpa [e] using h.2

end Sys2Proof.Machine
end

