-- ==== Sys2Proof/Laws/Still.lean ====
section
/-! SUPPORT. The standing reactions leave `State.still` alone: one lemma per operation, from the updates of a record up to the
phases of an event. Outside a full reset nothing a block does by itself reaches what `State.still` holds. -/

namespace Sys2Proof.Machine

variable (s : State)

/-! ### The updates of a record -/

theorem State.modOutlet_still {ch : Chan} {f : Outlet → Outlet} (h : (f (s.outlet ch)).still = (s.outlet ch).still) :
    (s.modOutlet ch f).still = s.still := by
  simp only [State.still, State.modOutlet, modifyAt_map Outlet.still ch f s.outlets h]

@[simp] theorem State.modStage_still (ch : Chan) (f : Stage → Stage) : (s.modStage ch f).still = s.still := rfl
@[simp] theorem State.modSupply_still (v : Svc) (f : Supply → Supply) : (s.modSupply v f).still = s.still := rfl
@[simp] theorem State.modHold_still (v : Svc) (f : ServiceHold → ServiceHold) : (s.modHold v f).still = s.still := rfl
@[simp] theorem State.modClass_still (v : Svc) (k : Cls) (f : ClassHold → ClassHold) :
    (s.modClass v k f).still = s.still := rfl
@[simp] theorem State.modMemb_still (f : Membership → Membership) : (s.modMemb f).still = s.still := rfl
@[simp] theorem State.modTxQueue_still (f : TxQueue → TxQueue) : (s.modTxQueue f).still = s.still := rfl
@[simp] theorem State.modQueue_still (v : Svc) (k : Cls) (f : WaitQueue → WaitQueue) :
    (s.modQueue v k f).still = s.still := rfl
@[simp] theorem State.modRaiseOrder_still (v : Svc) (k : Cls) (f : List Chan → List Chan) :
    (s.modRaiseOrder v k f).still = s.still := rfl
@[simp] theorem State.modStartOrder_still (v : Svc) (k : Cls) (f : List Chan → List Chan) :
    (s.modStartOrder v k f).still = s.still := rfl
@[simp] theorem State.markPass_still (v : Svc) (k : Cls) : (s.markPass v k).still = s.still := rfl
@[simp] theorem State.clearPass_still (v : Svc) (k : Cls) : (s.clearPass v k).still = s.still := rfl
@[simp] theorem State.countPulseMissed_still : s.countPulseMissed.still = s.still := rfl

theorem State.modLiu_still {f : Liu → Liu} (hs : (f s.liu).seqCounter = s.liu.seqCounter) (hm : (f s.liu).mark = s.liu.mark)
    (ht : (f s.liu).tx.map TxFrame.still = s.liu.tx.map TxFrame.still) : (s.modLiu f).still = s.still := by
  simp only [State.still, State.modLiu, hs, hm, ht]

theorem State.modLedger_still {f : Ledger → Ledger} (h : (f s.ledger).copy = s.ledger.copy) :
    (s.modLedger f).still = s.still := by
  simp only [State.still, State.modLedger, h]

theorem State.modApp_still {f : Apportioner → Apportioner} (h : (f s.app).guard = s.app.guard) :
    (s.modApp f).still = s.still := by
  simp only [State.still, State.modApp, h]

theorem State.forEach_still {α : Type} (l : List α) (f : α → State → State) (h : ∀ a t, (f a t).still = t.still) :
    (forEach l f s).still = s.still := forEach_keeps State.still l f h s

theorem State.setFlag_still {f : Flag} (h : f.bit &&& ~~~reactionFlags = 0) : (s.setFlag f).still = s.still := by
  have e : (s.fru.flags ||| f.bit) &&& ~~~reactionFlags = s.fru.flags &&& ~~~reactionFlags := by
    rw [BitVec.and_comm, BitVec.and_or_distrib_left, BitVec.and_comm (~~~reactionFlags) f.bit, h]
    simp [BitVec.and_comm]
  simp only [State.still, State.setFlag, State.modFru, e]

@[simp] theorem State.setOrphaned_still : (s.setFlag .orphaned).still = s.still := State.setFlag_still s (by decide)

@[simp] theorem State.setShedShort_still : (s.setFlag .shedShort).still = s.still := State.setFlag_still s (by decide)

/-! ### Grants, queues and passes -/

@[simp] theorem State.markPassOf_still (ch : Chan) : (s.markPassOf ch).still = s.still := by
  unfold State.markPassOf; split <;> rfl

@[simp] theorem State.leaveStartOrder_still (ch : Chan) : (s.leaveStartOrder ch).still = s.still := by
  unfold State.leaveStartOrder; split <;> rfl

@[simp] theorem State.enterStartOrder_still (ch : Chan) : (s.enterStartOrder ch).still = s.still := by
  unfold State.enterStartOrder; split <;> rfl

theorem Outlet.settlePulse_still (m : ModulatingCfg) (o : Outlet) : (o.settlePulse m).still = o.still := by
  unfold Outlet.settlePulse; repeat' split
  all_goals rfl

theorem Outlet.settleRun_still (b : BatchCfg) (o : Outlet) : (o.settleRun b).still = o.still := by
  unfold Outlet.settleRun
  split
  · next h =>
    dsimp only
    split
    · simp [Outlet.still, h.1]
    · split <;> simp [Outlet.still, Outlet.beginRun, h.1]
  · rfl

theorem OutletCfg.settleState_still (c : OutletCfg) (o : Outlet) : (OutletCfg.settleState c o.settleRecord).still = o.still := by
  unfold OutletCfg.settleState; split
  · exact Outlet.settlePulse_still _ _
  · exact Outlet.settleRun_still _ _
  · rfl

@[simp] theorem State.settleValve_still (ch : Chan) : (s.settleValve ch).still = s.still := by
  unfold State.settleValve
  split
  · dsimp only
    split
    · exact State.modOutlet_still s (OutletCfg.settleState_still _ _)
    · exact State.modOutlet_still s (OutletCfg.settleState_still _ _)
  · rfl

@[simp] theorem State.setGrant_still (ch : Chan) (g : Nat) : (s.setGrant ch g).still = s.still := by
  unfold State.setGrant
  split
  · dsimp only
    split
    · rfl
    · next c _ _ =>
      have h1 : ∀ t : State, ((if t.rotating then
          t.modRaiseOrder c.svc c.cls (raiseOrderAfter ch (s.outlet ch).grant g) else t).still = t.still) := by
        intro t; split <;> rfl
      generalize hr : (if s.rotating then
          s.modRaiseOrder c.svc c.cls (raiseOrderAfter ch (s.outlet ch).grant g) else s) = r
      have hr' : r.still = s.still := hr ▸ h1 s
      generalize hq : (if g < (s.outlet ch).grant then r.markPass c.svc c.cls else r) = q
      have hq' : q.still = s.still := by rw [← hr', ← hq]; split <;> rfl
      split
      · split
        · exact (State.settleValve_still _ ch).trans ((State.modOutlet_still q rfl).trans hq')
        · exact (State.modOutlet_still q rfl).trans hq'
      · exact (State.modOutlet_still q rfl).trans hq'
  · rfl

@[simp] theorem State.requeue_still (v : Svc) (k : Cls) : (s.requeue v k).still = s.still := by
  unfold State.requeue; dsimp only; split <;> rfl

@[simp] theorem State.requeueAll_still : s.requeueAll.still = s.still :=
  State.forEach_still s _ _ fun _ t => State.requeue_still t _ _

@[simp] theorem State.leaveQueue_still (ch : Chan) : (s.leaveQueue ch).still = s.still := by
  unfold State.leaveQueue; split <;> rfl

@[simp] theorem State.cutPulse_still (ch : Chan) : (s.cutPulse ch).still = s.still := by
  unfold State.cutPulse
  rw [State.countPulseMissed_still, State.setGrant_still]
  exact State.modOutlet_still s rfl

theorem State.suspendRun_still {ch : Chan} (h : (s.outlet ch).state = .running) : (s.suspendRun ch).still = s.still := by
  unfold State.suspendRun
  split
  · rw [State.leaveStartOrder_still, State.setGrant_still]
    exact State.modOutlet_still s (by simp [Outlet.still, Outlet.discardRun, h])
  · rw [State.setGrant_still]
    exact State.modOutlet_still s (by simp [Outlet.still, h])

@[simp] theorem cutPulseStep_still (v : Svc) (k : Cls) (ch : Chan) : (cutPulseStep v k ch s).still = s.still := by
  unfold cutPulseStep; split
  · exact State.cutPulse_still s ch
  · rfl

@[simp] theorem trimStep_still (v : Svc) (k : Cls) (ch : Chan) : (trimStep v k ch s).still = s.still := by
  unfold trimStep; split
  · split
    · exact State.setGrant_still s ch _
    · rfl
  · rfl

@[simp] theorem closeStep_still (v : Svc) (k : Cls) (ch : Chan) : (closeStep v k ch s).still = s.still := by
  unfold closeStep; split
  · exact State.setGrant_still s ch _
  · rfl

@[simp] theorem cutRunStep_still (v : Svc) (k : Cls) (ch : Chan) : (cutRunStep v k ch s).still = s.still := by
  unfold cutRunStep; split
  · next h =>
    simp only [Bool.and_eq_true, beq_iff_eq] at h
    exact State.suspendRun_still s h.2
  · rfl

@[simp] theorem State.keepCut_still (v : Svc) (k : Cls) : (s.keepCut v k).still = s.still := by
  unfold State.keepCut
  dsimp only
  rw [State.requeue_still, State.forEach_still _ _ _ fun a t => cutRunStep_still t v k a,
    State.forEach_still _ _ _ fun a t => closeStep_still t v k a,
    State.forEach_still _ _ _ fun a t => trimStep_still t v k a,
    State.forEach_still _ _ _ fun a t => cutPulseStep_still t v k a]

@[simp] theorem zeroOutlet_still (ch : Chan) : (zeroOutlet ch s).still = s.still := by
  unfold zeroOutlet; dsimp only; split
  · exact State.cutPulse_still s ch
  · exact State.cutPulse_still s ch
  · rw [State.setGrant_still]; exact State.modOutlet_still s rfl
  · split
    · next h => exact State.suspendRun_still s h
    · exact State.setGrant_still s ch 0
  · split
    · next h => exact State.suspendRun_still s h
    · exact State.setGrant_still s ch 0

@[simp] theorem State.zeroAll_still : s.zeroAll.still = s.still := by
  have h := (State.requeueAll_still _).trans (State.forEach_still s channels zeroOutlet fun a t => zeroOutlet_still t a)
  unfold State.zeroAll
  revert h
  generalize (forEach channels zeroOutlet s).requeueAll = u
  exact fun h => (State.modApp_still u rfl).trans h

@[simp] theorem State.raiseWhole_still (ch : Chan) : (s.raiseWhole ch).still = s.still := by
  unfold State.raiseWhole
  dsimp only
  rw [State.setGrant_still]
  split
  · next h => rw [State.enterStartOrder_still]; exact State.modOutlet_still s (by simp [Outlet.still, h])
  · next h => exact State.modOutlet_still s (by simp [Outlet.still, h])
  · exact State.modOutlet_still s rfl
  all_goals rfl

@[simp] theorem State.replace_still (v : Svc) (k : Cls) (ch : Chan) : (s.replace v k ch).still = s.still := by
  unfold State.replace; split
  · split <;> rfl
  · rfl

theorem passMember_still (v : Svc) (k : Cls) (st : State × Option Chan) (ch : Chan) :
    (passMember v k st ch).1.still = st.1.still := by
  unfold passMember
  split
  · rfl
  · dsimp only
    split
    · split
      · simp
      · rfl
    · split
      · simp
      · split <;> rfl
    · rfl

@[simp] theorem State.servicePass_still (v : Svc) (k : Cls) : (s.servicePass v k).still = s.still := by
  have h : ∀ (l : List Chan) (st : State × Option Chan), (l.foldl (passMember v k) st).1.still = st.1.still := by
    intro l
    induction l with
    | nil => intro st; rfl
    | cons a rest ih => intro st; exact (ih _).trans (passMember_still v k st a)
  exact h (s.queue v k).members (s, none)

/-! ### Outlets -/

theorem Outlet.followLevel_still (o : Outlet) : o.followLevel.still = o.still := by
  unfold Outlet.followLevel
  split <;> (try split) <;> simp_all [Outlet.still]

theorem Outlet.followGroup_still (b : Bool) (o : Outlet) : (o.followGroup b).still = o.still := by
  unfold Outlet.followGroup
  split
  · split
    · rfl
    · split <;> rfl
  · split
    · next h _ => simp [Outlet.still, Outlet.wake, h]
    · rfl
  all_goals rfl

@[simp] theorem levelStep_still (ch : Chan) : (levelStep ch s).still = s.still := by
  unfold levelStep; split
  · split
    · exact State.modOutlet_still s (Outlet.followLevel_still _)
    · rfl
  · rfl

@[simp] theorem groupStep_still (ch : Chan) : (groupStep ch s).still = s.still := by
  unfold groupStep; split
  · split
    · split
      · exact State.modOutlet_still s (Outlet.followGroup_still _ _)
      · rfl
    · rfl
    · rfl
  · rfl

@[simp] theorem desiredStep_still (ch : Chan) : (desiredStep ch s).still = s.still := by
  unfold desiredStep; split
  · exact State.modOutlet_still s rfl
  · rfl

@[simp] theorem lowerStep_still (ch : Chan) : (lowerStep ch s).still = s.still := by
  unfold lowerStep; split
  · exact State.setGrant_still s ch _
  · rfl

@[simp] theorem State.outletPhase_still : s.outletPhase.still = s.still := by
  unfold State.outletPhase
  rw [State.requeueAll_still, State.forEach_still _ _ _ fun a t => lowerStep_still t a,
    State.forEach_still _ _ _ fun a t => desiredStep_still t a,
    State.forEach_still _ _ _ fun a t => groupStep_still t a,
    State.forEach_still _ _ _ fun a t => levelStep_still t a]

/-! ### The transmit queue and the station states -/

@[simp] theorem State.endTake_still (v : Svc) : (s.endTake v).still = s.still := rfl

@[simp] theorem State.prune_still (p : Prune) : (s.prune p).still = s.still := by
  unfold State.prune
  have h : (forEach services (fun v t => if (t.liu.queue.take.get v).isSome then t.endTake v else t) s).still = s.still :=
    State.forEach_still s _ _ fun v t => by split <;> rfl
  revert h
  generalize (forEach services (fun v t => if (t.liu.queue.take.get v).isSome then t.endTake v else t) s) = u
  intro h
  refine ((State.modTxQueue_still _ _).trans (State.modLiu_still u rfl rfl ?_)).trans h
  dsimp only
  cases u.liu.tx <;> rfl

@[simp] theorem State.clearLeaving_still : s.clearLeaving.still = s.still := rfl
@[simp] theorem State.clearHoldMarks_still : s.clearHoldMarks.still = s.still := rfl
@[simp] theorem State.stopSupplyTimers_still : s.stopSupplyTimers.still = s.still := rfl
@[simp] theorem State.enter_still (st : Station) : (s.enter st).still = s.still := rfl
@[simp] theorem State.setLeave_still (m : LeaveMark) : (s.setLeave m).still = s.still := rfl
@[simp] theorem State.placeHail_still : s.placeHail.still = s.still := rfl
@[simp] theorem State.placeKeep_still : s.placeKeep.still = s.still := rfl
@[simp] theorem State.placeLapse_still (n : Stn) (q : BitVec 8) : (s.placeLapse n q).still = s.still := rfl
@[simp] theorem State.placeGive_still (v : Svc) (k : Cls) (n : Nat) : (s.placeGive v k n).still = s.still := rfl
@[simp] theorem State.placeTake_still (v : Svc) (k : Cls) (n : Nat) : (s.placeTake v k n).still = s.still := rfl
@[simp] theorem State.placeWant_still (v : Svc) : (s.placeWant v).still = s.still := rfl
@[simp] theorem State.placeOffer_still (v : Svc) : (s.placeOffer v).still = s.still := rfl

@[simp] theorem State.endPause_still : s.endPause.still = s.still := by
  unfold State.endPause; split
  · exact State.modLiu_still s rfl rfl rfl
  · rfl

@[simp] theorem State.enterSyncing_still : s.enterSyncing.still = s.still := by
  have h := State.prune_still s .all
  unfold State.enterSyncing
  revert h
  generalize s.prune .all = u
  intro h
  rw [← h]; rfl

@[simp] theorem State.enterJoining_still : s.enterJoining.still = s.still := rfl

@[simp] theorem State.enterMember_still : s.enterMember.still = s.still :=
  State.forEach_still (s.enter .member) _ _ fun p t => by split <;> rfl

@[simp] theorem State.enterOrphan_still : s.enterOrphan.still = s.still := by
  have h := (State.zeroAll_still ((s.enter .orphan).setFlag .orphaned)).trans (State.setOrphaned_still (s.enter .orphan))
  unfold State.enterOrphan
  revert h
  generalize ((s.enter .orphan).setFlag .orphaned).zeroAll = u
  intro h
  have h2 := State.prune_still u .orphan
  dsimp only
  revert h2
  generalize u.prune .orphan = w
  intro h2
  exact h2.trans h

@[simp] theorem State.enterHalted_still : s.enterHalted.still = s.still := by
  have h := State.zeroAll_still (s.enter (.halted false))
  unfold State.enterHalted
  revert h
  generalize (s.enter (.halted false)).zeroAll = u
  intro h
  have h2 := State.prune_still u .halted
  dsimp only
  revert h2
  generalize u.prune .halted = w
  intro h2
  exact h2.trans h

@[simp] theorem State.turnLine_still : s.turnLine.still = s.still := rfl

theorem State.endWithdrawal_still (h : s.memb.leaveMark ≠ .restart) : s.endWithdrawal.still = s.still := by
  have e : (s.memb.leaveMark == .restart) = false := by simpa using h
  have h2 := (State.endPause_still (s.prune .all)).trans (State.prune_still s .all)
  unfold State.endWithdrawal
  simp only [e, Bool.false_eq_true, if_false]
  revert h2
  generalize (s.prune .all).endPause = u
  intro h2
  rw [State.turnLine_still, State.modLedger_still _ rfl, State.modMemb_still, State.clearLeaving_still, h2]

@[simp] theorem State.endOrphan_still : s.endOrphan.still = s.still := by
  unfold State.endOrphan; split
  · exact State.enterSyncing_still s
  · exact State.enterHalted_still s

/-! ### The phases of an event -/

@[simp] theorem State.contactPhase_still : s.contactPhase.still = s.still := by
  unfold State.contactPhase; split
  · exact State.enterOrphan_still s
  · rfl

@[simp] theorem State.presentKeep_still (v : Svc) (k : Cls) : (s.presentKeep v k).still = s.still := by
  unfold State.presentKeep; dsimp only; split <;> rfl

@[simp] theorem State.cutIfOver_still (v : Svc) (k : Cls) : (s.cutIfOver v k).still = s.still := by
  unfold State.cutIfOver; split
  · rw [State.presentKeep_still, State.keepCut_still]
  · rfl

@[simp] theorem State.passIfDue_still (v : Svc) (k : Cls) : (s.passIfDue v k).still = s.still := by
  unfold State.passIfDue; split
  · rw [State.servicePass_still, State.clearPass_still]
  · rfl

@[simp] theorem State.carry_still (v : Svc) (k : Cls) : (s.carry v k).still = s.still := by
  unfold State.carry; dsimp only; split <;> rfl

@[simp] theorem classStep_still (v : Svc) (k : Cls) : (classStep v k s).still = s.still := by
  simp [classStep]

@[simp] theorem giveStep_still (v : Svc) (k : Cls) : (giveStep v k s).still = s.still := by
  unfold giveStep; dsimp only; split <;> rfl

@[simp] theorem takeStep_still (v : Svc) : (takeStep v s).still = s.still := by
  unfold takeStep
  split
  · split
    · dsimp only; split <;> rfl
    · rfl
  · rfl

@[simp] theorem wantStep_still (v : Svc) : (wantStep v s).still = s.still := by
  unfold wantStep
  split
  · dsimp only; split <;> rfl
  · rfl

@[simp] theorem State.holdPhase_still : s.holdPhase.still = s.still := by
  unfold State.holdPhase
  dsimp only
  rw [State.forEach_still _ _ _ fun a t => wantStep_still t a,
    State.forEach_still _ _ _ fun a t => takeStep_still t a,
    State.forEach_still _ _ _ fun (a : Svc × Cls) t => giveStep_still t a.1 a.2,
    State.forEach_still _ _ reclaimStep fun _ _ => rfl,
    State.forEach_still _ _ keepPhase fun v t => State.forEach_still t _ _ fun k u => classStep_still u v k]

@[simp] theorem State.sparePhase_still : s.sparePhase.still = s.still :=
  State.forEach_still s _ (fun (p : Svc × Cls) => spareStep p.1 p.2) fun _ _ => rfl

@[simp] theorem State.callStage_still (ch : Chan) : (s.callStage ch).still = s.still := rfl

@[simp] theorem callStep_still (v : Svc) : (callStep v s).still = s.still := by
  unfold callStep; dsimp only; split
  · split <;> rfl
  · rfl

@[simp] theorem State.stagePhase_still : s.stagePhase.still = s.still := by
  unfold State.stagePhase
  split
  · dsimp only
    rw [State.forEach_still _ _ dropStep fun _ _ => rfl,
      State.forEach_still _ _ offerStep fun _ t => by unfold offerStep; split <;> rfl,
      State.forEach_still _ _ _ fun a t => callStep_still t a,
      State.forEach_still _ _ alwaysStep fun _ t => by unfold alwaysStep; split <;> rfl]
  · rfl

@[simp] theorem expiryStep_still (n : Stn) : (expiryStep n s).still = s.still := by
  unfold expiryStep; split
  · exact State.modLedger_still s rfl
  · rfl

@[simp] theorem lapseKeyStep_still : (lapseKeyStep s).still = s.still := by
  unfold lapseKeyStep
  split
  · rfl
  · split
    · rfl
    · split
      · split
        · exact State.modLedger_still _ rfl
        · rfl
      · rfl

@[simp] theorem State.framePhase_still : s.framePhase.still = s.still := by
  unfold State.framePhase
  have h1 : ∀ t : State, (refreshStep t).still = t.still := by intro t; unfold refreshStep; split <;> rfl
  have h2 : ∀ t : State, (selfStep t).still = t.still := by intro t; unfold selfStep; split <;> rfl
  rw [h1, lapseKeyStep_still, h2]
  split
  · exact State.forEach_still s _ _ fun n t => expiryStep_still t n
  · rfl

@[simp] theorem orphanEndStep_still : (orphanEndStep s).still = s.still := by
  unfold orphanEndStep; split
  · exact State.endOrphan_still s
  · rfl

theorem withdrawalEndStep_still (h : s.memb.leaveMark ≠ .restart) : (withdrawalEndStep s).still = s.still := by
  unfold withdrawalEndStep; split
  · exact State.endWithdrawal_still s h
  · rfl

end Sys2Proof.Machine
end

