-- ==== Sys2Proof/Laws/React.lean ====
section
/-! SUPPORT. What the reactions of one event can do to the whole station: nothing in START and INERT, nothing to `State.still`
outside a full reset, and which station state follows which. -/

namespace Sys2Proof.Machine

variable (s : State)

/-! ### The leave mark -/

@[simp] theorem State.stopSupplyTimers_memb : s.stopSupplyTimers.memb = s.memb := rfl
@[simp] theorem State.clearLeaving_memb : s.clearLeaving.memb = s.memb := rfl
@[simp] theorem State.clearHoldMarks_memb : s.clearHoldMarks.memb = s.memb := rfl

@[simp] theorem prune_memb (p : Prune) : (s.prune p).memb = s.memb :=
  forEach_keeps State.memb services (fun v t => if (t.liu.queue.take.get v).isSome then t.endTake v else t)
    (fun v u => by split <;> rfl) s

/-- ORPHAN is entered with the leave mark and the own-landing timer as they stand (R67). -/
theorem enterOrphan_memb : s.enterOrphan.memb = { s.memb with station := .orphan, syncWindow := none } := by
  have h := memb_of_apart (State.zeroAll_apart ((s.enter .orphan).setFlag .orphaned))
  unfold State.enterOrphan
  simp only [State.modMemb_memb, State.stopSupplyTimers_memb, prune_memb, h]; rfl

/-- HALTED is entered with the leave mark and the own-landing timer as they stand (R71). -/
theorem enterHalted_memb : s.enterHalted.memb = { s.memb with station := .halted false, syncWindow := none } := by
  have h := memb_of_apart (State.zeroAll_apart (s.enter (.halted false)))
  unfold State.enterHalted
  simp only [State.modLedger_memb, State.modMemb_memb, State.stopSupplyTimers_memb, prune_memb, h]; rfl

/-- Entry to SYNCING (R55). -/
theorem enterSyncing_memb : s.enterSyncing.memb = ⟨.syncing, .none, none, some 0, false⟩ := by
  unfold State.enterSyncing
  generalize s.prune .all = t
  rfl

@[simp] theorem endPause_memb : s.endPause.memb = s.memb := by
  unfold State.endPause; split <;> rfl

/-- A withdrawal that ends with no RESTART asked for leaves HALTED, ended, with its mark (R72). -/
theorem endWithdrawal_memb (h : s.memb.leaveMark ≠ .restart) :
    s.endWithdrawal.memb = { s.memb with station := .halted true, ownLanding := none, lapseSelfRequested := false } := by
  have e : (s.memb.leaveMark == .restart) = false := by simpa using h
  unfold State.endWithdrawal
  simp only [e, Bool.false_eq_true, if_false]
  simp only [State.turnLine_memb, State.modLedger_memb, State.modMemb_memb, State.clearLeaving_memb, endPause_memb, prune_memb]

theorem framePhase_leaveMark : s.framePhase.memb.leaveMark = s.memb.leaveMark := by
  have h1 : ∀ t : State, (refreshStep t).memb = t.memb := by intro t; unfold refreshStep; split <;> rfl
  have h2 : ∀ t : State, (selfStep t).memb.leaveMark = t.memb.leaveMark := by intro t; unfold selfStep; split <;> rfl
  have h3 : ∀ t : State, (lapseKeyStep t).memb.leaveMark = t.memb.leaveMark := by
    intro t; unfold lapseKeyStep
    split
    · rfl
    · split
      · rfl
      · split
        · split <;> rfl
        · rfl
  unfold State.framePhase
  rw [h1, h3, h2]
  split
  · exact congrArg Membership.leaveMark
      (forEach_keeps State.memb _ expiryStep (fun n t => by unfold expiryStep; split <;> rfl) s)
  · rfl

theorem contactPhase_leaveMark : s.contactPhase.memb.leaveMark = s.memb.leaveMark := by
  unfold State.contactPhase; split
  · rw [enterOrphan_memb]
  · rfl

/-! ### Nothing reacts in START and INERT -/

theorem react_of_not_live (h : s.live = false) : s.react = s := by simp [State.react, h]

/-- In START, INERT and before an image is loaded an event ends as it came, but that the moment is counted. -/
theorem settle_of_not_live (h : s.live = false) :
    s.settle = { s with app := { s.app with passDue := Per8.all false }, now := s.now + 1 } := by
  simp [State.settle, react_of_not_live s h, State.rest, h]

theorem live_of_stopped (h : s.station.stopped = true) : s.live = false := by
  have : s.station.live = false := by revert h; cases s.station <;> simp [Station.stopped, Station.live]
  simp [State.live, this]

/-! ### Reactions never ask for a full reset, and leave `State.still` -/

/-- No reaction sets the leave mark to RESTART. -/
theorem react_leaveMark (h : s.memb.leaveMark ≠ .restart) : s.react.memb.leaveMark ≠ .restart := by
  unfold State.react
  split
  · have h1 : (s.outletPhase.contactPhase.holdPhase.stagePhase.framePhase).memb.leaveMark = s.memb.leaveMark := by
      rw [framePhase_leaveMark, State.stagePhase_memb, State.holdPhase_memb, contactPhase_leaveMark,
        State.outletPhase_memb]
    revert h1
    generalize s.outletPhase.contactPhase.holdPhase.stagePhase.framePhase = t
    intro h1
    have h2 : (orphanEndStep t).memb.leaveMark ≠ .restart := by
      unfold orphanEndStep
      split
      · unfold State.endOrphan
        split
        · rw [enterSyncing_memb]; simp
        · rw [enterHalted_memb]; simpa [h1] using h
      · simpa [h1] using h
    unfold State.leavePhase withdrawalEndStep
    split
    · rw [endWithdrawal_memb _ h2]; exact h2
    · exact h2
  · exact h

/-- One round of reactions leaves `State.still` as it was. -/
theorem react_still (h : s.memb.leaveMark ≠ .restart) : s.react.still = s.still := by
  unfold State.react
  split
  · have h1 : (s.outletPhase.contactPhase.holdPhase.stagePhase.framePhase).memb.leaveMark = s.memb.leaveMark := by
      rw [framePhase_leaveMark, State.stagePhase_memb, State.holdPhase_memb, contactPhase_leaveMark,
        State.outletPhase_memb]
    have h2 : (s.outletPhase.contactPhase.holdPhase.stagePhase.framePhase).still = s.still := by simp
    revert h1 h2
    generalize s.outletPhase.contactPhase.holdPhase.stagePhase.framePhase = t
    intro h1 h2
    have h3 : (orphanEndStep t).memb.leaveMark ≠ .restart := by
      unfold orphanEndStep
      split
      · unfold State.endOrphan
        split
        · rw [enterSyncing_memb]; simp
        · rw [enterHalted_memb]; simpa [h1] using h
      · simpa [h1] using h
    unfold State.leavePhase
    rw [withdrawalEndStep_still _ h3, orphanEndStep_still, h2]
  · rfl

theorem shedShortStep_still (v : Svc) : (shedShortStep v s).still = s.still := by
  unfold shedShortStep
  dsimp only
  split
  · exact (State.setShedShort_still _).trans (State.modHold_still s v _)
  · exact State.modHold_still s v _

theorem observe_still : s.observe.still = s.still := by
  have h : (mapAt (fun ch o => if (s.outletCfg? ch).isSome then o.observe else o) s.outlets).map Outlet.still
      = s.outlets.map Outlet.still := mapAt_map _ _ _ fun i o => by split <;> rfl
  simp only [State.still, State.observe, h]

theorem rest_still : s.rest.still = s.still := by
  unfold State.rest
  dsimp only
  have h : (if s.live then (forEach services shedShortStep s.sparePhase).observe else s).still = s.still := by
    split
    · exact (observe_still _).trans
        ((State.forEach_still _ _ _ fun v t => shedShortStep_still t v).trans (State.sparePhase_still s))
    · rfl
  exact h

/-! ### The states that no reaction leaves -/

/-- SYNCING, JOINING and HALTED once the withdrawal has ended: a command alone leads out of them (R57, R58, R72). -/
def Station.waits : Station → Bool
  | .syncing => true
  | .joining => true
  | .halted ended => ended
  | .start => false
  | .inert => false
  | .member => false
  | .orphan => false

theorem waits_not_leaves {st : Station} (h : st.waits = true) : st.leaves = false := by
  revert h; cases st <;> simp [Station.waits, Station.leaves]

theorem framePhase_memb_of_waits (h : s.station.waits = true) (hl : s.memb.lapseSelfRequested = false) :
    s.framePhase.memb = s.memb := by
  have hm : s.isMember = false := by
    revert h; unfold State.isMember; cases s.station <;> simp [Station.waits]
  have h1 : ∀ t : State, (refreshStep t).memb = t.memb := by intro t; unfold refreshStep; split <;> rfl
  have h2 : selfStep s = s := by
    have : s.lapsesSelf = false := by simp [State.lapsesSelf, waits_not_leaves h]
    simp [selfStep, this]
  have h3 : (lapseKeyStep s).memb = s.memb := by
    unfold lapseKeyStep
    split
    · rfl
    · split
      · next e => simp [hl] at e
      · split
        · split <;> rfl
        · rfl
  unfold State.framePhase
  simp only [hm, Bool.false_eq_true, if_false]
  rw [h1, h2, h3]

/-- A reaction leaves the Membership Controller of a waiting state alone. -/
theorem react_memb_of_waits (h : s.station.waits = true) (hl : s.memb.lapseSelfRequested = false) :
    s.react.memb = s.memb := by
  have hc : s.outletPhase.contactPhase.memb = s.memb := by
    have : s.outletPhase.isMember = false := by
      unfold State.isMember State.station
      rw [State.outletPhase_memb]
      revert h; unfold State.station; cases s.memb.station <;> simp [Station.waits]
    simp [State.contactPhase, this]
  unfold State.react
  split
  · have h1 : (s.outletPhase.contactPhase.holdPhase.stagePhase).memb = s.memb := by
      rw [State.stagePhase_memb, State.holdPhase_memb, hc]
    revert h1
    generalize s.outletPhase.contactPhase.holdPhase.stagePhase = t
    intro h1
    have h2 : t.framePhase.memb = s.memb := by
      rw [framePhase_memb_of_waits t (by unfold State.station at *; rw [h1]; exact h) (by rw [h1]; exact hl), h1]
    revert h2
    generalize t.framePhase = u
    intro h2
    have ho : orphanEndStep u = u := by
      have : (u.station == .orphan) = false := by
        unfold State.station at *; rw [h2]; revert h; cases s.memb.station <;> simp [Station.waits]
      simp [orphanEndStep, this]
    have hw : withdrawalEndStep u = u := by
      have : (u.station == .halted false) = false := by
        unfold State.station at *; rw [h2]; revert h; cases s.memb.station <;> simp [Station.waits]
      simp [withdrawalEndStep, this]
    rw [State.leavePhase, ho, hw, h2]
  · rfl

theorem rest_memb : s.rest.memb = s.memb := by
  unfold State.rest
  dsimp only
  have h : (if s.live then (forEach services shedShortStep s.sparePhase).observe else s).memb = s.memb := by
    split
    · exact (forEach_keeps State.memb services shedShortStep
        (fun v t => by unfold shedShortStep; dsimp only; split <;> rfl) _).trans (State.sparePhase_memb s)
    · rfl
  exact h

/-- An event that ends in a waiting state leaves the Membership Controller as the event itself left it. -/
theorem settle_memb_of_waits (h : s.station.waits = true) (hl : s.memb.lapseSelfRequested = false) :
    s.settle.memb = s.memb := by
  have r : ∀ t : State, t.memb = s.memb → t.react.memb = s.memb := by
    intro t e
    rw [react_memb_of_waits t (by unfold State.station at *; rw [e]; exact h) (by rw [e]; exact hl), e]
  unfold State.settle
  rw [rest_memb, r _ (r _ (r _ (r _ rfl)))]

end Sys2Proof.Machine
end

