-- ==== Sys2Proof/Laws/ServiceFrames.lean ====
section
/-! SUPPORT. What the frames of the service line say: which are malformed, that a response's check byte is right; and what an
expiry of the same half-second keeps. -/

namespace Sys2Proof.Machine

/-- The codes with a command are those with an argument length. -/
theorem commandOfCode_isSome (code : Nat) (args : List Byte) :
    (commandOfCode code args).isSome = (argumentLength code).isSome := by
  unfold commandOfCode argumentLength
  repeat' split
  all_goals rfl

/-- A completed frame is malformed exactly when its check fails or its argument length is not its command's, an unknown code
having none (R203, R204). -/
theorem malformed_eq (l : List Byte) :
    malformed l = !(frameCheckRight l && argumentLength (byteAt l 1) == some (byteAt l 2)) := by
  unfold malformed readCommand
  split
  · next h =>
    have e : argumentLength (byteAt l 1) = some (byteAt l 2) := by
      simp only [Bool.and_eq_true, beq_iff_eq] at h; exact h.2
    have s := commandOfCode_isSome (byteAt l 1) ((l.drop 3).take (byteAt l 2))
    rw [e] at s
    rw [h]
    cases hc : commandOfCode (byteAt l 1) ((l.drop 3).take (byteAt l 2)) with
    | none => rw [hc] at s; cases s
    | some c => rfl
  · next h => simp [h]

@[simp] theorem frameOpen_nil : frameOpen [] = false := rfl

/-- Bytes before a start byte are discarded (R203). -/
theorem openFrame_skips (b : Byte) (l : List Byte) (h : b ≠ 165) : openFrame (b :: l) = openFrame l := by
  unfold openFrame
  rw [List.foldl_cons, show receiveByte [] b = [] from if_neg h]

/-- A start byte alone leaves a frame open (R203). -/
@[simp] theorem openFrame_start : openFrame [165] = [165] := rfl

/-- A frame that has ended is complete (R203). -/
theorem endedFrame_complete {l frame : List Byte} (h : endedFrame l = some frame) : frameComplete frame = true := by
  dsimp only [endedFrame] at h
  split at h
  · next c => cases h; exact (Bool.and_eq_true_iff.mp c).2
  · cases h

theorem foldl_add_toNat (l : List Byte) (a : Byte) :
    (l.foldl (· + ·) a).toNat = (a.toNat + (l.map BitVec.toNat).sum) % 256 := by
  induction l generalizing a with
  | nil => simp [Nat.mod_eq_of_lt a.isLt]
  | cons b rest ih =>
    simp only [List.foldl_cons, ih, BitVec.toNat_add, List.map_cons, List.sum_cons]
    omega

/-- The check byte closes the sum (R203). -/
theorem checkByte_closes (body : List Byte) : ((body ++ [checkByte body]).map BitVec.toNat).sum % 256 = 0 := by
  have h := foldl_add_toNat body 0
  have n : (checkByte body).toNat = (256 - (body.foldl (· + ·) 0).toNat) % 256 := by
    simp [checkByte, BitVec.toNat_neg]
  have z : (0 : Byte).toNat = 0 := rfl
  rw [h, z, Nat.zero_add] at n
  simp only [List.map_append, List.sum_append, List.map_cons, List.map_nil, List.sum_cons, List.sum_nil, n]
  omega

/-- The check of every response is right (R203). -/
theorem response_check_right (r : Reply) : frameCheckRight (Reply.frame r) = true := by
  have h := checkByte_closes (Reply.body r)
  simpa [frameCheckRight, Reply.frame] using h

/-- An expiry that stands for itself runs its command, and then the OVERDRAWs kept from it. -/
theorem Expiry.take_of_not_owed (e : Expiry) (s : State) (h : e.owed = false) :
    Expiry.take e s = forEach e.overdraws lateOverdraw (outcomeState s (exec e.command s)) := by
  unfold Expiry.take; rw [h]

/-- As due, an expiry runs its command alone. -/
@[simp] theorem Expiry.take_plain (c : Instr) (s : State) : Expiry.take (Expiry.plain c) s = outcomeState s (exec c s) := rfl

@[simp] theorem Expiry.take_detected (kind : FaultKind) (ch : Chan) (c : Instr) (s : State) :
    Expiry.take (Expiry.detected kind ch c) s = outcomeState s (exec c s) := rfl

/-- A fault due with the one just taken is still to be taken after it, whatever its response, if it is still borne (R190). -/
theorem Expiry.owe_stands {first e : Expiry} {s t : State} (first_detects : Expiry.detects first = true)
    (due : Expiry.comes s e = true) (borne : e.fault.any t.bears = true) (acts : t.acts = true) :
    Expiry.stands t (Expiry.owe first s t e) = true := by
  have same : Expiry.comes t (Expiry.owe first s t e) = Expiry.comes t e := by
    unfold Expiry.comes Expiry.owe; split <;> rfl
  unfold Expiry.stands
  rw [same]
  unfold Expiry.owe
  cases h : Expiry.comes t e <;> simp [first_detects, due, borne, acts]

/-- An OVERDRAW that the window's end was to report, and no longer finds after another fault, is kept (R190). -/
theorem Expiry.owe_keeps_overdraw {first e : Expiry} {s t : State} {ch : Chan} (first_detects : Expiry.detects first = true)
    (due : Expiry.comes s e = true) (window : e.command = .meterWindowEnds) (was : s.overdrawDue ch = true)
    (lost : t.overdrawDue ch = false) : ch ∈ (Expiry.owe first s t e).overdraws := by
  unfold Expiry.owe
  simp [first_detects, due, window, was, lost]

@[simp] theorem Expiry.owe_command (first e : Expiry) (s t : State) : (Expiry.owe first s t e).command = e.command := by
  unfold Expiry.owe; split <;> rfl

@[simp] theorem Expiry.owe_fault (first e : Expiry) (s t : State) : (Expiry.owe first s t e).fault = e.fault := by
  unfold Expiry.owe; split <;> rfl

end Sys2Proof.Machine
end

