-- ==== Sys2Proof/WellFormed.lean ====
section
/-! DEFINITION. The checks on a command's operands: what the plant line, the setting memory and the service line can
present at all. Every meaning is total; these checks say which terms stand for an event of the part. -/

namespace Sys2Proof

/-- An operand of a command is one that can be presented.
* A landed KEEP or HAIL has weight 1 to 63, since weight 0 is damaged and voided (R39).
* A completed settings read has 384 bytes unless the memory is missing (R198).
* WRITE-SETTINGS carries 64 bytes beside its segment (R204).
* A completed memory write has 384 bytes read back unless the memory is missing (R206). -/
def Instr.wellFormed : Instr → Bool
  | .settingsReadCompletes status bytes => status == 255 || bytes.length == 384
  | .settingsWriteCompletes status bytes => status == 255 || bytes.length == 384
  | .keep _ _ weight _ _ _ _ => weight != 0
  | .hail _ _ weight _ _ => weight != 0
  | .writeSettings _ data => data.length == 64
  | .powerOn | .resetPinAsserted | .resetPinReleased | .startOfAttempt | .arbitrationLost | .attemptFails _
  | .retryPauseExpires | .frameNotLanded _ _ | .partialFrameDropped | .take _ _ _ _ _ _ | .give _ _ _ _ _ _
  | .want _ _ _ _ _ | .offer _ _ _ _ _ _ | .lapse _ _ _ _ _ | .ownLandingTimerTKeep | .ownLandingTimerTSelf | .syncingWindowExpires
  | .silenceTimerTSelf _ | .silenceTimerTExp _ | .spareTimerExpires _ _ | .reclaimTimerExpires _
  | .blockTimerExpires _ _ | .demandInputChange _ _ | .idleTimerExpires _ | .pulseTimerExpires _
  | .pulseLengthTimerExpires _ | .inPositionRises _ | .inPositionFalls _ | .strokeTimerExpires _ | .strokeOverrun _
  | .drift _ | .meterPulse _ | .meterWindowEnds | .callInputRises _ | .runRemainingZero _ | .runSpoilt _
  | .stageReadyRises _ | .stageReadyFalls _ | .tripInputAsserts _ | .tripInputClears _ | .warmUpTimerExpires _
  | .lockoutTimerExpires _ | .callTimerExpires _ | .dropHoldTimerExpires _ | .readStation _ | .readEntry _
  | .readOutlet _ | .readStage _ | .readFlags | .clearFlags _ | .enableOutlet _ | .disableOutlet _ | .clearOutlet _
  | .setGuard _ _ _ _ _ | .restart | .readSettings _ | .settingsPageWritten _ | .badFrame _ | .serviceByteGapTimeout _
  | .responseSent | .callInputFalls _ | .lockInputChanges _ => true

end Sys2Proof
end

