-- ==== Sys2Proof/Tests/Slice0.lean ====
section
/-! SUPPORT. Tests: the operand checks refuse, the manual's worked figures come out, and every statement for the provers that
has hypotheses has states and operands that meet them (a `witness_` theorem for each clause, at a boundary of its range). -/

namespace Sys2Proof.Tests

open Sys2Proof.Machine Sys2Proof.Claims

-- One test after another: a `decide +kernel` waits for every declaration before it, and the waiting ones would pile up.
set_option Elab.async false

/-! ### The operand checks (R39, R198, R204, R206) -/

theorem test_read_needs_384_bytes : (Instr.settingsReadCompletes 0 [1, 2]).wellFormed = false := by decide
theorem test_missing_memory_needs_none : (Instr.settingsReadCompletes 255 []).wellFormed = true := by decide
theorem test_write_end_needs_384_bytes : (Instr.settingsWriteCompletes 0 []).wellFormed = false := by decide
theorem test_keep_weight_zero_refused :
    (Instr.keep 0 0 0 0 ⟨⟨0, 0, 0, 0⟩, 0, 0⟩ ⟨⟨0, 0, 0, 0⟩, 0, 0⟩).wellFormed = false := by decide
theorem test_hail_weight_zero_refused : (Instr.hail 0 0 0 0).wellFormed = false := by decide
theorem test_segment_of_63_bytes_refused : (Instr.writeSettings 0 (List.replicate 63 0)).wellFormed = false := by decide
theorem test_table_gives_no_bits : decodeTableWord 16 0 = none := by decide

/-! ### A small station: C1 modulating with feedback, C2 batch, C3 monitor, C4 an AUTO stage, all HW -/

def valve : ValveCfg := ⟨0, 240, 5, true⟩
def modulatingCfg : ModulatingCfg := ⟨40, 1, true, false, 1, 10, 30⟩
def batchCfg : BatchCfg := ⟨100, 60, 10, 60⟩
def steam : OutletCfg := ⟨.hw, .c2, 4, 10, 2, true, true, .modulating valve modulatingCfg⟩
def press : OutletCfg := ⟨.hw, .c3, 1, 0, 1, true, false, .batch { valve with feedback := false } batchCfg⟩
def branch : OutletCfg := ⟨.hw, .c1, 1, 0, 1, true, false, .monitor 50⟩
def boiler : StageCfg := ⟨.hw, 400, 1, .auto, 30, 60⟩
def service : ServiceCfg := ⟨⟨100, 400, 600, 800⟩, 60, 20, 10, 60, 30, 50, 300⟩

def image : Image where
  own := 0
  weight := 2
  nInst := 3
  tKeep := 2
  tStrokeMax := 30
  tReclaim := 10
  profile := 0x1234
  services := ⟨service, service⟩
  rotating := false
  guardMode := .range
  guardSide := .top
  guardComplement := false
  guardCount := 0
  responses := ResponseTable.allNote
  alertMask := 511
  channels := Vector.ofFn fun ch =>
    if ch = 0 then .outlet steam else if ch = 1 then .outlet press else if ch = 2 then .outlet branch
    else if ch = 3 then .stage boiler else .unused

/-- The station with that image in a station state, its blocks as after reset. -/
def up (st : Station) : State :=
  { State.reset with
    memb := { State.reset.memb with station := st }
    loader := { State.reset.loader with reading := false, image := some image } }

/-- A MEMBER entry of a weight and last sequence 9, its HW record given. -/
def entry (w : Nat) (hw : Shares) : Entry := ⟨.member, w, 0x1234, 9, ⟨hw, Shares.zero⟩⟩

def shares (c0 c1 c2 c3 want offer : Nat) : Shares := ⟨⟨c0, c1, c2, c3⟩, want, offer⟩

def copyOf (l : List (Stn × Entry)) : Copy := l.foldl (fun c p => c.set p.1 p.2) (Vector.replicate 32 Entry.blank)

def State.withCopy (l : List (Stn × Entry)) (s : State) : State := s.modLedger fun g => { g with copy := copyOf l }

def State.sends (b : Body) (s : State) : State := s.modLiu fun l => { l with tx := some ⟨7, b, 0, [], false⟩ }

/-- Three members, station 1 the own one, station 2 a source of 600, station 3 in want of 50. -/
def trio (st : Station) : State :=
  (State.withCopy [(0, entry 2 (shares 0 0 200 201 0 0)), (1, entry 1 (shares 0 0 0 0 0 600)),
    (2, entry 1 (shares 0 0 100 0 50 0))] ((up st).modMemb fun m => { m with ownLanding := some 0 })).modLedger fun l =>
      { l with silence := (l.silence.set 1 (some 0)).set 2 (some 0) }

def outletIn (ch : Chan) (f : Outlet → Outlet) (st : Station) : State := (up st).modOutlet ch f

def stageIn (f : Stage → Stage) (st : Station) : State := (up st).modStage 3 f

/-! ### The manual's figures -/

/-- Section 1.4: three stations each holding 7 in a class that must bear 10 are given duties of 4 each (R28). -/
def sevens : Copy :=
  copyOf [(0, entry 1 (shares 0 0 0 7 0 0)), (1, entry 1 (shares 0 0 0 7 0 11)), (2, entry 1 (shares 0 0 0 7 0 0))]

theorem test_shortage_duties_round_up : stations.map (fun s => shortageDuty sevens .hw s .c3) =
    [4, 4, 4] ++ List.replicate 29 0 := by decide +kernel

/-- Section 4.2: bounds 100, 400, 600, 800 with no outlet in class 1 give bands of 100, 0, 500 and 200 (R77). -/
theorem test_bands_skip_an_empty_class : bandLimits ⟨100, 100, 600, 800⟩ = ⟨100, 0, 500, 200⟩ := by decide

/-- HW has outlets in classes 1, 2 and 3 of the small station, ST none (R77). -/
theorem test_effective_bounds : Image.effectiveBounds image .hw = ⟨0, 400, 600, 800⟩ ∧
    bandLimits ⟨0, 400, 600, 800⟩ = ⟨0, 400, 200, 200⟩ ∧ Image.effectiveBounds image .st = ⟨0, 0, 0, 0⟩ := by decide

/-- The first states at the edges of the demand input's span: 0.52 V is the first level above 0 (R99, R102, R142). -/
theorem test_first_states :
    let first (mv : Nat) := firstOutlet mv (.outlet steam)
    (Outlet.followLevel (first 519)).state = .idle ∧ (Outlet.followLevel (first 520)).state = .active ∧
      (Outlet.followLevel (first 2600)).state = .active ∧ (first 399).outOfRange = true ∧ (first 400).outOfRange = false ∧
      (Outlet.followLevel (first 2601)).state = .idle ∧ (firstOutlet 0 (.outlet press)).state = .idle ∧
      (firstOutlet 0 (.outlet branch)).state = .active ∧
      (firstOutlet 0 (.outlet { branch with enabledAtStart := false })).state = .off := by decide

/-- Section 5.3: rated draw 240, min draw 40 (R101). -/
theorem test_level_draw : levelDraw 240 40 37 = 89 ∧ levelDraw 240 40 10 = 40 ∧ levelDraw 240 40 100 = 240 := by decide

/-- Section 6.2: desired 120, min draw 40, keep room 90, holding room 50 or 30 (R126). -/
theorem test_largest_raise : largestRaise 90 50 { Outlet.initial with desired := 120 } = 50 ∧
    largestRaise 90 30 { Outlet.initial with desired := 120 } = 30 := by decide

/-- Section 6.4: rated 240, grant 89 give a command of 38 % (R133). -/
theorem test_draw_command : drawCommand 240 89 = 38 := by decide

/-- Section 6.5: bound 120, tolerance 10 % give the limit 133 (R141). -/
theorem test_overdraw_limit : overdrawLimit 120 10 = 133 := by decide

/-- Section 7.3: count 4 and TOP give C13 to C16, with the complement C1 to C12 (R154). -/
theorem test_guard_range : channels.filter (Guard.covers ⟨.range, 4, .top, false, 0⟩) = [12, 13, 14, 15] ∧
    channels.filter (Guard.covers ⟨.range, 4, .top, true, 0⟩) = [0, 1, 2, 3, 4, 5, 6, 7, 8, 9, 10, 11] := by decide

/-- Section 11.6: 0 % at 0.40 and 0.50 V, 100 % at 2.50 and 2.60 V, out of span beyond (R207). -/
theorem test_demand_readings : demandReading 399 = none ∧ demandReading 400 = some 0 ∧ demandReading 500 = some 0 ∧
    demandReading 520 = some 1 ∧ demandReading 2499 = some 99 ∧ demandReading 2600 = some 100 ∧
    demandReading 2601 = none := by decide

/-- Section 2.2: a stuff bit of the opposite value follows five equal bits, and itself counts (R33). -/
theorem test_stuffing : stuff [false, false, false, false, false, true, true, true, true, false] =
    [false, false, false, false, false, true, true, true, true, true, false, false] := by decide

theorem test_frame_of_an_offer : receive (stuff (Frame.bits ⟨31, 255, .offer .st true 4095⟩)) =
    some ⟨31, 255, .offer .st true 4095⟩ := by decide +kernel

/-- The frame lengths of the layout: 58, 66 and 210 bits without stuff bits, SEEN in slot 33 + L (R34). -/
theorem test_frame_lengths :
    let len (f : Frame) := (Frame.bits f ++ closingWindow true false ++ endBits).length
    len ⟨1, 0, .want .hw 5⟩ = 58 ∧ len ⟨1, 0, .hail 1 0⟩ = 66 ∧
      len ⟨1, 0, .keep 1 0 ⟨⟨0, 0, 0, 0⟩, 0, 0⟩ ⟨⟨0, 0, 0, 0⟩, 0, 0⟩⟩ = 210 ∧
      (Frame.lineBits ⟨1, 0, .want .hw 5⟩ true false).drop (stuff (Frame.bits ⟨1, 0, .want .hw 5⟩)).length =
        [false, true, true, true, true, true, true, true, true] := by decide +kernel

/-- A frame lands on SEEN dominant and VOID recessive alone, whoever drives them (R32, R40). -/
theorem test_slots : landsAt (wired [slot true, slot false]) (wired [slot false]) = true ∧
    landsAt (wired [slot true]) (wired [slot false, slot true]) = false ∧
    landsAt (wired [slot false]) (wired [slot false]) = false := by decide

/-- 501 of 600 are held: a TAKE of the 99 left is accepted from station 3, whose fair share is 200, and one of 100 refused
(R14). -/
theorem test_take_room : takeAccepted (trio .member).ledger.copy 2 2 .hw 99 = true ∧
    takeAccepted (trio .member).ledger.copy 2 2 .hw 100 = false := by decide +kernel

/-! ### Events, against the manual's rules -/

/-- Entry of a station after a frame lands on the copy of `trio`. -/
def landedAt (f : Frame) (n : Stn) : Entry := (applyFrame .member 2 (trio .member).ledger.copy f)[n]

/-- Station 3 takes the 99 left: its holding rises from 100 to 199 and its sequence is recorded (R13, R14). -/
theorem test_take_raises_the_holding : (landedAt ⟨2, 77, .take .hw .c2 99⟩ 2).holding .hw .c2 = 199 ∧
    (landedAt ⟨2, 77, .take .hw .c2 99⟩ 2).lastSeq = 77 := by decide +kernel

/-- A GIVE of more than is held leaves 0 (R15). -/
theorem test_give_stops_at_zero : (landedAt ⟨2, 77, .give .hw .c2 4095⟩ 2).holding .hw .c2 = 0 := by decide +kernel

/-- 501 are held: the source's voluntary offer of 500 is refused, one of 501 accepted, and a forced 0 accepted (R17, R18). -/
theorem test_offer_decrease : (landedAt ⟨1, 77, .offer .hw false 500⟩ 1).offer .hw = 600 ∧
    (landedAt ⟨1, 77, .offer .hw false 501⟩ 1).offer .hw = 501 ∧
    (landedAt ⟨1, 77, .offer .hw true 0⟩ 1).offer .hw = 0 := by decide +kernel

/-- Only a LAPSE that carries the target's last sequence, 9, vacates it (R22). -/
theorem test_lapse_names_the_sequence : (landedAt ⟨1, 77, .lapse 2 8⟩ 2).isMember = true ∧
    landedAt ⟨1, 77, .lapse 2 9⟩ 2 = Entry.blank := by decide +kernel

/-- The eighth failure in a row sets LINE-FAULT and starts the pause (R43). -/
theorem test_eighth_failure :
    let t := State.failAttempt false ((State.sends (.want .hw 60) (trio .member)).modLiu fun l => { l with failCount := 7 })
    t.liu.retryPause = some 0 ∧ t.liu.failCount = 8 ∧ t.flagSet .lineFault = true ∧ t.liu.tx = none := by decide +kernel

/-- A sender that read a bit back wrongly drives VOID, and otherwise neither slot (R37). -/
theorem test_sender_voids_its_own :
    (State.failAttempt true (State.sends (.want .hw 60) (trio .member))).liu.mark = .void ∧
      (State.failAttempt false (State.sends (.want .hw 60) (trio .member))).liu.mark = .none := by decide +kernel

/-- The state a command leaves. -/
def after (c : Instr) (s : State) : State := outcomeState s (exec c s)

/-- 1.50 V is a level of 50 %: an idle outlet goes ACTIVE and wants half of 240 (R101, R102, R207). -/
theorem test_demand_wakes_the_outlet :
    let t := after (.demandInputChange 0 1500) ((trio .member).modOutlet 0 fun o => { o with state := .idle })
    (t.outlet 0).state = .active ∧ (t.outlet 0).desired = 120 := by decide +kernel

/-- 34 pulses of 4 hu are 136 hu, above the limit of 133: the second excess window in a row is an OVERDRAW (R141). -/
theorem test_second_excess_window_is_an_overdraw :
    let t := windowStep 0 ((trio .member).modOutlet 0 fun o =>
      { o with state := .idle, pulses := 34, largestBound := 120, excess := 1 })
    (t.outlet 0).metered = 136 ∧ (t.outlet 0).lastFault = some .overdraw ∧ t.flagSet .outletFault = true := by decide +kernel

/-- C1's stroke, stuck, comes to its overrun at the end of a meter window, in which C1 and C2 have drawn `p` and `q` pulses; C2 runs
with a disable pending. The responses to OVERDRAW and STROKE-OVERRUN are as given. -/
def together (overdraw overrun : Response) (p q : Nat) : State :=
  let s := (trio .member).modFru fun u =>
    { u with responses := { u.responses with overdraw := overdraw, strokeOverrun := overrun } }
  let s := s.modOutlet 0 fun o =>
    { o with state := .active, level := 50, desired := 120, grant := 120, peak := 120, command := 50, moving := true,
             stroke := some 14, pulses := p, largestBound := 120, excess := 1 }
  let s := s.modOutlet 1 fun o =>
    { o with state := .running, runRemaining := 90, desired := 100, grant := 100, peak := 100, command := 42,
             disablePending := true, pulses := q, largestBound := 100 }
  { s with meterWindow := some 19 }

/-- The state after both expiries, the one of the given place first. -/
def taken (first second : Nat) (s : State) : State :=
  match s.expiries[first]?, s.expiries[second]? with
  | some e, some f =>
    let p := s.passTime
    let u := Expiry.take e p
    Expiry.take (Expiry.owe e p u f) u
  | _, _ => s

/-- C1 overdraws in the half-second its stuck stroke overruns, and OVERDRAW isolates: STROKE-OVERRUN is still reported, and
OVERDRAW after it (R190). -/
theorem test_two_faults_on_one_outlet :
    let t := taken 0 1 (together .isolate .note 64 0)
    let r := taken 1 0 (together .isolate .note 64 0)
    (t.outlet 0).state = .fault ∧ (t.outlet 0).faultKind = some .overdraw ∧ (t.outlet 0).lastFault = some .strokeOverrun ∧
      (t.outlet 0).overrun = true ∧ t.fru.counters.outletFaults = 2 ∧ (r.outlet 0).faultKind = some .overdraw ∧
      (r.outlet 0).lastFault = some .overdraw ∧ r.fru.counters.outletFaults = 2 := by decide +kernel

/-- The withdrawal that STROKE-OVERRUN asks for takes C2, its disable pending, to OFF before its window is judged: its OVERDRAW
is still reported (R190). -/
theorem test_overdraw_outlasts_a_withdrawal :
    let t := taken 1 0 (together .note .withdraw 0 200)
    (t.outlet 1).state = .off ∧ (t.outlet 1).lastFault = some .overdraw ∧ (t.outlet 1).excess = 1 ∧
      t.fru.counters.outletFaults = 2 ∧ t.station = .halted false := by decide +kernel

theorem witness_faults_together :
    let same := together .isolate .note 64 0
    let two := together .note .withdraw 0 200
    (∀ s ∈ [same, two], s.pending = [] ∧ s.acts = true ∧ Staying s ∧ s.dueEvents = [.meterWindowEnds, .strokeOverrun 0] ∧
      (s.outlet 0).moving = true ∧ (s.outlet 0).overrun = false) ∧
    same.overdrawDue 0 = true ∧ (∀ ch, ch ≠ 0 → same.overdrawDue ch = false) ∧ same.fru.responses.get .overdraw = .isolate ∧
    (same.outlet 0).state.isolable = true ∧
    two.overdrawDue 1 = true ∧ (∀ ch, ch ≠ 1 → two.overdrawDue ch = false) ∧ two.fru.responses.strokeOverrun = .withdraw := by
  decide +kernel

/-- A run that the isolation of another outlet lets a pass resume is not spoilt; one that its own isolation discards is reported
(R167, R168, R190). -/
theorem test_resumed_run_is_not_spoilt :
    let s := (trio .member).modOutlet 1 fun o => { o with state := .suspended, suspension := some 119 }
    let first := Expiry.detected .strokeOverrun 0 (.strokeOverrun 0)
    let later (st : OutletState) := Expiry.owe first s (s.modOutlet 1 fun o => { o with state := st, suspension := none })
      (.detected .runSpoilt 1 (.runSpoilt 1))
    (later .running).owed = false ∧ (later .fault).owed = true := by decide +kernel

/-- A call edge begins a run of 60 s, which waits for its whole draw (R161, R162). -/
theorem test_call_begins_a_run :
    let t := after (.callInputRises 1) ((trio .syncing).modOutlet 1 fun o => { o with state := .idle })
    (t.outlet 1).state = .waiting ∧ (t.outlet 1).desired = 100 ∧ (t.outlet 1).runRemaining = 120 ∧
      (t.queue .hw .c3).members = [1] := by decide +kernel

/-- A READY stage that trips is TRIPPED, and its service's next OFFER is forced (R177, R180). -/
theorem test_trip_forces_the_offer :
    let t := after (.tripInputAsserts 3) ((State.withCopy [(0, entry 2 (shares 0 0 0 0 0 400))]
      ((trio .member).modStage 3 fun g => { g with state := .ready })))
    (t.stage 3).state = .tripped ∧ (t.supply.get .hw).forced = true ∧ t.liu.queue.waitsAt (.offer .hw) = true := by
  decide +kernel

/-- While the LOCK input is asserted SET-GUARD is answered LOCKED and the guard stands (R157). -/
theorem test_lock_holds_the_guard :
    let s := after (.lockInputChanges true) (trio .member)
    (after (.setGuard 0 16 0 0 0) s).serial.replies = [⟨.locked, [], true⟩] ∧
      (after (.setGuard 0 16 0 0 0) s).app.guard = s.app.guard := by decide +kernel

/-! ### Witnesses: the machine and its reset -/

theorem witness_front : { State.reset with pending := [.readFlags] }.pending = Instr.readFlags :: [] := rfl

theorem witness_idle_before_the_image : State.reset.pending = [] ∧ State.reset.acts = false := by decide +kernel

/-- Every timer two half-seconds short of its limit. -/
def nearly : State :=
  { up .syncing with
    meterWindow := some 18
    memb := { (up .syncing).memb with ownLanding := some 10, syncWindow := some 66 }
    liu := { Liu.initial with retryPause := some 2 }
    ledger := { Ledger.initial with silence := (Vector.replicate 32 none).set 1 (some 70) } }

/-- The timers of the blocks run too: C1 IDLE, C2 in a run, C4 warming up, and one timer of each of the service's records. -/
def running : State :=
  ((((nearly.modOutlet 0 fun o => { o with state := .idle, idleTimer := .running 5, drift := some 3 }).modOutlet 1 fun o =>
    { o with state := .running, runRemaining := 2, suspension := some 3, stroke := some 4, pulseTimer := some 5 }).modStage 3
      fun g => { g with state := .called, warmUp := some 58, lockout := some 2 }).modSupply .hw fun p =>
        { p with callTimer := some 58, dropTimer := some 598 }).modHold .st fun h => { h with reclaimTimer := some 18 }

theorem witness_idle_with_outlet_timers :
    let s := (running.modClass .st .c3 fun c => { c with spareTimer := some 118 }).modQueue .hw .c3 fun _ => ⟨[1], some 1, some 18⟩
    s.pending = [] ∧ s.acts = true ∧ s.dueEvents = [] ∧ s.outletCfg? 0 = some steam ∧ s.outletCfg? 1 = some press ∧
      s.stageCfg? 3 = some boiler ∧ 5 < OutletCfg.idleTicks steam ∧ 3 < OutletCfg.strokeTicks steam ∧
      4 < OutletCfg.strokeTicks press ∧ 3 < OutletCfg.suspensionTicks press ∧ 58 < 2 * boiler.warmUpLimit ∧
      58 < s.callDelay .hw ∧ 598 < s.dropHold .hw ∧ 18 < s.limit Image.tReclaim ∧ 118 < s.giveHold .st ∧
      18 < s.blockTicks .hw .c3 := by decide +kernel

/-- C1's idle timer is the one expiry due: it stands at 119 of 120 half-seconds. -/
theorem witness_one_expiry :
    let s := { outletIn 0 (fun o => { o with state := .idle, idleTimer := .running 119 }) .orphan with meterWindow := some 5 }
    s.pending = [] ∧ s.acts = true ∧ s.dueEvents = [.idleTimerExpires 0] := by decide +kernel

theorem witness_idle_with_timers : nearly.pending = [] ∧ nearly.acts = true ∧ nearly.dueEvents = [] ∧
    10 < nearly.limit Image.tSelf ∧ 66 < nearly.limit Image.syncWindow ∧ 2 < nearly.limit Image.tKeep ∧
    70 < nearly.limit Image.tExp := by decide +kernel

theorem witness_not_clear_flags : ∀ m, Instr.readFlags ≠ .clearFlags m := by intro m h; cases h

theorem witness_inert : (up .inert).station = .inert := rfl

theorem witness_staying : Staying (up .member) := by decide

theorem witness_standing_rules : (trio .member).settle.isMember = true ∧ (trio .member).settle.live = true ∧
    (trio .member).ordersSound = true ∧ (trio .member).carriesSound = true := by decide +kernel

/-- Section 4.8: holdings of 90 in class 2 and 80 in class 3 where 110 are short; C2, guarded, has 50 granted in class 3. -/
def carrying : State :=
  (State.withCopy [(0, entry 2 (shares 0 0 90 80 0 0)), (1, entry 1 (shares 0 0 0 0 0 60))]
    ((trio .member).modOutlet 1 fun o =>
      { o with state := .running, runRemaining := 60, grant := 50, peak := 50 })).modApp fun a =>
        { a with guard := ⟨.range, 2, .bottom, false, 0⟩, startOrder := a.startOrder.set .hw .c3 [1] }

theorem witness_orders_and_carries : carrying.ordersSound = true ∧ carrying.carriesSound = true ∧
    carrying.settle.isMember = true ∧ carrying.settle.live = true := by decide +kernel

/-- The section's figures: K of class 3 is 0 with the guarded 50 left in place, 50 are carried, K of class 2 is 10 (R87, R90,
R91). -/
theorem test_guarded_class_carries_its_duty :
    let t := carrying.settle
    (t.classHold .hw .c3).keep = 0 ∧ (t.classHold .hw .c3).dutyMark = true ∧ (t.outlet 1).grant = 50 ∧
      (t.classHold .hw .c2).carriedShortage = 50 ∧ (t.classHold .hw .c2).keep = 10 ∧
      (t.classHold .hw .c1).carriedShortage = 0 ∧ (t.hold.get .hw).unplacedShortage = 0 := by decide +kernel

/-- A fourth station silent for T_exp is named by a LAPSE; an ALWAYS stage is called; a duty cut leaves a guarded grant. -/
theorem witness_lapses_and_stages :
    let s := (trio .member).modLedger fun l =>
      { l with copy := l.copy.set 3 (entry 1 (shares 0 0 0 0 0 0)), silence := l.silence.set 3 (some 72) }
    let a := { s with loader := { s.loader with image := some { image with
      channels := image.channels.set 3 (.stage { boiler with mode := .always }) } } }
    let t := a.settle
    t.isMember = true ∧ (t.entry 3).isMember = true ∧ Timer.atLeast (t.limit Image.tExp) t.ledger.silence[(3 : Stn)] = true ∧
      t.lapseNames 3 = true ∧ t.keyBusy .lapse = true ∧ t.stageCfg? 3 = some { boiler with mode := .always } ∧
      t.pins.trip[(3 : Chan)] = false ∧ (t.stage 3).state = .called := by decide +kernel

theorem witness_candidate_left :
    let t := ((trio .member).modLedger fun l => { l with candidates := [(4, 1), (5, 1)] }).settle
    t.isMember = true ∧ t.ledger.candidates = [(5, 1)] ∧ t.keyBusy .lapse = true := by decide +kernel

theorem witness_reset_pin : (State.reset.setResetPin true).pins.reset = true ∧ State.reset.pins.reset = false := by decide

def serviceBytes : List Byte := [0, 100, 1, 144, 2, 88, 3, 32, 0, 60, 0, 20, 0, 10, 60, 0, 30, 0, 50, 1, 44]

/-- The image's fields before its channel records, in two parts. -/
def imageFront : List Byte := [166, 1, 48, 7, 1, 1, 2, 30, 10, 18, 52] ++ serviceBytes

def imageMiddle : List Byte := serviceBytes ++ [0, 0, 0, 0, 0, 0, 0, 1, 255]

/-- C1 MODULATING with feedback. -/
def recordOne : List Byte := [1, 0, 2, 0, 7, 4, 10, 2, 0, 240, 0, 40, 5, 1, 1, 0, 10, 0, 30, 0]

/-- C2 BATCH. -/
def recordTwo : List Byte := [2, 0, 3, 0, 1, 1, 10, 2, 0, 240, 0, 100, 5, 0, 60, 0, 10, 0, 60, 0]

/-- C3 MONITOR and C4 a stage. -/
def recordsThreeFour : List Byte :=
  [3, 0, 1, 0, 1, 1, 0, 1, 0, 50, 0, 0, 0, 0, 0, 0, 0, 0, 0, 0, 4, 0, 1, 144, 1, 0, 0, 60, 0, 90, 0, 0, 0, 0, 0, 0, 0, 0, 0, 0]

/-- A valid image of station 7: C1 MODULATING, C2 BATCH, C3 MONITOR, C4 a stage, the other channels UNUSED (R199, R200). -/
def imageBytes : List Byte :=
  imageFront ++ imageMiddle ++ recordOne ++ recordTwo ++ recordsThreeFour ++ List.replicate 240 0 ++ [241, 108]

/-- The check register after 24 bytes of zero. -/
def zeros (r : BitVec 16) : BitVec 16 := (bitsOfBytes (List.replicate 24 0)).foldl crcStep r

theorem image_part_registers : (bitsOfBytes imageFront).foldl crcStep 0xFFFF#16 = 21539#16 ∧
    (bitsOfBytes imageMiddle).foldl crcStep 21539#16 = 50556#16 ∧ (bitsOfBytes recordOne).foldl crcStep 50556#16 = 40314#16 ∧
    (bitsOfBytes recordTwo).foldl crcStep 40314#16 = 6671#16 ∧ (bitsOfBytes recordsThreeFour).foldl crcStep 6671#16 = 64780#16 := by
  decide +kernel

theorem image_zero_registers : zeros 64780#16 = 11330#16 ∧
    zeros 11330#16 = 65373#16 ∧
    zeros 65373#16 = 55009#16 ∧
    zeros 55009#16 = 38464#16 ∧
    zeros 38464#16 = 4443#16 ∧
    zeros 4443#16 = 12760#16 ∧
    zeros 12760#16 = 36338#16 ∧
    zeros 36338#16 = 43305#16 ∧
    zeros 43305#16 = 8346#16 ∧
    zeros 8346#16 = 61804#16 := by decide +kernel

/-- The check sequence of the image, taken part by part. -/
theorem image_check_right : checkRight imageBytes = true := by
  have z : ∀ r : BitVec 16, (bitsOfBytes (List.replicate 240 0)).foldl crcStep r =
      zeros (zeros (zeros (zeros (zeros (zeros (zeros (zeros (zeros (zeros r))))))))) := by
    intro r
    have e : List.replicate 240 (0 : Byte) = List.replicate 24 0 ++ (List.replicate 24 0 ++ (List.replicate 24 0 ++
        (List.replicate 24 0 ++ (List.replicate 24 0 ++ (List.replicate 24 0 ++ (List.replicate 24 0 ++
        (List.replicate 24 0 ++ (List.replicate 24 0 ++ List.replicate 24 0)))))))) := by
      simp only [List.replicate_append_replicate]
    rw [e]
    simp only [bitsOfBytes, List.flatMap_append, List.foldl_append, zeros]
  have t : imageBytes.take 382 = imageFront ++ imageMiddle ++ recordOne ++ recordTwo ++ recordsThreeFour ++ List.replicate 240 0 := by
    decide +kernel
  have c : crc (bitsOfBytes (imageFront ++ imageMiddle ++ recordOne ++ recordTwo ++ recordsThreeFour ++ List.replicate 240 0)) = 61804#16 := by
    obtain ⟨p1, p2, p3, p4, p5⟩ := image_part_registers
    obtain ⟨h0, h1, h2, h3, h4, h5, h6, h7, h8, h9⟩ := image_zero_registers
    have e : bitsOfBytes (imageFront ++ imageMiddle ++ recordOne ++ recordTwo ++ recordsThreeFour ++ List.replicate 240 0) =
        bitsOfBytes imageFront ++ bitsOfBytes imageMiddle ++ bitsOfBytes recordOne ++ bitsOfBytes recordTwo
          ++ bitsOfBytes recordsThreeFour ++ bitsOfBytes (List.replicate 240 0) := by
      simp only [bitsOfBytes, List.flatMap_append]
    unfold crc
    rw [e, List.foldl_append, List.foldl_append, List.foldl_append, List.foldl_append, List.foldl_append, p1, p2, p3, p4, p5, z,
      h0, h1, h2, h3, h4, h5, h6, h7, h8, h9]
  unfold checkRight
  rw [t, c]
  decide +kernel

theorem image_is_valid : failedCheck imageBytes = 0 := by
  have h : headerRight imageBytes = true ∧ stationRight imageBytes = true ∧
      (serviceRight (readService imageBytes .hw) && serviceRight (readService imageBytes .st)) = true ∧
      optionsRight imageBytes = true ∧ channels.all (channelRight imageBytes) = true ∧
      channels.all (strokeRight imageBytes) = true := by decide +kernel
  obtain ⟨h2, h4, h5, h6, h7, h8⟩ := h
  simp [failedCheck, h2, image_check_right, h4, h5, h6, h7, h8]

theorem witness_valid_image : State.reset.pins.reset = false ∧ State.reset.station = .start ∧
    State.reset.loader.reading = true ∧ (0 : Byte) ≠ 255 ∧ imageBytes.length = 384 ∧ failedCheck imageBytes = 0 ∧
    (readImage imageBytes).responses.demandRange ≠ .withdraw :=
  ⟨rfl, rfl, rfl, by decide, by decide +kernel, image_is_valid, by decide +kernel⟩

/-- What the four records say, read by hand from the bytes (R200). -/
theorem witness_image_outlets :
    (readImage imageBytes).channels[(0 : Chan)] = .outlet
      ⟨.hw, .c2, 4, 10, 2, true, true, .modulating ⟨0, 240, 5, true⟩ ⟨40, 1, false, false, 1, 10, 30⟩⟩ ∧
    (readImage imageBytes).channels[(1 : Chan)] = .outlet
      ⟨.hw, .c3, 1, 10, 2, true, false, .batch ⟨0, 240, 5, false⟩ ⟨100, 60, 10, 60⟩⟩ ∧
    (readImage imageBytes).channels[(2 : Chan)] = .outlet ⟨.hw, .c1, 1, 0, 1, true, false, .monitor 50⟩ ∧
    (readImage imageBytes).channels[(3 : Chan)] = .stage ⟨.hw, 400, 1, .auto, 60, 90⟩ := by decide +kernel

theorem witness_readings_in_span : ∀ ch : Chan, 400 ≤ State.reset.pins.demand[ch] ∧ State.reset.pins.demand[ch] ≤ 2600 := by
  decide

theorem witness_invalid_image : (0 : Byte) ≠ 255 ∧ (List.replicate 384 (0 : Byte)).length = 384 ∧
    failedCheck (List.replicate 384 0) ≠ 0 := by decide +kernel

/-! ### Witnesses: the line -/

/-- Every key of the queue waits. -/
def fullQueue : TxQueue :=
  ⟨some ⟨3, 1, 0⟩, Per8.all (some ⟨5, 0⟩), Per2.both (some 0), Per2.both (some ⟨.c2, 4, 0⟩), Per2.both (some 0), some ⟨true, 0⟩⟩

theorem witness_attempt_starts :
    let s := (up .member).modTxQueue fun _ => fullQueue
    s.onLine = true ∧ s.liu.tx = none ∧ s.liu.retryPause = none ∧ s.liu.queue.waitsAt .lapse = true := by decide +kernel

theorem witness_frames_filled : fullQueue.offer.get .st = some 0 ∧ fullQueue.want.get .st = some 0 ∧
    fullQueue.give.get .st .c3 = some ⟨5, 0⟩ ∧ fullQueue.take.get .st = some ⟨.c2, 4, 0⟩ ∧
    fullQueue.lapse = some ⟨3, 1, 0⟩ ∧ fullQueue.refresh = some ⟨true, 0⟩ ∧ (up .member).loader.image = some image := by
  decide

theorem witness_attempt_returns :
    let s := State.sends (.want .hw 60) (up .member)
    s.onLine = true ∧ s.liu.tx = some ⟨7, .want .hw 60, 0, [], false⟩ ∧ s.liu.failCount < 7 := by decide +kernel

theorem witness_sixth_failure :
    let s := (State.sends (.want .hw 60) (up .member)).modLiu fun l => { l with failCount := 6 }
    s.onLine = true ∧ s.liu.tx = some ⟨7, .want .hw 60, 0, [], false⟩ ∧ s.liu.failCount < 7 := by decide +kernel

theorem witness_attempt_discarded :
    let s := (up .orphan).modLiu fun l => { l with tx := some ⟨7, .take .hw .c2 60, 0, [], true⟩ }
    let r := (up .orphan).modLiu fun l => { l with tx := some ⟨7, .want .hw 60, 0, [], true⟩ }
    s.onLine = true ∧ s.liu.tx.any TxFrame.discarded = true ∧ r.onLine = true ∧
      r.liu.tx = some ⟨7, .want .hw 60, 0, [], true⟩ := by decide +kernel

theorem witness_eighth_failure :
    let s := (State.sends (.want .hw 60) (up .member)).modLiu fun l => { l with failCount := 7 }
    s.onLine = true ∧ s.liu.failCount = 7 ∧ s.station ≠ .joining := by decide +kernel

theorem witness_pause :
    let s := (up .member).modLiu fun l => { l with retryPause := some 3, failCount := 8 }
    s.onLine = true ∧ s.liu.retryPause.isSome = true := by decide +kernel

theorem witness_eighth_hail :
    let s := (State.sends (.hail 2 0x1234) (up .joining)).modLiu fun l => { l with failCount := 7 }
    s.onLine = true ∧ s.station = .joining ∧ s.liu.tx = some ⟨7, .hail 2 0x1234, 0, [], false⟩ ∧ s.liu.failCount = 7 := by
  decide +kernel

theorem witness_no_landing : (up .member).heard 0 = true ∧ Staying (up .member) ∧ (up .member).station ≠ .syncing ∧
    (up (.halted true)).heard 0 = false := by decide +kernel

theorem witness_profile_mismatch : (up .syncing).heard 0 = true ∧ (up .syncing).station = .syncing ∧ (1 : BitVec 6) ≠ 0 ∧
    (1 : Stn) ≠ (up .syncing).own ∧ (0x1235 : BitVec 16) ≠ (up .syncing).profile := by decide +kernel

/-! ### Witnesses: the ledger -/

/-- Each kind of another's frame lands, and an own TAKE as sent. -/
theorem witness_lands :
    Lands (trio .member) 0 ⟨2, 10, .take .hw .c2 50⟩ ∧ Lands (trio .member) 0 ⟨2, 10, .give .hw .c2 4095⟩ ∧
    Lands (trio .member) 0 ⟨2, 10, .want .hw 0⟩ ∧ Lands (trio .member) 0 ⟨1, 10, .offer .hw false 400⟩ ∧
    Lands (trio .syncing) 0 ⟨5, 0, .keep 63 0x1234 ⟨⟨1, 0, 0, 0⟩, 0, 0⟩ ⟨⟨0, 0, 0, 0⟩, 0, 0⟩⟩ ∧
    Lands (trio .joining) 0 ⟨31, 255, .hail 1 0x1234⟩ ∧ Lands (trio .member) 0 ⟨1, 10, .lapse 2 9⟩ ∧
    Lands (State.sends (.take .hw .c2 4) (trio .member)) 0 ⟨0, 7, .take .hw .c2 4⟩ := by decide +kernel

/-- The withdrawal has ended while a frame of station 2 is on the line: its participation has changed once. -/
def leftMidFrame : State := (trio (.halted true)).modLiu fun l => { l with turns := 1 }

/-- A frame begun before the withdrawal ended is heard, one begun after it is not (R38). -/
theorem witness_participation_changed : leftMidFrame.heard 1 = true ∧ leftMidFrame.participates = false ∧
    leftMidFrame.canLand ⟨2, 10, .give .hw .c2 30⟩ = true ∧ Staying leftMidFrame ∧ leftMidFrame.heard 0 = false ∧
    (trio .member).heard 1 = false := by decide +kernel

/-- That frame is marked and leaves the copy as it stood (R4, R38), and the next is not heard. -/
theorem test_frame_across_a_withdrawal :
    let t := after (.give 2 10 .hw .c2 30 1) leftMidFrame
    t.ledger.copy = leftMidFrame.ledger.copy ∧ t.liu.mark = .seen ∧ t.fru.counters.framesLanded = 1 ∧ t.liu.turns = 0 ∧
      t.heard 1 = false := by decide +kernel

theorem witness_reclaim : (sevens[(0 : Stn)]).isMember = true ∧
    (let copy := (trio .member).ledger.copy
     (∃ p : Stn, p ≠ 0 ∧ (copy[p]).isMember = true ∧ (copy[p]).want .hw ≠ 0) ∧ fairShare copy .hw 0 + 1 = (copy[(0 : Stn)]).total .hw) ∧
    ¬fairShare (trio .member).ledger.copy .hw 2 < ((trio .member).ledger.copy[(2 : Stn)]).total .hw := by decide +kernel

theorem witness_active_set_empty : ∀ s : Stn, (State.reset.ledger.copy[s]).active .hw = false := by decide +kernel

theorem witness_free_capacity : 0 ≤ free (trio .member).ledger.copy .hw ∧ free sevens .hw < 0 := by decide +kernel

theorem witness_stranger :
    let f : Frame := ⟨5, 3, .want .hw 1⟩
    Lands (trio .orphan) 0 f ∧ f.sender ≠ (trio .orphan).own ∧ ((trio .orphan).entry f.sender).isMember = false ∧
      Body.disownable f.body = true ∧ (trio .syncing).station.disowns = false := by decide +kernel

/-! ### Witnesses: membership -/

theorem witness_syncing_window :
    let s := (up .syncing).modMemb fun m => { m with syncWindow := some 67 }
    s.onLine = true ∧ s.station = .syncing ∧ s.memb.syncWindow.isSome = true ∧ s.memb.lapseSelfRequested = false ∧
      Staying s := by decide +kernel

theorem witness_own_hail :
    let s := State.sends (.hail 2 0x1234) (up .joining)
    s.heard 0 = true ∧ s.station = .joining ∧ s.isSent ⟨s.own, 7, .hail 2 0x1234⟩ = true := by decide +kernel

theorem witness_own_silence :
    let s := (trio .member).modMemb fun m => { m with ownLanding := some 11 }
    s.onLine = true ∧ s.station = .member ∧ s.ownEntry.isMember = true ∧ Staying s ∧
      Timer.below (s.limit Image.tSelf) s.memb.ownLanding = true := by decide +kernel

theorem witness_refresh :
    let s := (trio .member).modMemb fun m => { m with ownLanding := some 3 }
    s.onLine = true ∧ s.station = .member ∧ s.ownEntry.isMember = true ∧ Staying s ∧
      Timer.below (s.limit Image.tKeep) s.memb.ownLanding = true := by decide +kernel

/-- Station 2's silence one half-second short of a limit, station 3 unheard already. -/
def quiet (n : Nat) : State :=
  (trio .member).modLedger fun l => { l with silence := (l.silence.set 1 (some n)).set 2 (some 30) }

theorem witness_lost_quorum :
    let s := quiet 11
    let u := { s with ledger := { s.ledger with silence := s.ledger.silence.set 1 (some (s.limit Image.tSelf)) } }
    s.onLine = true ∧ (1 : Stn) ≠ s.own ∧ Timer.below (s.limit Image.tSelf) s.ledger.silence[(1 : Stn)] = true ∧
      s.station = .member ∧ s.ownEntry.isMember = true ∧ Staying s ∧ u.heardCount < u.quorum ∧ s.ownEntry.total .hw ≠ 0 := by
  decide +kernel

theorem witness_silent_peer :
    let s := quiet 71
    s.onLine = true ∧ (1 : Stn) ≠ s.own ∧ s.station = .member ∧ s.ownEntry.isMember = true ∧ Staying s ∧
      (s.entry 1).isMember = true ∧ Timer.below (s.limit Image.tExp) s.ledger.silence[(1 : Stn)] = true := by decide +kernel

theorem witness_restart : Free State.reset ∧ Free (up .inert) ∧ Free (up .syncing) ∧ Free (up .joining) ∧ Free (up .member) ∧
    Free (up .orphan) ∧ Free (up (.halted false)) ∧ Free (up (.halted true)) := by decide

/-! ### Witnesses: holdings, grants and strokes -/

theorem witness_share_timers :
    let s := ((up .member).modClass .st .c3 fun c => { c with spareTimer := some 119 }).modHold .st fun h =>
      { h with reclaimTimer := some 19 }
    s.acts = true ∧ Timer.below (s.giveHold .st) (s.classHold .st .c3).spareTimer = true ∧
      Timer.below (s.limit Image.tReclaim) (s.hold.get .st).reclaimTimer = true ∧ Staying s := by decide +kernel

/-- Releasing with 85 held, 50 of them in a GIVE under way, C1's pulse of 30 held, and no capacity left on the line: the landing
leaves 35 held and a spare of 5, below the threshold of 10, but the duty of 35 cuts the pulse, so that 35 are spare. -/
def releasingPulse : State :=
  State.sends (.give .hw .c2 50) ((State.withCopy [(0, entry 2 (shares 0 0 85 0 0 0)), (1, entry 1 (shares 0 0 0 0 0 0))]
    ((trio .member).modOutlet 0 fun o =>
      { o with state := .standby, pulsePhase := .held, grant := 30, peak := 30, desired := 30 })).modClass .hw .c2 fun c =>
        { c with spareTimer := some 120, releasing := true, keep := 30, bandLimit := 200 })

/-- The spare is judged on the values the event leaves: it stands before and after, so the class goes on releasing (R76, R86). -/
theorem test_spare_judged_after_the_cut :
    let t := after (.give 0 7 .hw .c2 50 0) releasingPulse
    t.ownHolding .hw .c2 = 35 ∧ (t.classHold .hw .c2).releasing = true ∧ (t.classHold .hw .c2).spareTimer = some 120 ∧
      t.target .hw .c2 = 0 ∧ (t.classHold .hw .c2).keep = 0 ∧ (t.outlet 0).grant = 0 := by decide +kernel

theorem witness_spares_judged :
    let s := releasingPulse.landed ⟨0, 7, .give .hw .c2 50⟩
    let o := (trio .member).modMemb fun m => { m with ownLanding := some 1000 }
    let h := up (.halted true)
    s.settle.live = true ∧ s.settle.station = s.station ∧ s.settle.station.holdsSpares = true ∧
      s.settle.target .hw .c2 + s.settle.svcSetting .hw ServiceCfg.giveThreshold ≤ s.settle.ownHolding .hw .c2 ∧
      o.station = .member ∧ o.settle.live = true ∧ o.settle.station = .orphan ∧
      ¬(o.settle.target .hw .c0 + o.settle.svcSetting .hw ServiceCfg.giveThreshold ≤ o.settle.ownHolding .hw .c0) ∧
      h.settle.live = true ∧ h.settle.station = h.station ∧ h.settle.station.holdsSpares = false := by decide +kernel

theorem witness_blocked_run :
    let s := (up .member).modQueue .hw .c3 fun _ => ⟨[1], some 1, some 19⟩
    s.acts = true ∧ (s.queue .hw .c3).blocker = some 1 ∧ (s.queue .hw .c3).blockTimer.isSome = true ∧ Staying s := by
  decide +kernel

/-- C1 in want of 120 in class 2, where the own holding is 200 and the keep amount 90. -/
def wanting : State :=
  (((trio .member).modOutlet 0 fun o => { o with state := .active, level := 50, desired := 120 }).modClass .hw .c2 fun c =>
    { c with keep := 90 }).modQueue .hw .c2 fun q => { q with members := [0] }

theorem witness_pass : 0 ≤ wanting.keepRoom .hw .c2 ∧ 0 ≤ wanting.holdingRoom .hw .c2 ∧
    (wanting.outlet 0).grant ≤ (wanting.outlet 0).desired ∧ 1 ∉ (wanting.queue .hw .c2).members := by decide +kernel

/-- C1 at grant 120 with a duty cut under way and the guard on it. -/
def guardedCut : State :=
  (((trio .member).modOutlet 0 fun o => { o with state := .active, grant := 120, peak := 120, desired := 120 }).modClass .hw .c2
    fun c => { c with keep := 90, dutyMark := true }).modApp fun a => { a with guard := ⟨.range, 1, .bottom, false, 0⟩ }

/-- C2's run waits for 100 where the keep room and the holding room of class 3 are as given. -/
def waiting (keep : Nat) : State :=
  (((trio .member).modOutlet 1 fun o => { o with state := .waiting, desired := 100 }).modClass .hw .c3 fun c =>
    { c with keep := keep }).modQueue .hw .c3 fun q => { q with members := [1] }

theorem witness_pass_members :
    wanting.outletCfg? 0 = some steam ∧ (wanting.outlet 0).state = .active ∧ steam.kind = .modulating valve modulatingCfg ∧
      (waiting 100).outletCfg? 1 = some press ∧ press.batch?.isSome = true ∧ ((waiting 100).outlet 1).state = .waiting ∧
      ((waiting 100).outlet 1).grant = 0 ∧ (100 : Int) ≤ (waiting 100).keepRoom .hw .c3 ∧
      max 0 ((100 : Int) - ((waiting 100).outlet 1).peak) ≤ (waiting 100).holdingRoom .hw .c3 ∧
      ¬(100 : Int) ≤ (waiting 99).keepRoom .hw .c3 ∧ branch.kind = .monitor 50 ∧
      guardedCut.keepRoom .hw .c2 < 0 ∧ (guardedCut.outlet 0).state = .active := by decide +kernel

theorem witness_pulse_request :
    let s := (outletIn 0 (fun o => { o with state := .standby, pulsePhase := .requested, desired := 30 }) .member)
    s.outletCfg? 0 = some steam ∧ steam.modulating?.isSome = true ∧ (s.outlet 0).grant = 0 ∧
      ¬(30 : Int) ≤ s.keepRoom .hw .c2 := by decide +kernel

/-- The run is raised whole or not at all (R127). -/
theorem test_run_is_raised_whole : (((waiting 100).servicePass .hw .c3).outlet 1).grant = 100 ∧
    (((waiting 99).servicePass .hw .c3).outlet 1).grant = 0 := by decide +kernel

/-- The pass of that queue raises C1 to the keep amount, above its min draw (R126). -/
theorem test_pass_raises_to_the_keep : ((wanting.servicePass .hw .c2).outlet 0).grant = 90 := by decide +kernel

theorem witness_cut : (guardedCut.classHold .hw .c2).dutyMark = true ∧ guardedCut.guarded 0 = true ∧
    wanting.sumGrants .hw .c2 ≤ (wanting.classHold .hw .c2).keep := by decide +kernel

/-- C1 IDLE with 50 still granted and nothing to keep: an eligible grant that no step of a cut takes (R147 to R150). -/
theorem witness_cut_leaves_a_grant :
    let s := (trio .member).modOutlet 0 fun o => { o with state := .idle, grant := 50, peak := 50 }
    let t := s.keepCut .hw .c2
    ¬t.sumGrants .hw .c2 ≤ (s.classHold .hw .c2).keep ∧ s.outletCfg? 0 = some steam ∧ 0 < (t.outlet 0).grant ∧
      (s.classHold .hw .c2).dutyMark = false ∧ 0 ∈ t.reverseOrder .hw .c2 := by decide +kernel

/-- The guard holds the grant; without the duty mark the trim takes it to the keep amount (R147, R148). -/
theorem test_guard_holds_a_duty_cut : ((guardedCut.keepCut .hw .c2).outlet 0).grant = 120 ∧
    (((guardedCut.modClass .hw .c2 fun c => { c with dutyMark := false }).keepCut .hw .c2).outlet 0).grant = 90 := by
  decide +kernel

theorem witness_grant_change : (up .member).outletCfg? 0 = some steam ∧ (up .member).outletCfg? 2 = some branch ∧
    ((up .member).outlet 0).grant ≠ 89 ∧ steam.valve? = some valve ∧ 1 ≤ valve.ratedDraw ∧ branch.valve? = none := by
  decide +kernel

/-- A grant of 90 where 89 stands leaves the command at 38 %; with in-position asserted and the mark set the valve settles. -/
theorem witness_grant_settles_at_once :
    let s := State.setInPositionPin 0 true (outletIn 0 (fun o =>
      { o with grant := 89, peak := 89, command := 38, seenDeasserted := true }) .member)
    (s.outlet 0).grant ≠ 90 ∧ (100 * 90 + valve.ratedDraw - 1) / valve.ratedDraw = (s.outlet 0).command ∧
      (valve.feedback && (s.outlet 0).seenDeasserted && s.pins.inPosition[(0 : Chan)]) = true := by decide +kernel

theorem test_monitor_settles_at_once : (((up .member).setGrant 2 50).outlet 2).peak = 50 ∧
    (((up .member).setGrant 2 50).outlet 2).moving = false := by decide +kernel

theorem witness_settling :
    let p (ph : PulsePhase) (g : Nat) := outletIn 0 (fun o => { o with state := .standby, pulsePhase := ph, grant := g }) .member
    let b (d r : Bool) := outletIn 1 (fun o =>
      { o with state := .idle, endOfRun := true, disablePending := d, repeatFlag := r }) .member
    ((p .opening 30).outlet 0).grant = modulatingCfg.pulseDraw ∧ ((p .closing 0).outlet 0).grant = 0 ∧
      ((b true true).outlet 1).endOfRun = true ∧ ((b false true).outlet 1).repeatFlag = true ∧
      ((b false false).outlet 1).disablePending = false ∧ (b true true).outletCfg? 1 = some press := by decide +kernel

theorem witness_settling_pulse : steam.modulating? = some modulatingCfg ∧ modulatingCfg.pulseDraw = 30 ∧
    press.batch? = some batchCfg := by decide

theorem witness_guard : (⟨.range, 16, .top, true, 0⟩ : Guard).count ≤ 16 ∧ (⟨.range, 0, .bottom, false, 0⟩ : Guard).count ≤ 16 ∧
    (⟨.each, 0, .top, false, 1⟩ : Guard).mode = .each := by decide

/-! ### Witnesses: outlets -/

theorem witness_demand : Takes (outletIn 0 (fun o => { o with state := .idle }) .member) 0 steam ∧
    steam.modulating?.isSome = true ∧
    (let o := (outletIn 0 (fun o => { o with state := .idle }) .member).outlet 0
     o.outOfRange = false ∧ o.state ≠ .off ∧ (399 < 400 ∨ 2600 < 399)) := by decide +kernel

theorem witness_idle_timer :
    let s := outletIn 0 (fun o => { o with state := .idle, idleTimer := .running 119 }) .orphan
    Takes s 0 steam ∧ (s.outlet 0).state = .idle ∧ (s.outlet 0).idleTimer = .running 119 := by decide +kernel

theorem witness_pulse_timers :
    let s (p : PulsePhase) := outletIn 0 (fun o =>
      { o with state := .standby, pulsePhase := p, pulseTimer := some 119, pulseLength := some 19 }) .member
    (∀ p ∈ [PulsePhase.none, .requested, .opening, .held, .closing], Takes (s p) 0 steam) ∧
      steam.modulating? = some modulatingCfg ∧ 0 < modulatingCfg.pulseDraw ∧ (up .orphan).station ≠ .member ∧ ((s .held).outlet 0).pulsePhase = .held ∧
      ((s .held).outlet 0).pulseLength.isSome = true := by decide +kernel

theorem witness_in_position :
    let s (moving seen : Bool) := outletIn 0 (fun o => { o with moving := moving, seenDeasserted := seen }) .member
    Takes (s true true) 0 steam ∧ Takes (s true false) 0 steam ∧ Takes (s false true) 0 steam ∧ steam.feedback = true ∧
      (s true true).pins.inPosition[(0 : Chan)] = false ∧
      Takes (State.setInPositionPin 0 true (s false true)) 0 steam := by decide +kernel

theorem witness_stroke_timers :
    let s := outletIn 0 (fun o => { o with moving := true, stroke := some 14 }) .member
    let d := outletIn 0 (fun o => { o with drift := some 9 }) .member
    let b := outletIn 1 (fun o => { o with moving := true, stroke := some 9 }) .member
    Takes s 0 steam ∧ steam.valve? = some valve ∧ valve.feedback = true ∧
      Timer.below (2 * valve.strokeTime + valve.strokeTime) (s.outlet 0).stroke = true ∧
      Takes d 0 steam ∧ Timer.below (2 * valve.strokeTime) (d.outlet 0).drift = true ∧
      Takes b 1 press ∧ press.valve? = some { valve with feedback := false } := by decide +kernel

theorem witness_meter :
    let s := { outletIn 0 (fun o => { o with pulses := 34, largestBound := 120, excess := 1 }) .member with
      meterWindow := some 19 }
    Takes s 0 steam ∧ s.acts = true ∧ s.meterWindow.isSome = true ∧ Staying s ∧
      (s.outlet 0).largestBound * (100 + steam.tolerance) / 100 + 1 < (s.outlet 0).pulses * steam.pulseWeight ∧
      min ((s.outlet 0).excess + 1) steam.persistence = steam.persistence := by decide +kernel

/-- C1 shut through the window with 2 pulses of 4 hu, IDLE with its timer running, or in STANDBY; and IDLE held by its group. -/
theorem witness_own_flow :
    let s (st : OutletState) (t : IdleTimer) := { outletIn 0 (fun o =>
      { o with state := st, idleTimer := t, pulseTimer := some 7, pulses := 2 }) .member with meterWindow := some 19 }
    steam.modulating? = some modulatingCfg ∧ modulatingCfg.ownFlow = true ∧
      (∀ x ∈ [s .idle (.running 9), s .standby .stopped], Takes x 0 steam ∧ x.meterWindow.isSome = true ∧
        x.fru.responses.overdraw ≠ .isolate ∧ (x.outlet 0).shut = true ∧ 1 < (x.outlet 0).pulses * steam.pulseWeight ∧
        (x.outlet 0).level = 0 ∧ (x.outlet 0).idleTimer ≠ .held) := by decide +kernel

theorem test_own_flow :
    let s (st : OutletState) (n : Nat) := { outletIn 0 (fun o =>
      { o with state := st, idleTimer := .running 9, pulses := n }) .syncing with meterWindow := some 19 }
    ((after .meterWindowEnds (s .idle 2)).outlet 0).idleTimer = .running 0 ∧
      ((after .meterWindowEnds (s .idle 0)).outlet 0).idleTimer = .running 9 ∧
      ((after .meterWindowEnds (s .standby 2)).outlet 0).state = .idle ∧
      ((after .meterWindowEnds (s .standby 0)).outlet 0).state = .standby := by decide +kernel

theorem witness_runs :
    let s (st : OutletState) (e : Bool) := outletIn 1 (fun o => { o with state := st, endOfRun := e, suspension := some 0 }) .member
    Takes (s .idle false) 1 press ∧ Takes (s .idle true) 1 press ∧ Takes (s .off false) 1 press ∧
      Takes (s .running false) 1 press ∧ Takes (s .suspended false) 1 press ∧ press.batch? = some batchCfg ∧
      (up .member).pins.call[(1 : Chan)] = false ∧ ((s .running false).outlet 1).moving = false ∧
      ((s .suspended false).outlet 1).suspension.isSome = true := by decide +kernel

/-- A falling edge, the pin asserted before it (R161). -/
theorem test_call_falls :
    let s := State.setCallPin 1 true (outletIn 1 (fun o => { o with state := .waiting }) .member)
    s.pins.call[(1 : Chan)] = true ∧ (after (.callInputFalls 1) s).pins.call[(1 : Chan)] = false ∧
      (after (.callInputFalls 1) s).outlets = s.outlets := by decide +kernel

/-- A spoilt run with its repeat flag set is discarded, and a new run waits (R168). -/
theorem test_spoilt_run_begins_its_repeat :
    let s := (trio .syncing).modOutlet 1 fun o => { o with state := .suspended, suspension := some 119, repeatFlag := true }
    let t := after (.runSpoilt 1) s
    (t.outlet 1).state = .waiting ∧ (t.outlet 1).runRemaining = 120 ∧ (t.outlet 1).repeatFlag = false ∧
      (t.outlet 1).lastFault = some .runSpoilt ∧ t.fru.counters.runsSpoilt = 1 := by decide +kernel

/-! ### Witnesses: stages -/

theorem witness_stage_inputs :
    let s (st : StageState) (t : Timer) := stageIn (fun g => { g with state := st, lockout := t }) .member
    StageTakes (s .called none) 3 boiler ∧ StageTakes (s .ready none) 3 boiler ∧ StageTakes (s .tripped none) 3 boiler ∧
      StageTakes (s .lockout (some 0)) 3 boiler ∧ (s .called none).pins.ready[(3 : Chan)] = false ∧
      (State.setReadyPin 3 true (s .ready none)).pins.ready[(3 : Chan)] = true ∧
      (State.setTripPin 3 true (s .tripped none)).pins.trip[(3 : Chan)] = true ∧
      StageTakes (State.setTripPin 3 true (s .lockout none)) 3 boiler := by decide +kernel

/-- Stations 2 and 3 want more than the copy has free, and the own stage of C4 is DOWN. -/
def short : State :=
  (State.withCopy [(0, entry 2 (shares 0 0 0 0 0 0)), (1, entry 1 (shares 0 0 0 0 300 0))]
    ((up .member).modMemb fun m => { m with ownLanding := some 0 })).modSupply .hw fun p =>
      { p with callTimer := some 60 }

theorem witness_stage_timers :
    let w := stageIn (fun g => { g with state := .called, warmUp := some 59 }) .member
    let l := stageIn (fun g => { g with state := .lockout, lockout := some 119 }) .member
    StageTakes w 3 boiler ∧ (w.stage 3).warmUp.isSome = true ∧ StageTakes l 3 boiler ∧
      (l.stage 3).lockout.isSome = true ∧ l.pins.trip[(3 : Chan)] = false ∧
      (State.setTripPin 3 true l).pins.trip[(3 : Chan)] = true := by decide +kernel

theorem witness_call_and_drop :
    short.acts = true ∧ short.station = .member ∧ short.callCondition .hw = true ∧
      Timer.atLeast (short.callDelay .hw) (short.supply.get .hw).callTimer = true ∧ short.callCandidate .hw = some 3 ∧
      (let s := short.modSupply .hw fun p => { p with callTimer := some 59, dropTimer := some 599, dropCandidate := some 3 }
       Timer.below (s.callDelay .hw) (s.supply.get .hw).callTimer = true ∧ (s.supply.get .hw).dropCandidate = some 3 ∧
         (s.supply.get .hw).dropTimer.isSome = true) := by decide +kernel

theorem test_call_warms_the_stage_up : ((callStep .hw short).stage 3).state = .called := by decide +kernel

theorem witness_not_acting : State.reset.acts = false ∧ (up .inert).acts = false := by decide +kernel

/-! ### Witnesses: the service line -/

theorem witness_reading : Free (up .member) ∧ (4 : Byte).toNat ≤ 4 ∧ (16 : Byte).toNat = (15 : Chan).val + 1 ∧
    (32 : Byte).toNat = (31 : Stn).val + 1 ∧ 32 < (33 : Byte).toNat ∧ (0 : Byte).toNat = 0 := by decide

theorem witness_busy :
    let s := (up .member).modSerial fun l => { l with busy := true }
    s.pins.reset = false ∧ s.serial.busy = true ∧ (List.replicate 64 (0 : Byte)).length = 64 := by decide

/-- READ-FLAGS with a wrong check byte, and with a byte too many (R203). -/
theorem witness_malformed : endedFrame [165, 5, 0, 0] = some [165, 5, 0, 0] ∧ malformed [165, 5, 0, 0] = true ∧
    endedFrame [7, 165, 5, 1, 0, 250] = some [165, 5, 1, 0, 250] ∧ malformed [165, 5, 1, 0, 250] = true ∧
    endedFrame [165, 5, 1, 0] = none ∧ endedFrame [7] = none := by decide

/-- A start byte alone is an open frame, and one short of its check byte, also after noise; nothing received, noise alone and a
whole frame are not (R203). -/
theorem witness_open_frames : frameOpen [165] = true ∧ frameOpen [165, 5, 0] = true ∧ frameOpen [] = false ∧
    frameOpen [7] = false ∧ frameOpen [165, 5, 0, 251] = false ∧ frameOpen [7, 165, 5] = true ∧
    (∀ b ∈ [(7 : Byte)], b ≠ 165) := by decide

/-- Codes 5, 10 and 13 with their arguments (R203, R204). -/
theorem test_frames_name_their_commands : readCommand [165, 5, 0, 251] = some .readFlags ∧
    readCommand [165, 10, 6, 1, 16, 0, 1, 1, 2, 219] = some (.setGuard 1 16 0 1 0x0102) ∧
    readCommand [165, 6, 2, 1, 255, 248] = some (.clearFlags 0x01FF) ∧ readCommand [165, 14, 0, 242] = none ∧
    readCommand [165, 11, 1, 0, 244] = none ∧
    readCommand ([165, 13, 65, 5] ++ List.replicate 64 9 ++ [109]) = some (.writeSettings 5 (List.replicate 64 9)) := by decide

/-- A response is 90, its status, its length, its data and the byte that makes the sum of all but the start byte 0 (R203). -/
theorem test_response_frames : Reply.frame ⟨.done, [1, 2], true⟩ = [90, 0, 2, 1, 2, 251] ∧
    Reply.frame ⟨.badFrame, [], false⟩ = [90, 5, 0, 251] ∧
    ((up .member).answer .locked []).responseFrame = some [90, 3, 0, 253] := by decide

/-- READ-FLAGS in full: 5 + 0 + 251 is 256 (R203). -/
theorem test_good_frame_is_not_malformed : malformed [165, 5, 0, 251] = false := by decide

theorem witness_response :
    let s (w : Bool) := (up .inert).modSerial fun _ => ⟨true, [⟨.done, [], true⟩, ⟨.busy, [], false⟩], w⟩
    (s true).serial.replies = ⟨.done, [], true⟩ :: [⟨.busy, [], false⟩] ∧ (s true).serial.resetWaiting = true ∧
      (s false).serial.resetWaiting = false ∧
      ((s true).modSerial fun l => { l with replies := [⟨.busy, [], false⟩] }).serial.replies = ⟨.busy, [], false⟩ :: [] := by
  decide

theorem witness_clear_flags : Free (up .member) ∧ (511 : BitVec 16).toNat < 512 ∧ 512 ≤ (512 : BitVec 16).toNat := by decide

theorem witness_outlet_commands :
    let s (st : OutletState) := outletIn 0 (fun o => { o with state := st, outOfRange := true }) .member
    Free (s .off) ∧ (1 : Byte).toNat = (0 : Chan).val + 1 ∧ (s .off).outletCfg? 0 = some steam ∧ Staying (s .off) ∧
      Free (s .fault) ∧ ((s .fault).outlet 0).moving = false ∧ (s .running).station ≠ .inert ∧
      (up .member).outletCfg? 15 = none ∧ (16 : Byte).toNat = (15 : Chan).val + 1 := by decide +kernel

theorem witness_set_guard : Free (up .member) ∧ (up .member).pins.lock = false ∧
    ¬(1 < (1 : Byte).toNat ∨ 16 < (16 : Byte).toNat ∨ 1 < (1 : Byte).toNat ∨ 1 < (0 : Byte).toNat) ∧
    16 < (17 : Byte).toNat ∧ (State.reset).station = .start ∧
    ({ up .member with pins := { Pins.initial with lock := true } }).pins.lock = true := by decide

/-- Segments 0 to 4 of a valid image received, 5 to come. -/
def staged : State :=
  (up .inert).modLoader fun l =>
    { l with staging := Vector.ofFn fun k => if k.val < 5 then some ((imageBytes.drop (64 * k.val)).take 64) else none }

theorem witness_staging :
    let s := staged.stage64 5 (imageBytes.drop 320)
    Free staged ∧ (imageBytes.drop 320).length = 64 ∧ staged.station = .inert ∧
      stagedBytes s.loader.staging = some imageBytes ∧ (up .inert).loader.staging[(0 : Fin 6)] = none := by
  decide +kernel

/-- Six segments of zeros make an image that fails check 2. -/
theorem witness_staging_fails :
    let s := ((up (.halted true)).modLoader fun l => { l with staging := Vector.replicate 6 (some (List.replicate 64 0)) })
    stagedBytes s.loader.staging = some (List.replicate 384 0) ∧ s.station = .halted true ∧
      some (List.replicate 384 (0 : Byte)) ≠ some imageBytes := by decide +kernel

theorem witness_memory_write :
    let s (p : WritePhase) := (staged.stage64 5 (imageBytes.drop 320)).modLoader fun l => { l with write := some p }
    (s .readBack).pins.reset = false ∧ (s (.page 11)).loader.write = some (.page 11) ∧
      (s (.polling 0)).loader.write = some (.polling 0) ∧ (s (.polling 0)).loader.reading = false ∧ imageBytes.length = 384 ∧
      stagedBytes (s .readBack).loader.staging = some imageBytes ∧ (1 : Byte).getLsbD 0 = true ∧
      (0 : Byte).getLsbD 0 = false := by decide +kernel

/-- After reset the Loader asks for the status and reads from offset 0; page 11 is written at 352 (R198, R206). -/
theorem test_memory_exchanges : Loader.exchanges State.reset.loader = [[5], [3, 0, 0]] ∧
    (let l (p : WritePhase) := ((up .inert).modLoader fun l => { l with write := some p }).loader
     Loader.exchanges (l (.polling 3)) = [[5]] ∧ WritePhase.after 1 3 = .polling 3 ∧ WritePhase.after 0 3 = .page 4) ∧
    (let l := ((staged.stage64 5 (imageBytes.drop 320)).modLoader fun l => { l with write := some (.page 11) }).loader
     Loader.exchanges l = [[6], [2, 1, 96] ++ List.replicate 30 0 ++ [241, 108], [5]]) ∧
    State.reset.memoryLine.head? = some [false, false, false, false, false, true, false, true] := by decide +kernel

/-! ### Witnesses: the invariants -/

theorem witness_invariants : wanting.boundsSound = true ∧ guardedCut.grantsSound = true ∧ wanting.ledgerSound = true ∧
    wanting.fru.counters.sound = true := by decide +kernel

theorem witness_step : ∃ t, step { State.reset with pending := [.powerOn] } = .next t := ⟨_, rfl⟩

end Sys2Proof.Tests
end

namespace Sys2Proof.Machine

/-! ### The derived quantities of the ledger copy, each by its rule -/

/-- A quantity that is 0 off a choice of MEMBER entries, summed over all of them, is its sum over the stations chosen. -/
theorem sumMembers_ite (copy : Copy) (f : Entry → Nat) {chosen : Entry → Bool}
    (hmember : ∀ e, chosen e = true → e.isMember = true) :
    sumMembers copy (fun e => if chosen e then f e else 0) =
      ((stations.filter fun s => chosen copy[s]).map fun s => f copy[s]).sum := by
  simp only [sumMembers]
  induction stations with
  | nil => rfl
  | cons s rest ih =>
    rw [List.map_cons, List.sum_cons, List.filter_cons, ih]
    by_cases hs : chosen copy[s] = true
    · rw [if_pos (hmember _ hs), if_pos hs, if_pos hs, List.map_cons, List.sum_cons]
    · rw [if_neg hs, if_neg hs, ite_self, Nat.zero_add]

theorem Entry.active_iff (e : Entry) (v : Svc) :
    e.active v = true ↔ e.isMember = true ∧ (e.total v ≠ 0 ∨ e.want v ≠ 0) := by
  simp only [Entry.active, Bool.and_eq_true, Bool.or_eq_true, bne_iff_ne]

/-- The station total class by class (R6). -/
theorem Entry.total_eq_holdings (e : Entry) (v : Svc) :
    e.total v = e.holding v .c0 + e.holding v .c1 + e.holding v .c2 + e.holding v .c3 := rfl

theorem activeWeight_eq_sum (copy : Copy) (v : Svc) :
    activeWeight copy v = ((stations.filter fun s => (copy[s]).active v).map fun s => (copy[s]).weight).sum :=
  sumMembers_ite copy Entry.weight fun e he => ((e.active_iff v).mp he).1

theorem activeWeight_eq_zero {copy : Copy} {v : Svc} (hnone : ∀ s : Stn, (copy[s]).active v = false) :
    activeWeight copy v = 0 := by
  have hempty : (stations.filter fun s => (copy[s]).active v) = [] :=
    List.filter_eq_nil_iff.mpr fun s _ => ne_true_of_eq_false (hnone s)
  rw [activeWeight_eq_sum, hempty, List.map_nil, List.sum_nil]

theorem othersWant_iff (copy : Copy) (v : Svc) (s : Stn) :
    othersWant copy v s = true ↔ ∃ p : Stn, p ≠ s ∧ (copy[p]).isMember = true ∧ (copy[p]).want v ≠ 0 := by
  simp only [othersWant, List.any_eq_true, mem_stations, true_and, Bool.and_eq_true, bne_iff_ne, and_assoc]

/-- The fair share of a station in the active set is the plain weighted share (R7). -/
theorem fairShare_of_active {copy : Copy} {v : Svc} {s : Stn} (hactive : (copy[s]).active v = true) :
    fairShare copy v s = capacity copy v * (copy[s]).weight / activeWeight copy v := by
  rw [fairShare, if_pos hactive]

/-- A MEMBER station above its fair share holds something, so it is in the active set (R29). -/
theorem active_of_fairShare_lt_total {copy : Copy} {v : Svc} {s : Stn} (hmember : (copy[s]).isMember = true)
    (habove : fairShare copy v s < (copy[s]).total v) : (copy[s]).active v = true :=
  (Entry.active_iff _ v).mpr ⟨hmember, .inl (Nat.ne_zero_of_lt habove)⟩

theorem reclaimAmount_of_othersWant {copy : Copy} {v : Svc} {s : Stn} (hmember : (copy[s]).isMember = true)
    (hothers : othersWant copy v s = true) : reclaimAmount copy v s = (copy[s]).total v - fairShare copy v s := by
  rw [reclaimAmount, if_pos (Bool.and_eq_true_iff.mpr ⟨hmember, hothers⟩)]

theorem reclaimAmount_of_not_othersWant {copy : Copy} {v : Svc} {s : Stn} (hothers : ¬othersWant copy v s = true) :
    reclaimAmount copy v s = 0 := by
  rw [reclaimAmount, if_neg fun h => hothers (Bool.and_eq_true_iff.mp h).2]

/-- The reclaim amount is at most the excess over the fair share. -/
theorem reclaimAmount_le_excess (copy : Copy) (v : Svc) (s : Stn) :
    reclaimAmount copy v s ≤ (copy[s]).total v - fairShare copy v s := by
  unfold reclaimAmount
  split
  · exact Nat.le_refl _
  · exact Nat.zero_le _

end Sys2Proof.Machine

namespace Sys2Proof.Proofs

open Sys2Proof.Machine

/-- Settles O25: a station above its fair share holds something, so it is active; what it holds in excess is reclaimed when
another MEMBER wants. -/
theorem reclaimAmountIsTheExcess : Obligations.ReclaimAmountIsTheExcess := by
  intro copy v s hmember
  constructor
  · intro hothers habove
    have hactive := active_of_fairShare_lt_total hmember habove
    exact ⟨reclaimAmount_of_othersWant hmember ((othersWant_iff copy v s).mpr hothers), hactive,
      fairShare_of_active hactive⟩
  · rintro (hnobody | hwithin)
    · exact reclaimAmount_of_not_othersWant (mt (othersWant_iff copy v s).mp hnobody)
    · have hle := reclaimAmount_le_excess copy v s
      omega

/-- Settles O24, clause by clause of R6. -/
theorem stationTotalAndActiveSet : Obligations.StationTotalAndActiveSet := by
  intro copy v
  exact ⟨fun s _ => Entry.total_eq_holdings copy[s] v, fun s => Entry.active_iff copy[s] v, activeWeight_eq_sum copy v,
    activeWeight_eq_zero⟩

end Sys2Proof.Proofs

namespace Sys2Proof.Machine

/-! ### The shed guard: what it covers in each mode -/

theorem Guard.inRange_iff_of_top {g : Guard} {ch : Chan} (hside : g.side = .top) :
    Guard.inRange g ch = true ↔ 16 - g.count ≤ ch.val := by
  simp only [Guard.inRange, hside, decide_eq_true_eq]

theorem Guard.inRange_iff_of_bottom {g : Guard} {ch : Chan} (hside : g.side = .bottom) :
    Guard.inRange g ch = true ↔ ch.val < g.count := by
  simp only [Guard.inRange, hside, decide_eq_true_eq]

/-- On either side a count of 0 gives an empty range (R154). -/
theorem Guard.inRange_of_count_zero {g : Guard} {ch : Chan} (hcount : g.count = 0) : Guard.inRange g ch = false := by
  have hch := ch.isLt
  rw [Bool.eq_false_iff]
  cases hside : g.side with
  | top => rw [ne_eq, Guard.inRange_iff_of_top hside]; omega
  | bottom => rw [ne_eq, Guard.inRange_iff_of_bottom hside]; omega

/-- On either side a count of 16 gives all sixteen channels (R154). -/
theorem Guard.inRange_of_count_sixteen {g : Guard} {ch : Chan} (hcount : g.count = 16) : Guard.inRange g ch = true := by
  have hch := ch.isLt
  cases hside : g.side with
  | top => rw [Guard.inRange_iff_of_top hside]; omega
  | bottom => rw [Guard.inRange_iff_of_bottom hside]; omega

theorem Guard.covers_of_range {g : Guard} (hmode : g.mode = .range) (ch : Chan) :
    Guard.covers g ch = (Guard.inRange g ch != g.complement) := by
  rw [Guard.covers, hmode]

/-- With the complement clear, a RANGE guard covers its range (R154). -/
theorem Guard.covers_of_range_clear {g : Guard} (hmode : g.mode = .range) (hcomp : g.complement = false) (ch : Chan) :
    Guard.covers g ch = Guard.inRange g ch := by
  rw [Guard.covers_of_range hmode, hcomp, Bool.bne_false]

/-- With the complement set, a RANGE guard covers what is outside its range (R154). -/
theorem Guard.covers_of_range_set {g : Guard} (hmode : g.mode = .range) (hcomp : g.complement = true) (ch : Chan) :
    Guard.covers g ch = !Guard.inRange g ch := by
  rw [Guard.covers_of_range hmode, hcomp, Bool.bne_true]

theorem Guard.covers_of_each {g : Guard} (hmode : g.mode = .each) (ch : Chan) :
    Guard.covers g ch = g.flags.getLsbD ch.val := by
  rw [Guard.covers, hmode]

/-- What the present guard covers is guarded on an OUTLET channel alone (R156). -/
theorem State.guarded_of_guard {s : State} {g : Guard} (hguard : s.app.guard = g) (ch : Chan) :
    s.guarded ch = ((s.outletCfg? ch).isSome && Guard.covers g ch) := by
  rw [State.guarded, hguard]

end Sys2Proof.Machine

namespace Sys2Proof.Proofs

open Sys2Proof.Machine

/-- Settles O38: a RANGE guard covers its range or, with the complement set, the rest; the range bounds the channel from below
on the side TOP and from above on the side BOTTOM. -/
theorem guardRange : Obligations.GuardRange := by
  intro g ch hmode hle
  have hch := ch.isLt
  refine ⟨?top, ?bottom, ?complement, ?none, ?all, ?flags, fun s hguard => State.guarded_of_guard hguard ch⟩
  case top =>
    intro hside hcomp
    rw [Guard.covers_of_range_clear hmode hcomp, Guard.inRange_iff_of_top hside]
    omega
  case bottom =>
    intro hside hcomp
    rw [Guard.covers_of_range_clear hmode hcomp, Guard.inRange_iff_of_bottom hside]
    omega
  case complement =>
    intro hcomp
    have hclear := Guard.covers_of_range_clear (g := { g with complement := false }) hmode rfl ch
    exact (Guard.covers_of_range_set hmode hcomp ch).trans (congrArg not hclear.symm)
  case none =>
    intro hcount
    rw [Guard.covers_of_range hmode, Guard.inRange_of_count_zero hcount, Bool.false_bne]
  case all =>
    intro hcount
    rw [Guard.covers_of_range hmode, Guard.inRange_of_count_sixteen hcount, Bool.true_bne]
  case flags =>
    intro flags
    exact (Guard.covers_of_range (g := { g with flags }) hmode ch).trans (Guard.covers_of_range hmode ch).symm

/-- Settles O39: in EACH mode what a guard covers is its flag, read off the mode and the flag set alone. -/
theorem guardEach : Obligations.GuardEach := by
  intro g ch hmode
  have hflag := Guard.covers_of_each hmode ch
  refine ⟨by rw [hflag], ?unused, fun s hguard => State.guarded_of_guard hguard ch⟩
  case unused =>
    intro count side complement
    exact (Guard.covers_of_each (g := { g with count, side, complement }) hmode ch).trans hflag.symm

end Sys2Proof.Proofs

namespace Sys2Proof.Machine

/-! ### What the outlet work of one event can do: one record at a time, and to the Apportioner -/

/-- One thing that a standing reaction does to an outlet record, set up by `c?`. A grant falls freely; it rises only when `up`
holds, and never past the desired draw (R100 to R113, R130, R137, R146 to R152, R163 to R170). -/
inductive Outlet.Step (up : Prop) (c? : Option OutletCfg) (o : Outlet) : Outlet → Prop where
  | level (c) : c? = some c → c.modulating?.isSome = true → Step up c? o o.followLevel
  | group (c v m b) : c? = some c → c.kind = .modulating v m → m.groupSource = true → Step up c? o (o.followGroup b)
  | desire (c) : c? = some c → Step up c? o { o with desired := OutletCfg.desiredDraw c o }
  | stroke (c v pin g) : c? = some c → c.valve? = some v → (g ≤ o.grant ∨ (up ∧ g ≤ o.desired)) →
      Step up c? o (o.strokeTo v.ratedDraw pin g)
  | reserve (c g) : c? = some c → c.valve? = none → (g ≤ o.grant ∨ (up ∧ g ≤ o.desired)) → Step up c? o (o.reserve g)
  | settle (c) : c? = some c → Step up c? o (OutletCfg.settleState c o.settleRecord)
  | cutPulse : o.pulsePhase = .opening ∨ o.pulsePhase = .held →
      Step up c? o { o with pulsePhase := .closing, pulseLength := none, desired := 0 }
  | dropPulse : o.pulsePhase = .requested → Step up c? o { o with pulsePhase := .none, desired := 0 }
  | discard : o.state = .running → o.disablePending = true → Step up c? o (o.discardRun .off)
  | suspend : o.state = .running → Step up c? o { o with state := .suspended, suspension := some 0 }
  | start : o.state = .waiting → Step up c? o { o with state := .running }
  | resume : o.state = .suspended → Step up c? o { o with state := .running, suspension := none }
  | openPulse : o.state = .standby → Step up c? o { o with pulsePhase := .opening }

/-- What the outlet work of an event does to the station: steps of single records, changes of the Apportioner whose raise and
start orders gain channels of their class alone, and counts of missed pulses. -/
inductive Works (up : Prop) : State → State → Prop where
  | refl (s) : Works up s s
  | trans {s t u} : Works up s t → Works up t u → Works up s u
  | outlet {s} (ch f) : Outlet.Step up (s.outletCfg? ch) (s.outlet ch) (f (s.outlet ch)) → Works up s (s.modOutlet ch f)
  | app {s} (f) : (f s.app).guard = s.app.guard →
      (∀ v k, ∀ ch ∈ (f s.app).raiseOrder.get v k, ch ∈ s.app.raiseOrder.get v k ∨ s.inClass v k ch = true) →
      (∀ v k, ∀ ch ∈ (f s.app).startOrder.get v k, ch ∈ s.app.startOrder.get v k ∨ s.inClass v k ch = true) →
      Works up s (s.modApp f)
  | missed (s) : Works up s s.countPulseMissed

theorem Works.forEach {up : Prop} {α : Type} (l : List α) (f : α → State → State) (h : ∀ a t, Works up t (f a t)) (s : State) :
    Works up s (forEach l f s) := by
  induction l generalizing s with
  | nil => exact .refl s
  | cons a rest ih => exact (h a s).trans (ih (f a s))

theorem Works.ite {up : Prop} {s a b : State} {p : Prop} [Decidable p] (ha : p → Works up s a) (hb : ¬p → Works up s b) :
    Works up s (if p then a else b) := by
  split
  · next h => exact ha h
  · next h => exact hb h

section
variable {up : Prop} (s : State)

/-- A change of the Apportioner that leaves the guard and the two orders as they are. -/
theorem Works.appQuiet (f : Apportioner → Apportioner) (hg : (f s.app).guard = s.app.guard)
    (hr : (f s.app).raiseOrder = s.app.raiseOrder) (hs : (f s.app).startOrder = s.app.startOrder) :
    Works up s (s.modApp f) :=
  .app f hg (fun v k ch h => .inl (by rwa [hr] at h)) fun v k ch h => .inl (by rwa [hs] at h)

theorem markPass_works (v : Svc) (k : Cls) : Works up s (s.markPass v k) := .appQuiet s _ rfl rfl rfl

theorem modQueue_works (v : Svc) (k : Cls) (f : WaitQueue → WaitQueue) : Works up s (s.modQueue v k f) :=
  .appQuiet s _ rfl rfl rfl

/-- What stands in an order of a class after the order of one class has been changed. -/
theorem Per8.mem_set {α : Type} {p : Per8 (List α)} {v w : Svc} {k j : Cls} {l : List α} {a : α}
    (h : a ∈ Per8.get (Per8.set p v k l) w j) : a ∈ Per8.get p w j ∨ (v = w ∧ k = j ∧ a ∈ l) := by
  by_cases e : v = w ∧ k = j
  · obtain ⟨rfl, rfl⟩ := e
    rw [Per8.get_set_self] at h
    exact .inr ⟨rfl, rfl, h⟩
  · rw [Per8.get_set_of_ne p l (Classical.not_and_iff_not_or_not.mp e)] at h
    exact .inl h

theorem modRaiseOrder_works (v : Svc) (k : Cls) (f : List Chan → List Chan)
    (h : ∀ l, ∀ ch ∈ f l, ch ∈ l ∨ s.inClass v k ch = true) : Works up s (s.modRaiseOrder v k f) := by
  refine .app _ rfl (fun w j ch hc => ?_) fun w j ch hc => .inl hc
  rcases Per8.mem_set hc with old | ⟨rfl, rfl, new⟩
  · exact .inl old
  · exact h _ ch new

theorem modStartOrder_works (v : Svc) (k : Cls) (f : List Chan → List Chan)
    (h : ∀ l, ∀ ch ∈ f l, ch ∈ l ∨ s.inClass v k ch = true) : Works up s (s.modStartOrder v k f) := by
  refine .app _ rfl (fun w j ch hc => .inl hc) fun w j ch hc => ?_
  rcases Per8.mem_set hc with old | ⟨rfl, rfl, new⟩
  · exact .inl old
  · exact h _ ch new

theorem mem_of_mem_dropChan {ch p : Chan} {l : List Chan} (h : p ∈ dropChan ch l) : p ∈ l := (List.mem_filter.mp h).1

theorem inClass_of_outletCfg {s : State} {ch : Chan} {c : OutletCfg} (h : s.outletCfg? ch = some c) :
    s.inClass c.svc c.cls ch = true := by simp [State.inClass, h]

theorem leaveStartOrder_works (ch : Chan) : Works up s (s.leaveStartOrder ch) := by
  unfold State.leaveStartOrder
  split
  · exact modStartOrder_works s _ _ _ fun l p hp => .inl (mem_of_mem_dropChan hp)
  · exact .refl s

theorem enterStartOrder_works (ch : Chan) : Works up s (s.enterStartOrder ch) := by
  unfold State.enterStartOrder
  split
  · next c hc =>
    refine modStartOrder_works s _ _ _ fun l p hp => ?_
    rcases List.mem_append.mp hp with hp | hp
    · exact .inl (mem_of_mem_dropChan hp)
    · rw [List.mem_singleton.mp hp]; exact .inr (inClass_of_outletCfg hc)
  · exact .refl s

theorem leaveQueue_works (ch : Chan) : Works up s (s.leaveQueue ch) := by
  unfold State.leaveQueue
  split
  · exact modQueue_works s _ _ _
  · exact .refl s

theorem settleValve_works (ch : Chan) : Works up s (s.settleValve ch) := by
  unfold State.settleValve
  split
  · next c hc =>
    have h : Works up s (s.modOutlet ch fun o => OutletCfg.settleState c o.settleRecord) := .outlet ch _ (.settle c hc)
    exact .ite (fun _ => h.trans (markPass_works _ _ _)) fun _ => h
  · exact .refl s

theorem mem_raiseOrderAfter {ch p : Chan} {g g' : Nat} {l : List Chan} (h : p ∈ raiseOrderAfter ch g g' l) : p ∈ l ∨ p = ch := by
  unfold raiseOrderAfter at h
  split at h
  · exact .inl (mem_of_mem_dropChan h)
  · split at h
    · rcases List.mem_append.mp h with h | h
      · exact .inl (mem_of_mem_dropChan h)
      · exact .inr (List.mem_singleton.mp h)
    · exact .inl h

/-- A grant falls to any amount; it rises, where rises are allowed, to the desired draw at most. -/
theorem setGrant_works (ch : Chan) (g : Nat) (hg : g ≤ (s.outlet ch).grant ∨ (up ∧ g ≤ (s.outlet ch).desired)) :
    Works up s (s.setGrant ch g) := by
  unfold State.setGrant
  split
  · next c hc =>
    dsimp only
    refine .ite (fun _ => .refl s) fun _ => ?_
    generalize hr : (if s.rotating then
        s.modRaiseOrder c.svc c.cls (raiseOrderAfter ch (s.outlet ch).grant g) else s) = r
    have wr : Works up s r ∧ r.outletCfg? ch = some c ∧ r.outlet ch = s.outlet ch := by
      rw [← hr]
      split
      · refine ⟨modRaiseOrder_works s _ _ _ fun l p hp => ?_, hc, rfl⟩
        rcases mem_raiseOrderAfter hp with hp | rfl
        · exact .inl hp
        · exact .inr (inClass_of_outletCfg hc)
      · exact ⟨.refl s, hc, rfl⟩
    generalize hq : (if g < (s.outlet ch).grant then r.markPass c.svc c.cls else r) = q
    have wq : Works up s q ∧ q.outletCfg? ch = some c ∧ q.outlet ch = s.outlet ch := by
      obtain ⟨w, e, o⟩ := wr
      rw [← hq]
      split
      · exact ⟨w.trans (markPass_works r _ _), e, o⟩
      · exact ⟨w, e, o⟩
    obtain ⟨w, e, o⟩ := wq
    rw [← o] at hg
    split
    · next v hv =>
      have wo := w.trans (.outlet ch _ (.stroke c v q.pins.inPosition[ch] g e hv hg))
      exact .ite (fun _ => wo.trans (settleValve_works _ ch)) fun _ => wo
    · next hv => exact w.trans (.outlet ch _ (.reserve c g e hv hg))
  · exact .refl s

theorem setGrant_zero_works (ch : Chan) : Works up s (s.setGrant ch 0) := setGrant_works s ch 0 (.inl (Nat.zero_le _))

theorem requeue_works (v : Svc) (k : Cls) : Works up s (s.requeue v k) := by
  unfold State.requeue
  exact .ite (fun _ => (modQueue_works s _ _ _).trans (markPass_works _ _ _)) fun _ => modQueue_works s _ _ _

theorem requeueAll_works : Works up s s.requeueAll := .forEach _ _ (fun _ t => requeue_works t _ _) s

theorem cutPulse_works {ch : Chan} (h : (s.outlet ch).pulsePhase = .opening ∨ (s.outlet ch).pulsePhase = .held) :
    Works up s (s.cutPulse ch) :=
  ((Works.outlet ch _ (.cutPulse h)).trans (setGrant_zero_works _ ch)).trans (.missed _)

theorem suspendRun_works {ch : Chan} (h : (s.outlet ch).state = .running) : Works up s (s.suspendRun ch) := by
  unfold State.suspendRun
  split
  · next hd => exact ((Works.outlet ch _ (.discard h hd)).trans (setGrant_zero_works _ ch)).trans (leaveStartOrder_works _ ch)
  · exact (Works.outlet ch _ (.suspend h)).trans (setGrant_zero_works _ ch)

theorem cutPulseStep_works (v : Svc) (k : Cls) (ch : Chan) : Works up s (cutPulseStep v k ch s) := by
  unfold cutPulseStep
  refine .ite (fun h => cutPulse_works s ?_) fun _ => .refl s
  simpa using (Bool.and_eq_true_iff.mp h).2

theorem trimStep_works (v : Svc) (k : Cls) (ch : Chan) : Works up s (trimStep v k ch s) := by
  unfold trimStep
  split
  · exact .ite (fun _ => setGrant_works s ch _ (.inl (Nat.min_le_left _ _))) fun _ => .refl s
  · exact .refl s

theorem closeStep_works (v : Svc) (k : Cls) (ch : Chan) : Works up s (closeStep v k ch s) :=
  .ite (fun _ => setGrant_zero_works s ch) fun _ => .refl s

theorem cutRunStep_works (v : Svc) (k : Cls) (ch : Chan) : Works up s (cutRunStep v k ch s) := by
  unfold cutRunStep
  refine .ite (fun h => suspendRun_works s ?_) fun _ => .refl s
  simpa using (Bool.and_eq_true_iff.mp h).2

theorem keepCut_works (v : Svc) (k : Cls) : Works up s (s.keepCut v k) := by
  unfold State.keepCut
  exact ((((Works.forEach _ _ (fun ch t => cutPulseStep_works t v k ch) s).trans
    (.forEach _ _ (fun ch t => trimStep_works t v k ch) _)).trans
    (.forEach _ _ (fun ch t => closeStep_works t v k ch) _)).trans
    (.forEach _ _ (fun ch t => cutRunStep_works t v k ch) _)).trans (requeue_works _ v k)

theorem zeroOutlet_works (ch : Chan) : Works up s (zeroOutlet ch s) := by
  have rest : Works up s (if (s.outlet ch).state = .running then s.suspendRun ch else s.setGrant ch 0) :=
    .ite (fun h => suspendRun_works s h) fun _ => setGrant_zero_works s ch
  unfold zeroOutlet
  dsimp only
  split
  · next h => exact cutPulse_works s (.inl h)
  · next h => exact cutPulse_works s (.inr h)
  · next h => exact (Works.outlet ch _ (.dropPulse h)).trans (setGrant_zero_works _ ch)
  · exact rest
  · exact rest

theorem leaveMember_works : Works up s (s.modApp Apportioner.leaveMember) :=
  .app _ rfl (fun v k ch h => by cases v <;> cases k <;> cases h) fun _ _ _ h => .inl h

theorem zeroAll_works : Works up s s.zeroAll :=
  ((Works.forEach _ _ (fun ch t => zeroOutlet_works t ch) s).trans (requeueAll_works _)).trans (leaveMember_works _)

theorem raiseWhole_works (ch : Chan) (hup : up) : Works up s (s.raiseWhole ch) := by
  have grant : ∀ t : State, (t.outlet ch).desired = (s.outlet ch).desired →
      Works up t (t.setGrant ch (s.outlet ch).desired) := fun t e =>
    setGrant_works t ch _ (.inr ⟨hup, Nat.le_of_eq e.symm⟩)
  have kept : ∀ t : State, (t.enterStartOrder ch).outlet ch = t.outlet ch := fun t => by
    unfold State.enterStartOrder; split <;> rfl
  unfold State.raiseWhole
  dsimp only
  split
  · next h =>
    exact ((Works.outlet ch _ (.start h)).trans (enterStartOrder_works _ ch)).trans (grant _ (by rw [kept]; simp))
  · next h => exact (Works.outlet ch _ (.resume h)).trans (grant _ (by simp))
  · next h => exact (Works.outlet ch _ (.openPulse h)).trans (grant _ (by simp))
  all_goals exact grant s rfl

theorem replace_works (v : Svc) (k : Cls) (ch : Chan) : Works up s (s.replace v k ch) :=
  .ite (fun _ => .ite (fun _ => modQueue_works s _ _ _) fun _ => .refl s) fun _ => modQueue_works s _ _ _

theorem largestRaise_le_desired {rk rh : Int} {o : Outlet} (h : o.grant < largestRaise rk rh o) :
    largestRaise rk rh o ≤ o.desired := by
  unfold largestRaise at h ⊢
  split
  · next hn => rw [if_pos hn] at h; omega
  · omega

theorem passMember_works (v : Svc) (k : Cls) (st : State × Option Chan) (ch : Chan) (hup : up) :
    Works up st.1 (passMember v k st ch).1 := by
  unfold passMember
  split
  · exact .refl _
  · dsimp only
    split
    · split
      · next h =>
        exact (setGrant_works st.1 ch _ (.inr ⟨hup, largestRaise_le_desired h.1⟩)).trans (replace_works _ v k ch)
      · exact .refl _
    · split
      · exact (raiseWhole_works st.1 ch hup).trans (replace_works _ v k ch)
      · split <;> exact .refl _
    · exact .refl _

theorem servicePass_works (v : Svc) (k : Cls) (hup : up) : Works up s (s.servicePass v k) := by
  have h : ∀ (l : List Chan) (st : State × Option Chan), Works up st.1 (l.foldl (passMember v k) st).1 := by
    intro l
    induction l with
    | nil => exact fun st => .refl _
    | cons ch rest ih => exact fun st => (passMember_works v k st ch hup).trans (ih _)
  exact (h (s.queue v k).members (s, none)).trans (modQueue_works _ v k _)

theorem levelStep_works (ch : Chan) : Works up s (levelStep ch s) := by
  unfold levelStep
  split
  · next c hc => exact .ite (fun h => .outlet ch _ (.level c hc h)) fun _ => .refl s
  · exact .refl s

theorem groupStep_works (ch : Chan) : Works up s (groupStep ch s) := by
  unfold groupStep
  split
  · next c hc =>
    split
    · next v m hk => exact .ite (fun h => .outlet ch _ (.group c v m _ hc hk h)) fun _ => .refl s
    · exact .refl s
    · exact .refl s
  · exact .refl s

theorem desiredStep_works (ch : Chan) : Works up s (desiredStep ch s) := by
  unfold desiredStep
  split
  · next c hc => exact .outlet ch _ (.desire c hc)
  · exact .refl s

theorem lowerStep_works (ch : Chan) : Works up s (lowerStep ch s) :=
  .ite (fun h => setGrant_works s ch _ (.inl (Nat.le_of_lt h))) fun _ => .refl s

theorem outletPhase_works : Works up s s.outletPhase :=
  ((((Works.forEach _ _ (fun ch t => levelStep_works t ch) s).trans
    (.forEach _ _ (fun ch t => groupStep_works t ch) _)).trans
    (.forEach _ _ (fun ch t => desiredStep_works t ch) _)).trans
    (.forEach _ _ (fun ch t => lowerStep_works t ch) _)).trans (requeueAll_works _)

end

end Sys2Proof.Machine

namespace Sys2Proof.Machine

/-! ### What the outlet work leaves alone, and what it keeps of each record -/

/-- Any number of steps of one record. -/
inductive Outlet.Steps (up : Prop) (c? : Option OutletCfg) (o : Outlet) : Outlet → Prop where
  | refl : Steps up c? o o
  | tail {o' o''} : Steps up c? o o' → Outlet.Step up c? o' o'' → Steps up c? o o''

theorem Outlet.Steps.trans {up : Prop} {c? : Option OutletCfg} {o o' o'' : Outlet} (h1 : Outlet.Steps up c? o o')
    (h2 : Outlet.Steps up c? o' o'') : Outlet.Steps up c? o o'' := by
  induction h2 with
  | refl => exact h1
  | tail _ hstep ih => exact ih.tail hstep

section
variable {up : Prop} {s t : State}

theorem Works.apart (h : Works up s t) : t.apart = s.apart := by
  induction h with
  | refl s => rfl
  | trans _ _ h1 h2 => exact h2.trans h1
  | outlet ch f _ => rfl
  | app f _ _ _ => rfl
  | missed s => rfl

theorem outletCfg_of_image {ch : Chan} (h : t.loader.image = s.loader.image) : t.outletCfg? ch = s.outletCfg? ch := by
  simp only [State.outletCfg?, State.cfg, h]

theorem inClass_of_image {v : Svc} {k : Cls} {ch : Chan} (h : t.loader.image = s.loader.image) :
    t.inClass v k ch = s.inClass v k ch := by
  simp only [State.inClass, outletCfg_of_image h]

theorem Works.loader (h : Works up s t) : t.loader = s.loader := loader_of_apart h.apart

theorem Works.outletCfg (h : Works up s t) (ch : Chan) : t.outletCfg? ch = s.outletCfg? ch :=
  outletCfg_of_image (by rw [h.loader])

/-- Outlet work moves each record by its own steps. -/
theorem Works.steps (h : Works up s t) (ch : Chan) : Outlet.Steps up (s.outletCfg? ch) (s.outlet ch) (t.outlet ch) := by
  induction h with
  | refl s => exact .refl
  | trans h1 _ ih1 ih2 => rw [h1.outletCfg] at ih2; exact ih1.trans ih2
  | outlet p f hf =>
    by_cases e : p = ch
    · subst e; rw [State.modOutlet_outlet_self]; exact .tail .refl hf
    · rw [State.modOutlet_outlet_of_ne _ _ e]; exact .refl
  | app f _ _ _ => exact .refl
  | missed s => exact .refl

/-- What each step of a record keeps, outlet work keeps of it. -/
theorem Works.keeps (h : Works up s t) (ch : Chan) (P : Outlet → Prop)
    (hP : ∀ o o', Outlet.Step up (s.outletCfg? ch) o o' → P o → P o') (hs : P (s.outlet ch)) : P (t.outlet ch) := by
  have hsteps := h.steps ch
  revert hsteps
  generalize t.outlet ch = o'
  intro hsteps
  induction hsteps with
  | refl => exact hs
  | tail _ hstep ih => exact hP _ _ hstep ih

theorem Works.guard (h : Works up s t) : t.app.guard = s.app.guard := by
  induction h with
  | refl s => rfl
  | trans _ _ h1 h2 => exact h2.trans h1
  | outlet ch f _ => rfl
  | app f hg _ _ => exact hg
  | missed s => rfl

theorem Works.weaken (h : Works False s t) : Works up s t := by
  have step : ∀ {c? o o'}, Outlet.Step False c? o o' → Outlet.Step up c? o o' := by
    intro c? o o' h
    cases h with
    | level c h1 h2 => exact .level c h1 h2
    | group c v m b h1 h2 h3 => exact .group c v m b h1 h2 h3
    | desire c h1 => exact .desire c h1
    | stroke c v pin g h1 h2 h3 => exact .stroke c v pin g h1 h2 (h3.imp id fun h => h.1.elim)
    | reserve c g h1 h2 h3 => exact .reserve c g h1 h2 (h3.imp id fun h => h.1.elim)
    | settle c h1 => exact .settle c h1
    | cutPulse h1 => exact .cutPulse h1
    | dropPulse h1 => exact .dropPulse h1
    | discard h1 h2 => exact .discard h1 h2
    | suspend h1 => exact .suspend h1
    | start h1 => exact .start h1
    | resume h1 => exact .resume h1
    | openPulse h1 => exact .openPulse h1
  induction h with
  | refl s => exact .refl s
  | trans _ _ h1 h2 => exact h1.trans h2
  | outlet ch f hf => exact .outlet ch f (step hf)
  | app f h1 h2 h3 => exact .app f h1 h2 h3
  | missed s => exact .missed s

end

/-! ### The records of outlets, field by field -/

section
variable {up : Prop} {c? : Option OutletCfg} {o o' : Outlet}

@[simp] theorem Outlet.followLevel_grant (o : Outlet) : o.followLevel.grant = o.grant := by
  unfold Outlet.followLevel; repeat' split
  all_goals rfl

@[simp] theorem Outlet.followLevel_peak (o : Outlet) : o.followLevel.peak = o.peak := by
  unfold Outlet.followLevel; repeat' split
  all_goals rfl

@[simp] theorem Outlet.followLevel_moving (o : Outlet) : o.followLevel.moving = o.moving := by
  unfold Outlet.followLevel; repeat' split
  all_goals rfl

@[simp] theorem Outlet.followGroup_grant (b : Bool) (o : Outlet) : (o.followGroup b).grant = o.grant := by
  unfold Outlet.followGroup; repeat' split
  all_goals rfl

@[simp] theorem Outlet.followGroup_peak (b : Bool) (o : Outlet) : (o.followGroup b).peak = o.peak := by
  unfold Outlet.followGroup; repeat' split
  all_goals rfl

@[simp] theorem Outlet.followGroup_moving (b : Bool) (o : Outlet) : (o.followGroup b).moving = o.moving := by
  unfold Outlet.followGroup; repeat' split
  all_goals rfl

/-- A settling in the record's state: the grant stands, the valve is SETTLED at it (R137). -/
theorem OutletCfg.settleState_valve (c : OutletCfg) (o : Outlet) :
    (OutletCfg.settleState c o).grant = o.grant ∧ (OutletCfg.settleState c o).peak = o.peak ∧
      (OutletCfg.settleState c o).moving = o.moving := by
  unfold OutletCfg.settleState
  split
  · unfold Outlet.settlePulse; repeat' split
    all_goals exact ⟨rfl, rfl, rfl⟩
  · unfold Outlet.settleRun; dsimp only; repeat' split
    all_goals exact ⟨rfl, rfl, rfl⟩
  · exact ⟨rfl, rfl, rfl⟩

/-- A step leaves grant, bound and motion as they are, or changes the grant, or settles the valve. -/
theorem Outlet.Step.valve (h : Outlet.Step up c? o o') :
    (o'.grant = o.grant ∧ o'.peak = o.peak ∧ o'.moving = o.moving) ∨
    (c?.isSome = true ∧ (o'.grant ≤ o.grant ∨ (up ∧ o'.grant ≤ o.desired)) ∧
      o'.grant ≤ o'.peak ∧ (o'.moving = true ∨ o'.grant = o'.peak)) ∨
    (o'.grant = o.grant ∧ o'.peak = o.grant ∧ o'.moving = false) := by
  cases h with
  | level c h1 h2 => exact .inl (by simp)
  | group c v m b h1 h2 h3 => exact .inl (by simp)
  | stroke c v pin g h1 h2 hg => exact .inr (.inl ⟨by simp [h1], hg, Nat.le_max_right _ _, .inl rfl⟩)
  | reserve c g h1 h2 hg =>
    subst h1
    exact .inr (.inl ⟨rfl, hg, Nat.le_refl _, .inr rfl⟩)
  | settle c h1 =>
    obtain ⟨hg, hp, hm⟩ := OutletCfg.settleState_valve c o.settleRecord
    exact .inr (.inr ⟨hg, hp, hm⟩)
  | _ => exact .inl ⟨rfl, rfl, rfl⟩

/-- A step keeps the bound at the grant or above, and at the grant once settled (R132). -/
theorem Outlet.Step.boundSound (h : Outlet.Step up c? o o') (ho : o.boundSound = true) : o'.boundSound = true := by
  simp only [Outlet.boundSound, Bool.and_eq_true, Bool.or_eq_true, decide_eq_true_eq, beq_iff_eq] at ho ⊢
  rcases h.valve with ⟨hg, hp, hm⟩ | ⟨-, -, hle, hm⟩ | ⟨hg, hp, -⟩
  · rwa [hg, hp, hm]
  · exact ⟨hle, hm⟩
  · rw [hg, hp]; exact ⟨Nat.le_refl _, .inr rfl⟩

/-- Where no rise is allowed a step raises no grant. -/
theorem Outlet.Step.grant_le (h : Outlet.Step False c? o o') : o'.grant ≤ o.grant := by
  rcases h.valve with ⟨hg, -, -⟩ | ⟨-, hle, -, -⟩ | ⟨hg, -, -⟩
  · exact Nat.le_of_eq hg
  · exact hle.resolve_right fun h => h.1
  · exact Nat.le_of_eq hg

/-- A grant of 0 on a channel that is no OUTLET stays 0. -/
theorem Outlet.Step.grant_of_none (h : Outlet.Step up none o o') : o'.grant = o.grant := by
  rcases h.valve with ⟨hg, -, -⟩ | ⟨hc, -, -, -⟩ | ⟨hg, -, -⟩
  · exact hg
  · simp at hc
  · exact hg

end

/-! ### The invariants along outlet work -/

theorem State.boundsSound_iff (s : State) : s.boundsSound = true ↔ ∀ ch, (s.outlet ch).boundSound = true := by
  simp [State.boundsSound]

theorem State.grantsSound_iff (s : State) :
    s.grantsSound = true ↔ ∀ ch, (s.outlet ch).grant = 0 ∨ (s.isMember = true ∧ (s.outletCfg? ch).isSome = true) := by
  simp [State.grantsSound]

theorem mem_serviceClasses (v : Svc) (k : Cls) : (v, k) ∈ serviceClasses := by cases v <;> cases k <;> decide

theorem State.ordersSound_iff (s : State) :
    s.ordersSound = true ↔ (s.loader.reading = true → s.loader.image = none) ∧
      ∀ v k, (∀ ch ∈ s.app.raiseOrder.get v k, s.inClass v k ch = true) ∧
        ∀ ch ∈ s.app.startOrder.get v k, s.inClass v k ch = true := by
  simp only [State.ordersSound, Bool.and_eq_true, Bool.or_eq_true, Bool.not_eq_true', List.all_eq_true, Option.isNone_iff_eq_none]
  refine and_congr ?_ ⟨fun h v k => h (v, k) (mem_serviceClasses v k), fun h p _ => h p.1 p.2⟩
  cases s.loader.reading <;> simp

theorem State.carriesSound_iff (s : State) :
    s.carriesSound = true ↔ ∀ v, (s.classHold v .c3).carriedShortage = 0 ∧ (s.classHold v .c3).carriedReclaim = 0 ∧
      (s.classHold v .c0).carriedReclaim = 0 := by
  simp [State.carriesSound, and_assoc]

/-- The seven counters within their ceiling (R195), by name. -/
structure Counters.InRange (c : Counters) : Prop where
  framesLanded : c.framesLanded ≤ Config.maxCount
  attemptsFailed : c.attemptsFailed ≤ Config.maxCount
  takeRefused : c.takeRefused ≤ Config.maxCount
  pulseMissed : c.pulseMissed ≤ Config.maxCount
  runsSpoilt : c.runsSpoilt ≤ Config.maxCount
  deferrals : c.deferrals ≤ Config.maxCount
  outletFaults : c.outletFaults ≤ Config.maxCount

theorem Counters.sound_iff {c : Counters} : c.sound = true ↔ c.InRange := by
  simp only [Counters.sound, Bool.and_eq_true, decide_eq_true_eq]
  exact ⟨fun ⟨⟨⟨⟨⟨⟨h1, h2⟩, h3⟩, h4⟩, h5⟩, h6⟩, h7⟩ => ⟨h1, h2, h3, h4, h5, h6, h7⟩,
    fun ⟨h1, h2, h3, h4, h5, h6, h7⟩ => ⟨⟨⟨⟨⟨⟨h1, h2⟩, h3⟩, h4⟩, h5⟩, h6⟩, h7⟩⟩

section
variable {up : Prop} {s t : State}

theorem Works.boundsSound (h : Works up s t) (hs : s.boundsSound = true) : t.boundsSound = true := by
  rw [State.boundsSound_iff] at hs ⊢
  exact fun ch => h.keeps ch (fun o => o.boundSound = true) (fun _ _ hstep => hstep.boundSound) (hs ch)

theorem Works.memb (h : Works up s t) : t.memb = s.memb := memb_of_apart h.apart

theorem Works.isMember (h : Works up s t) : t.isMember = s.isMember := by
  simp only [State.isMember, State.station, h.memb]

theorem Works.grant_zero (h : Works False s t) {ch : Chan} (hs : (s.outlet ch).grant = 0) : (t.outlet ch).grant = 0 :=
  h.keeps ch (fun o => o.grant = 0) (fun _ _ hstep ho => Nat.le_zero.mp (ho ▸ hstep.grant_le)) hs

theorem Works.grant_of_none (h : Works up s t) {ch : Chan} (hc : s.outletCfg? ch = none) :
    (t.outlet ch).grant = (s.outlet ch).grant := by
  refine h.keeps ch (fun o => o.grant = (s.outlet ch).grant) (fun _ _ hstep ho => ?_) rfl
  rw [hc] at hstep
  exact hstep.grant_of_none.trans ho

/-- Outlet work in which grants rise in MEMBER alone keeps every other grant at 0 (R124). -/
theorem Works.grantsSound (h : Works (s.isMember = true) s t) (hs : s.grantsSound = true) : t.grantsSound = true := by
  rw [State.grantsSound_iff] at hs ⊢
  intro ch
  rw [h.isMember, h.outletCfg]
  by_cases hm : s.isMember = true
  · cases hc : s.outletCfg? ch with
    | some c => exact .inr ⟨hm, rfl⟩
    | none => exact .inl ((h.grant_of_none hc).trans ((hs ch).resolve_right (by simp [hc])))
  · rw [eq_false hm] at h
    exact .inl (h.grant_zero ((hs ch).resolve_right fun e => hm e.1))

theorem Works.ordersSound (h : Works up s t) (hs : s.ordersSound = true) : t.ordersSound = true := by
  induction h with
  | refl s => exact hs
  | trans _ _ h1 h2 => exact h2 (h1 hs)
  | outlet ch f _ => exact hs
  | app f _ hr hst =>
    rw [State.ordersSound_iff] at hs ⊢
    obtain ⟨hread, horders⟩ := hs
    exact ⟨hread, fun v k => ⟨fun ch hc => (hr v k ch hc).elim ((horders v k).1 ch) id,
      fun ch hc => (hst v k ch hc).elim ((horders v k).2 ch) id⟩⟩
  | missed s => exact hs

theorem Works.countersSound (h : Works up s t) (hs : s.fru.counters.sound = true) : t.fru.counters.sound = true := by
  induction h with
  | refl s => exact hs
  | trans _ _ h1 h2 => exact h2 (h1 hs)
  | outlet ch f _ => exact hs
  | app f _ _ _ => exact hs
  | missed s =>
    rw [Counters.sound_iff] at hs
    exact Counters.sound_iff.mpr { hs with pulseMissed := countUp_le _ }

end

/-! ### What zero-all leaves -/

section
variable (s : State)

@[simp] theorem State.markPass_outlet (v : Svc) (k : Cls) (p : Chan) : (s.markPass v k).outlet p = s.outlet p := rfl

@[simp] theorem State.modApp_outlet (f : Apportioner → Apportioner) (p : Chan) : (s.modApp f).outlet p = s.outlet p := rfl

@[simp] theorem State.leaveStartOrder_outlet (ch p : Chan) : (s.leaveStartOrder ch).outlet p = s.outlet p := by
  unfold State.leaveStartOrder; split <;> rfl

@[simp] theorem State.enterStartOrder_outlet (ch p : Chan) : (s.enterStartOrder ch).outlet p = s.outlet p := by
  unfold State.enterStartOrder; split <;> rfl

@[simp] theorem State.leaveQueue_outlet (ch p : Chan) : (s.leaveQueue ch).outlet p = s.outlet p := by
  unfold State.leaveQueue; split <;> rfl

theorem settleValve_outlet_self {ch : Chan} {c : OutletCfg} (hc : s.outletCfg? ch = some c) :
    (s.settleValve ch).outlet ch = OutletCfg.settleState c (s.outlet ch).settleRecord := by
  simp only [State.settleValve, hc]
  split
  · rw [State.markPass_outlet, State.modOutlet_outlet_self]
  · rw [State.modOutlet_outlet_self]

theorem settleValve_outlet_of_ne {ch p : Chan} (hp : p ≠ ch) : (s.settleValve ch).outlet p = s.outlet p := by
  unfold State.settleValve
  split
  · dsimp only
    split
    · rw [State.markPass_outlet, State.modOutlet_outlet_of_ne _ _ hp.symm]
    · rw [State.modOutlet_outlet_of_ne _ _ hp.symm]
  · rfl

/-- An outlet's record after its grant has been changed to `g`, the in-position input standing at `pin` (R113, R132 to R137). -/
def OutletCfg.granted (c : OutletCfg) (pin : Bool) (g : Nat) (o : Outlet) : Outlet :=
  match c.valve? with
  | some v =>
    let o' := o.strokeTo v.ratedDraw pin g
    if v.feedback && o'.seenDeasserted && pin then OutletCfg.settleState c o'.settleRecord else o'
  | none => o.reserve g

/-- What a change of grant does before it reaches the record: to the raise order and the passes due alone. -/
def State.beforeGrant (c : OutletCfg) (ch : Chan) (g : Nat) (s : State) : State :=
  let r := if s.rotating then s.modRaiseOrder c.svc c.cls (raiseOrderAfter ch (s.outlet ch).grant g) else s
  if g < (s.outlet ch).grant then r.markPass c.svc c.cls else r

theorem beforeGrant_leaves (c : OutletCfg) (ch : Chan) (g : Nat) :
    (s.beforeGrant c ch g).outlets = s.outlets ∧ (s.beforeGrant c ch g).pins = s.pins ∧
      (s.beforeGrant c ch g).loader = s.loader := by
  unfold State.beforeGrant
  dsimp only
  split <;> split <;> exact ⟨rfl, rfl, rfl⟩

theorem setGrant_of_eq {ch : Chan} {g : Nat} (h : (s.outlet ch).grant = g) : s.setGrant ch g = s := by
  unfold State.setGrant
  split
  · exact if_pos h
  · rfl

theorem setGrant_of_none {ch : Chan} {g : Nat} (hc : s.outletCfg? ch = none) : s.setGrant ch g = s := by
  simp only [State.setGrant, hc]

theorem setGrant_of_ne {ch : Chan} {c : OutletCfg} {g : Nat} (hc : s.outletCfg? ch = some c) (h : (s.outlet ch).grant ≠ g) :
    s.setGrant ch g =
      match c.valve? with
      | some v =>
        let t := (s.beforeGrant c ch g).modOutlet ch (Outlet.strokeTo v.ratedDraw s.pins.inPosition[ch] g)
        if v.feedback && (t.outlet ch).seenDeasserted && s.pins.inPosition[ch] then t.settleValve ch else t
      | none => (s.beforeGrant c ch g).modOutlet ch (Outlet.reserve g) := by
  have hpins := (beforeGrant_leaves s c ch g).2.1
  have hbefore : (if g < (s.outlet ch).grant then
      (if s.rotating then s.modRaiseOrder c.svc c.cls (raiseOrderAfter ch (s.outlet ch).grant g) else s).markPass c.svc c.cls
    else if s.rotating then s.modRaiseOrder c.svc c.cls (raiseOrderAfter ch (s.outlet ch).grant g) else s) =
      s.beforeGrant c ch g := rfl
  simp only [State.setGrant, hc, if_neg h, hbefore, State.modOutlet_pins, hpins] <;>
    cases c.valve? <;> rfl

/-- A changed grant: the record after it (R132 to R137). -/
theorem setGrant_outlet_self {ch : Chan} {c : OutletCfg} {g : Nat} (hc : s.outletCfg? ch = some c)
    (h : (s.outlet ch).grant ≠ g) :
    (s.setGrant ch g).outlet ch = OutletCfg.granted c s.pins.inPosition[ch] g (s.outlet ch) := by
  obtain ⟨houtlets, -, hloader⟩ := beforeGrant_leaves s c ch g
  have ho : (s.beforeGrant c ch g).outlet ch = s.outlet ch := by simp only [State.outlet, houtlets]
  have hc' : ∀ f, ((s.beforeGrant c ch g).modOutlet ch f).outletCfg? ch = some c := fun f => by
    rw [← hc]; exact outletCfg_of_image (by rw [State.modOutlet_loader, hloader])
  rw [setGrant_of_ne s hc h, OutletCfg.granted]
  split
  · dsimp only
    rw [State.modOutlet_outlet_self, ho]
    split
    · rw [settleValve_outlet_self _ (hc' _), State.modOutlet_outlet_self, ho]
    · rw [State.modOutlet_outlet_self, ho]
  · rw [State.modOutlet_outlet_self, ho]

/-- A change of grant touches no other outlet. -/
theorem setGrant_outlet_of_ne {ch p : Chan} {g : Nat} (hp : p ≠ ch) : (s.setGrant ch g).outlet p = s.outlet p := by
  by_cases h : (s.outlet ch).grant = g
  · rw [setGrant_of_eq s h]
  · cases hc : s.outletCfg? ch with
    | none => rw [setGrant_of_none s hc]
    | some c =>
      have ho : (s.beforeGrant c ch g).outlet p = s.outlet p := by
        simp only [State.outlet, (beforeGrant_leaves s c ch g).1]
      rw [setGrant_of_ne s hc h]
      split
      · dsimp only
        split
        · rw [settleValve_outlet_of_ne _ hp, State.modOutlet_outlet_of_ne _ _ hp.symm, ho]
        · rw [State.modOutlet_outlet_of_ne _ _ hp.symm, ho]
      · rw [State.modOutlet_outlet_of_ne _ _ hp.symm, ho]

theorem OutletCfg.granted_grant (c : OutletCfg) (pin : Bool) (g : Nat) (o : Outlet) : (OutletCfg.granted c pin g o).grant = g := by
  unfold OutletCfg.granted
  split
  · dsimp only
    split
    · rw [(OutletCfg.settleState_valve c _).1]; rfl
    · rfl
  · rfl

/-- Where a channel is an OUTLET its grant becomes the one set (R152). -/
theorem setGrant_grant {ch : Chan} {g : Nat} (hc : (s.outletCfg? ch).isSome = true) : ((s.setGrant ch g).outlet ch).grant = g := by
  obtain ⟨c, hc⟩ := Option.isSome_iff_exists.mp hc
  by_cases h : (s.outlet ch).grant = g
  · rw [setGrant_of_eq s h, h]
  · rw [setGrant_outlet_self s hc h, OutletCfg.granted_grant]

theorem zeroOutlet_grant {ch : Chan} (hc : (s.outletCfg? ch).isSome = true) : ((zeroOutlet ch s).outlet ch).grant = 0 := by
  have cut : ((s.cutPulse ch).outlet ch).grant = 0 := setGrant_grant (s.modOutlet ch _) hc
  have run : ((s.suspendRun ch).outlet ch).grant = 0 := by
    unfold State.suspendRun
    split
    · rw [State.leaveStartOrder_outlet]; exact setGrant_grant (s.modOutlet ch _) hc
    · exact setGrant_grant (s.modOutlet ch _) hc
  have rest : ((if (s.outlet ch).state = .running then s.suspendRun ch else s.setGrant ch 0).outlet ch).grant = 0 := by
    split
    · exact run
    · exact setGrant_grant s hc
  unfold zeroOutlet
  dsimp only
  split
  · exact cut
  · exact cut
  · exact setGrant_grant (s.modOutlet ch _) hc
  · exact rest
  · exact rest

theorem forEach_zeroOutlet_grant (l : List Chan) {ch : Chan} (hc : (s.outletCfg? ch).isSome = true) (hl : ch ∈ l) :
    ((forEach l zeroOutlet s).outlet ch).grant = 0 := by
  induction l generalizing s with
  | nil => cases hl
  | cons p rest ih =>
    have hp : Works False s (zeroOutlet p s) := zeroOutlet_works s p
    rcases List.mem_cons.mp hl with rfl | hl
    · exact (Works.forEach rest _ (fun q t => zeroOutlet_works t q) _).grant_zero (zeroOutlet_grant s hc)
    · exact ih (zeroOutlet p s) (by rwa [hp.outletCfg]) hl

/-- Zero-all leaves no grant on an OUTLET channel (R152). -/
theorem zeroAll_grant {ch : Chan} (hc : (s.outletCfg? ch).isSome = true) : (s.zeroAll.outlet ch).grant = 0 := by
  have h := (requeueAll_works (up := False) _).grant_zero (forEach_zeroOutlet_grant s channels hc (mem_channels ch))
  rwa [State.zeroAll, State.modApp_outlet]

end

end Sys2Proof.Machine

namespace Sys2Proof.Machine

/-! ### What the standing reactions of an event can do to the whole station -/

theorem flagSet_of_flags {s t : State} (h : t.fru.flags = s.fru.flags) (f : Flag) (hs : s.flagSet f = true) :
    t.flagSet f = true := by
  rwa [State.flagSet, h]

theorem carriesSound_of_hold {s t : State} (h : t.hold = s.hold) (hs : s.carriesSound = true) : t.carriesSound = true := by
  rw [State.carriesSound_iff] at hs ⊢
  simpa only [State.classHold, h] using hs

/-- The effective bounds and band limits of a service (R77). -/
def State.bandsOf (s : State) (v : Svc) : Per4 (Nat × Nat) := (s.hold.get v).classes.map fun c => (c.effBound, c.bandLimit)

/-- A change that leaves the records of the outlets, the two orders, the copy, the counters, the settings and the bands alone,
clears no flag, counts no failed attempt and keeps the carries sound. It never leads out of MEMBER. -/
structure Aside (s t : State) : Prop where
  pending : t.pending = s.pending := by rfl
  copy : t.ledger.copy = s.ledger.copy := by rfl
  outlets : t.outlets = s.outlets := by rfl
  raiseOrder : t.app.raiseOrder = s.app.raiseOrder := by rfl
  startOrder : t.app.startOrder = s.app.startOrder := by rfl
  counters : t.fru.counters = s.fru.counters := by rfl
  loader : t.loader = s.loader := by rfl
  flags : ∀ f, s.flagSet f = true → t.flagSet f = true := by exact flagSet_of_flags (by rfl)
  carries : s.carriesSound = true → t.carriesSound = true := by exact carriesSound_of_hold (by rfl)
  bands : ∀ v, t.bandsOf v = s.bandsOf v := by exact fun _ => rfl
  failCount : s.liu.failCount = 0 → t.liu.failCount = 0 := by exact id
  station : t.memb.station = s.memb.station ∨ s.memb.station ≠ .member := by exact .inl (by rfl)

theorem Aside.refl (s : State) : Aside s s := {}

theorem Aside.trans {s t u : State} (h1 : Aside s t) (h2 : Aside t u) : Aside s u where
  pending := h2.pending.trans h1.pending
  copy := h2.copy.trans h1.copy
  outlets := h2.outlets.trans h1.outlets
  raiseOrder := h2.raiseOrder.trans h1.raiseOrder
  startOrder := h2.startOrder.trans h1.startOrder
  counters := h2.counters.trans h1.counters
  loader := h2.loader.trans h1.loader
  flags f h := h2.flags f (h1.flags f h)
  carries h := h2.carries (h1.carries h)
  bands v := (h2.bands v).trans (h1.bands v)
  failCount h := h2.failCount (h1.failCount h)
  station := by
    rcases h1.station with e1 | n1
    · rcases h2.station with e2 | n2
      · exact .inl (e2.trans e1)
      · exact .inr (e1 ▸ n2)
    · exact .inr n1

theorem Aside.forEach {α : Type} (l : List α) (f : α → State → State) (h : ∀ a t, Aside t (f a t)) (s : State) :
    Aside s (forEach l f s) := by
  induction l generalizing s with
  | nil => exact .refl s
  | cons a rest ih => exact (h a s).trans (ih (f a s))

theorem Aside.ite {s a b : State} {p : Prop} [Decidable p] (ha : p → Aside s a) (hb : ¬p → Aside s b) :
    Aside s (if p then a else b) := by
  split
  · next h => exact ha h
  · next h => exact hb h

/-- What an event's reactions do, each a piece of outlet work, a change aside from it, an entry to a state with every grant put to
0, or the meter window's observation. A full reset is none of these. -/
inductive Reacts : State → State → Prop where
  | refl (s) : Reacts s s
  | trans {s t u} : Reacts s t → Reacts t u → Reacts s u
  | works {s t} : Works (s.isMember = true) s t → Reacts s t
  | aside {s t} : Aside s t → Reacts s t
  | zero (s) (st : Station) : st ≠ .member → Reacts s (s.enter st).zeroAll
  | observe (s) : Reacts s s.observe

theorem Reacts.forEach {α : Type} (l : List α) (f : α → State → State) (h : ∀ a t, Reacts t (f a t)) (s : State) :
    Reacts s (forEach l f s) := by
  induction l generalizing s with
  | nil => exact .refl s
  | cons a rest ih => exact (h a s).trans (ih (f a s))

theorem Reacts.ite {s a b : State} {p : Prop} [Decidable p] (ha : p → Reacts s a) (hb : ¬p → Reacts s b) :
    Reacts s (if p then a else b) := by
  split
  · next h => exact ha h
  · next h => exact hb h

theorem Works.reacts {s t : State} (h : Works False s t) : Reacts s t := .works h.weaken

section
variable (s : State)

/-! ### The carries of a service -/

/-- Nothing is carried into class 3 of the service, and no reclaim into class 0 (R91, R92). -/
def ServiceHold.CarriesSound (h : ServiceHold) : Prop :=
  h.classes.c3.carriedShortage = 0 ∧ h.classes.c3.carriedReclaim = 0 ∧ h.classes.c0.carriedReclaim = 0

theorem carriesSound_iff_services : s.carriesSound = true ↔ ∀ v, (s.hold.get v).CarriesSound := s.carriesSound_iff

theorem carriesSound_modHold {v : Svc} {f : ServiceHold → ServiceHold}
    (hf : (s.hold.get v).CarriesSound → (f (s.hold.get v)).CarriesSound) (hs : s.carriesSound = true) :
    (s.modHold v f).carriesSound = true := by
  rw [carriesSound_iff_services] at hs ⊢
  intro w
  rw [State.modHold_hold]
  by_cases e : v = w
  · subst e; rw [Per2.get_set_self]; exact hf (hs v)
  · rw [Per2.get_set_of_ne _ _ e]; exact hs w

theorem carriesSound_modClass {v : Svc} {k : Cls} {f : ClassHold → ClassHold}
    (hS : k = .c3 → ∀ c, c.carriedShortage = 0 → (f c).carriedShortage = 0)
    (hX : k = .c3 ∨ k = .c0 → ∀ c, c.carriedReclaim = 0 → (f c).carriedReclaim = 0) (hs : s.carriesSound = true) :
    (s.modClass v k f).carriesSound = true := by
  refine carriesSound_modHold s (fun ⟨h1, h2, h3⟩ => ?_) hs
  cases k with
  | c0 => exact ⟨h1, h2, hX (.inr rfl) _ h3⟩
  | c1 => exact ⟨h1, h2, h3⟩
  | c2 => exact ⟨h1, h2, h3⟩
  | c3 => exact ⟨hS rfl _ h1, hX (.inl rfl) _ h2, h3⟩

theorem bandsOf_modHold {v : Svc} {f : ServiceHold → ServiceHold}
    (hf : (f (s.hold.get v)).classes.map (fun c => (c.effBound, c.bandLimit)) = s.bandsOf v) (w : Svc) :
    (s.modHold v f).bandsOf w = s.bandsOf w := by
  rw [State.bandsOf, State.modHold_hold]
  by_cases e : v = w
  · subst e; rw [Per2.get_set_self, hf]
  · rw [Per2.get_set_of_ne _ _ e]; rfl

theorem modHold_aside {v : Svc} {f : ServiceHold → ServiceHold} (hf : (f (s.hold.get v)).classes = (s.hold.get v).classes) :
    Aside s (s.modHold v f) where
  carries := carriesSound_modHold s fun h => by rwa [ServiceHold.CarriesSound, hf]
  bands := bandsOf_modHold s (by rw [hf]; rfl)

theorem modClass_aside {v : Svc} {k : Cls} {f : ClassHold → ClassHold}
    (hS : k = .c3 → ∀ c, c.carriedShortage = 0 → (f c).carriedShortage = 0)
    (hX : k = .c3 ∨ k = .c0 → ∀ c, c.carriedReclaim = 0 → (f c).carriedReclaim = 0)
    (hb : ∀ c, (f c).effBound = c.effBound ∧ (f c).bandLimit = c.bandLimit) : Aside s (s.modClass v k f) where
  carries := carriesSound_modClass s hS hX
  bands := bandsOf_modHold s (by
    have same : ∀ c, ((f c).effBound, (f c).bandLimit) = (c.effBound, c.bandLimit) := fun c => by rw [(hb c).1, (hb c).2]
    cases k <;> simp only [State.bandsOf, Per4.map, Per4.set, Per4.get, same])

theorem flagSet_eq_getLsbD (f : Flag) : s.flagSet f = s.fru.flags.getLsbD f.number := by
  have hbit : f.bit = BitVec.twoPow 9 f.number := rfl
  have hne : (BitVec.twoPow 9 f.number != 0#9) = true := by cases f <;> decide
  rw [State.flagSet, hbit, BitVec.and_twoPow]
  split
  · next h => rw [h]; exact hne
  · next h => rw [eq_false_of_ne_true h]; rfl

/-- Setting one flag leaves the others as they are (R193). -/
theorem setFlag_flagSet (f g : Flag) : (s.setFlag g).flagSet f = (s.flagSet f || decide (f = g)) := by
  have hbit : g.bit.getLsbD f.number = decide (f = g) := by cases f <;> cases g <;> decide
  rw [flagSet_eq_getLsbD, flagSet_eq_getLsbD, State.setFlag_fru, BitVec.getLsbD_or, hbit]

theorem setFlag_aside (g : Flag) : Aside s (s.setFlag g) where
  flags f h := by rw [setFlag_flagSet, h, Bool.true_or]

/-! ### The updates of one record -/

theorem modMemb_aside (f : Membership → Membership) (h : (f s.memb).station = s.memb.station ∨ s.memb.station ≠ .member) :
    Aside s (s.modMemb f) where
  station := h

theorem modLiu_aside (f : Liu → Liu) (h : s.liu.failCount = 0 → (f s.liu).failCount = 0 := by exact id) :
    Aside s (s.modLiu f) where
  failCount := h
theorem modTxQueue_aside (f : TxQueue → TxQueue) : Aside s (s.modTxQueue f) := {}
theorem modSupply_aside (v : Svc) (f : Supply → Supply) : Aside s (s.modSupply v f) := {}
theorem modStage_aside (ch : Chan) (f : Stage → Stage) : Aside s (s.modStage ch f) := {}
theorem modSerial_aside (f : ServiceLine → ServiceLine) : Aside s (s.modSerial f) := {}
theorem markPass_aside (v : Svc) (k : Cls) : Aside s (s.markPass v k) := {}
theorem clearPass_aside (v : Svc) (k : Cls) : Aside s (s.clearPass v k) := {}
theorem modLedger_aside (f : Ledger → Ledger) (h : (f s.ledger).copy = s.ledger.copy) : Aside s (s.modLedger f) where
  copy := h
theorem turnLine_aside : Aside s s.turnLine := {}
theorem clearLeaving_aside : Aside s s.clearLeaving := {}
theorem supply_aside (p : Per2 Supply) : Aside s { s with supply := p } := {}
theorem counted_aside (n : Nat) : Aside s { s with app := { s.app with passDue := Per8.all false }, now := n } := {}

/-! ### The transmit queue and the station states -/

theorem endTake_aside (v : Svc) : Aside s (s.endTake v) := modHold_aside s rfl

theorem prune_aside (p : Prune) : Aside s (s.prune p) := by
  have ends := Aside.forEach services (fun v t => if (t.liu.queue.take.get v).isSome then t.endTake v else t)
    (fun v t => .ite (fun _ => endTake_aside t v) fun _ => .refl t) s
  unfold State.prune
  exact (ends.trans (modLiu_aside _ _)).trans (modTxQueue_aside _ _)

theorem endPause_aside : Aside s s.endPause := .ite (fun _ => modLiu_aside s _ fun _ => rfl) fun _ => .refl s

theorem clearHoldMarks_aside : Aside s s.clearHoldMarks where
  carries _ := by
    rw [carriesSound_iff_services]
    intro v
    cases v <;> exact ⟨rfl, rfl, rfl⟩
  bands v := by cases v <;> rfl

theorem stopSupplyTimers_aside : Aside s s.stopSupplyTimers := {}

theorem enterOrphan_reacts : Reacts s s.enterOrphan := by
  have swap : (s.enter .orphan).setFlag .orphaned = (s.setFlag .orphaned).enter .orphan := rfl
  unfold State.enterOrphan
  rw [swap]
  dsimp only
  refine (Reacts.aside (setFlag_aside s .orphaned)).trans ?_
  refine (Reacts.zero (s.setFlag .orphaned) .orphan (by simp)).trans ?_
  exact .aside (((prune_aside _ .orphan).trans (stopSupplyTimers_aside _)).trans (modMemb_aside _ _ (.inl (by dsimp only))))

theorem enterHalted_reacts : Reacts s s.enterHalted := by
  unfold State.enterHalted
  dsimp only
  refine (Reacts.zero s (.halted false) (by simp)).trans ?_
  exact .aside ((((prune_aside _ .halted).trans (stopSupplyTimers_aside _)).trans (modMemb_aside _ _ (.inl (by dsimp only)))).trans
    (modLedger_aside _ _ (by dsimp only)))

/-- SYNCING is entered from outside MEMBER with everything aside from the outlet work (R55). -/
theorem enterSyncing_aside (hm : s.memb.station ≠ .member) : Aside s s.enterSyncing := by
  have hmemb := prune_memb s .all
  unfold State.enterSyncing
  dsimp only
  refine (((((prune_aside s .all).trans (modMemb_aside _ _ (.inr ?_))).trans
    (modLedger_aside _ _ (by dsimp only))).trans (clearHoldMarks_aside _)).trans ((clearLeaving_aside _).trans
    (stopSupplyTimers_aside _))).trans (supply_aside _ _)
  rwa [hmemb]

/-- What the end of a withdrawal does before a RESTART asked for is taken up (R72). -/
def State.leaveLine (s : State) : State :=
  ((((s.prune .all).endPause.clearLeaving).modMemb fun m =>
    { m with station := .halted true, ownLanding := none, lapseSelfRequested := false }).modLedger fun l =>
    { l with silence := Vector.replicate 32 none }).turnLine

theorem leaveLine_aside (hs : s.memb.station ≠ .member) : Aside s s.leaveLine := by
  have hmemb : ((s.prune .all).endPause.clearLeaving).memb = s.memb := by
    rw [State.clearLeaving_memb, endPause_memb, prune_memb]
  unfold State.leaveLine
  refine (((((prune_aside s .all).trans (endPause_aside _)).trans (clearLeaving_aside _)).trans
    (modMemb_aside _ _ (.inr ?_))).trans (modLedger_aside _ _ (by dsimp only))).trans (turnLine_aside _)
  rwa [hmemb]

theorem endWithdrawal_eq : s.endWithdrawal =
    if s.memb.leaveMark == .restart then
      if s.leaveLine.loader.write.isSome then s.leaveLine.modSerial fun l => { l with resetWaiting := true }
      else s.leaveLine.fullReset
    else s.leaveLine := rfl

/-- A withdrawal ends with reactions alone, or with the full reset of a RESTART (R72). -/
theorem endWithdrawal_cases (hs : s.memb.station ≠ .member) :
    Reacts s s.endWithdrawal ∨ ∃ t, Reacts s t ∧ s.endWithdrawal = t.fullReset := by
  have hleave := Reacts.aside (leaveLine_aside s hs)
  rw [endWithdrawal_eq]
  split
  · split
    · exact .inl (hleave.trans (.aside (modSerial_aside _ _)))
    · exact .inr ⟨_, hleave, rfl⟩
  · exact .inl hleave

/-! ### The phases of an event -/

theorem outletPhase_reacts : Reacts s s.outletPhase := (outletPhase_works s).reacts

theorem contactPhase_reacts : Reacts s s.contactPhase := by
  exact .ite (fun _ => enterOrphan_reacts s) fun _ => .refl s

theorem presentKeep_aside (v : Svc) (k : Cls) : Aside s (s.presentKeep v k) := by
  have same : ∀ (keeps : Bool) (n a b : Nat) (c : ClassHold), (c.take keeps n a b).carriedShortage = c.carriedShortage ∧
      (c.take keeps n a b).carriedReclaim = c.carriedReclaim ∧ (c.take keeps n a b).effBound = c.effBound ∧
      (c.take keeps n a b).bandLimit = c.bandLimit := by
    intro keeps n a b c; unfold ClassHold.take; split <;> exact ⟨rfl, rfl, rfl, rfl⟩
  have base : ∀ n a b, Aside s (s.modClass v k (ClassHold.take s.station.keeps n a b)) := fun n a b =>
    modClass_aside s (fun _ c hc => (same _ n a b c).1.trans hc) (fun _ c hc => (same _ n a b c).2.1.trans hc)
      fun c => (same _ n a b c).2.2
  unfold State.presentKeep
  exact .ite (fun _ => (base _ _ _).trans (markPass_aside _ v k)) fun _ => base _ _ _

theorem cutIfOver_reacts (v : Svc) (k : Cls) : Reacts s (s.cutIfOver v k) :=
  .ite (fun _ => (keepCut_works s v k).reacts.trans (.aside (presentKeep_aside _ v k))) fun _ => .refl s

theorem passIfDue_reacts (v : Svc) (k : Cls) : Reacts s (s.passIfDue v k) := by
  refine .ite (fun h => ?_) fun _ => .refl s
  have hm : (s.clearPass v k).isMember = true := (Bool.and_eq_true_iff.mp h).1
  exact (Reacts.aside (clearPass_aside s v k)).trans (.works (servicePass_works _ v k hm))

theorem carry_aside (v : Svc) (k : Cls) : Aside s (s.carry v k) := by
  unfold State.carry
  dsimp only
  split
  · exact modClass_aside s (fun h => by cases h) (fun h => by simp at h) fun _ => ⟨rfl, rfl⟩
  · exact modClass_aside s (fun h => by cases h) (fun h => by simp at h) fun _ => ⟨rfl, rfl⟩
  · refine Aside.trans (t := s.modClass v .c0 _) ?_ (modHold_aside _ rfl)
    exact modClass_aside s (fun h => by cases h) (fun _ _ _ => rfl) fun _ => ⟨rfl, rfl⟩
  · exact modHold_aside s rfl

theorem classStep_reacts (v : Svc) (k : Cls) : Reacts s (classStep v k s) :=
  (((Reacts.aside (presentKeep_aside s v k)).trans (cutIfOver_reacts _ v k)).trans (passIfDue_reacts _ v k)).trans
    (.aside (carry_aside _ v k))

theorem reclaimStep_aside (v : Svc) : Aside s (reclaimStep v s) := by
  unfold reclaimStep
  exact modHold_aside s (by rfl)

theorem giveStep_aside (v : Svc) (k : Cls) : Aside s (giveStep v k s) := .ite (fun _ => modTxQueue_aside s _) fun _ => .refl s

theorem takeStep_aside (v : Svc) : Aside s (takeStep v s) := by
  unfold takeStep
  refine .ite (fun _ => ?_) fun _ => .refl s
  split
  · exact .ite (fun _ => (modTxQueue_aside s _).trans (modHold_aside _ (by rfl))) fun _ => .refl s
  · exact .refl s

theorem wantStep_aside (v : Svc) : Aside s (wantStep v s) := by
  unfold wantStep
  refine .ite (fun _ => ?_) fun _ => .refl s
  exact .ite (fun _ => (modHold_aside s (by rfl)).trans (modTxQueue_aside _ _)) fun _ => modHold_aside s (by rfl)

theorem holdPhase_reacts : Reacts s s.holdPhase := by
  unfold State.holdPhase
  refine ((((Reacts.forEach services keepPhase ?_ s).trans (.aside (.forEach services _ ?_ _))).trans
    (.aside (.forEach serviceClasses _ ?_ _))).trans (.aside (.forEach services _ ?_ _))).trans
    (.aside (.forEach services _ ?_ _))
  · exact fun v t => .forEach _ _ (fun k u => classStep_reacts u v k) t
  · exact fun v t => reclaimStep_aside t v
  · exact fun p t => giveStep_aside t p.1 p.2
  · exact fun v t => takeStep_aside t v
  · exact fun v t => wantStep_aside t v

theorem callStep_aside (v : Svc) : Aside s (callStep v s) := by
  unfold callStep
  refine .ite (fun _ => ?_) fun _ => modSupply_aside s v _
  split
  · exact (modSupply_aside s v _).trans (modStage_aside _ _ _)
  · exact modSupply_aside s v _

theorem alwaysStep_aside (ch : Chan) : Aside s (alwaysStep ch s) := .ite (fun _ => modStage_aside s _ _) fun _ => .refl s

theorem offerStep_aside (v : Svc) : Aside s (offerStep v s) := .ite (fun _ => modTxQueue_aside s _) fun _ => .refl s

theorem dropStep_aside (v : Svc) : Aside s (dropStep v s) := by
  unfold dropStep
  exact modSupply_aside s v _

theorem stagePhase_aside : Aside s s.stagePhase := by
  unfold State.stagePhase
  refine .ite (fun _ => ?_) fun _ => stopSupplyTimers_aside s
  exact (((Aside.forEach channels _ (fun ch t => alwaysStep_aside t ch) s).trans
    (.forEach services _ (fun v t => callStep_aside t v) _)).trans
    (.forEach services _ (fun v t => offerStep_aside t v) _)).trans (.forEach services _ (fun v t => dropStep_aside t v) _)

theorem lapseKeyStep_aside : Aside s (lapseKeyStep s) := by
  have place : ∀ n q, Aside s (s.placeLapse n q) := fun n q => modTxQueue_aside s _
  unfold lapseKeyStep
  refine .ite (fun _ => .refl s) fun _ => .ite (fun _ => (place _ _).trans (modMemb_aside _ _ (.inl (by dsimp only)))) fun _ => ?_
  split
  · exact .ite (fun _ => (place _ _).trans (modLedger_aside _ _ (by dsimp only))) fun _ => .refl s
  · exact .refl s

theorem expiryStep_aside (n : Stn) : Aside s (expiryStep n s) := .ite (fun _ => modLedger_aside s _ rfl) fun _ => .refl s

theorem selfStep_aside : Aside s (selfStep s) := .ite (fun _ => modMemb_aside s _ (.inl rfl)) fun _ => .refl s

theorem refreshStep_aside : Aside s (refreshStep s) := .ite (fun _ => modTxQueue_aside s _) fun _ => .refl s

theorem framePhase_aside : Aside s s.framePhase := by
  have expiry : Aside s (if s.isMember then forEach stations expiryStep s else s) :=
    .ite (fun _ => .forEach stations _ (fun n t => expiryStep_aside t n) s) fun _ => .refl s
  unfold State.framePhase
  exact ((expiry.trans (selfStep_aside _)).trans (lapseKeyStep_aside _)).trans (refreshStep_aside _)

theorem orphanEndStep_reacts : Reacts s (orphanEndStep s) := by
  refine .ite (fun h => ?_) fun _ => .refl s
  have ho : s.memb.station = .orphan := by
    simp only [Bool.and_eq_true, beq_iff_eq] at h
    exact h.1.1
  refine .ite (fun _ => .aside (enterSyncing_aside s ?_)) fun _ => enterHalted_reacts s
  rw [ho]; simp

theorem withdrawalEndStep_cases :
    Reacts s (withdrawalEndStep s) ∨ ∃ t, Reacts s t ∧ withdrawalEndStep s = t.fullReset := by
  unfold withdrawalEndStep
  split
  · next h =>
    refine endWithdrawal_cases s ?_
    simp only [Bool.and_eq_true, beq_iff_eq] at h
    rw [← State.station, h.1.1]; simp
  · exact .inl (.refl s)

/-- One round of reactions up to the leaves. -/
def State.reactWork (s : State) : State :=
  orphanEndStep s.outletPhase.contactPhase.holdPhase.stagePhase.framePhase

theorem reactWork_reacts : Reacts s s.reactWork := by
  unfold State.reactWork
  exact (((((outletPhase_reacts s).trans (contactPhase_reacts _)).trans (holdPhase_reacts _)).trans
    (.aside (stagePhase_aside _))).trans (.aside (framePhase_aside _))).trans (orphanEndStep_reacts _)

theorem react_of_live (h : s.live = true) : s.react = withdrawalEndStep s.reactWork := by
  rw [State.react, if_pos h]; rfl

/-- One round of reactions, or a full reset at its end. -/
theorem react_cases : Reacts s s.react ∨ ∃ t, Reacts s t ∧ s.react = t.fullReset := by
  cases h : s.live with
  | false => rw [react_of_not_live s h]; exact .inl (.refl s)
  | true =>
    rw [react_of_live s h]
    have hwork := reactWork_reacts s
    rcases withdrawalEndStep_cases s.reactWork with hr | ⟨t, hr, e⟩
    · exact .inl (hwork.trans hr)
    · exact .inr ⟨t, hwork.trans hr, e⟩

theorem live_fullReset : s.fullReset.live = false := rfl

theorem react_fullReset : s.fullReset.react = s.fullReset := react_of_not_live _ (live_fullReset s)

theorem shedShortStep_aside (v : Svc) : Aside s (shedShortStep v s) := by
  unfold shedShortStep
  exact .ite (fun _ => (modHold_aside s (by rfl)).trans (setFlag_aside _ _)) fun _ => modHold_aside s (by rfl)

theorem spareStep_aside (v : Svc) (k : Cls) : Aside s (spareStep v k s) := by
  unfold spareStep
  exact modClass_aside s (fun _ _ h => h) (fun _ _ h => h) fun _ => ⟨rfl, rfl⟩

theorem sparePhase_aside : Aside s s.sparePhase :=
  .forEach serviceClasses _ (fun p t => spareStep_aside t p.1 p.2) s

theorem rest_reacts : Reacts s s.rest := by
  have ends : Reacts s (if s.live then (forEach services shedShortStep s.sparePhase).observe else s) :=
    .ite (fun _ => (Reacts.aside ((sparePhase_aside s).trans
      (.forEach services _ (fun v t => shedShortStep_aside t v) _))).trans (.observe _)) fun _ => .refl s
  unfold State.rest
  exact ends.trans (.aside (counted_aside _ _))

/-- The reactions of a whole event, or a full reset at its end, after which nothing reacts (R72, R198). -/
theorem settle_cases : Reacts s s.settle ∨ ∃ t, Reacts s t ∧ s.settle = { t.fullReset with now := t.now + 1 } := by
  have rests : ∀ t : State, t.fullReset.rest = { t.fullReset with now := t.now + 1 } := fun t => rfl
  have more : ∀ u : State, (Reacts s u ∨ ∃ t, Reacts s t ∧ u = t.fullReset) →
      (Reacts s u.react ∨ ∃ t, Reacts s t ∧ u.react = t.fullReset) := by
    rintro u (hu | ⟨t, ht, rfl⟩)
    · rcases react_cases u with hr | ⟨t, hr, e⟩
      · exact .inl (hu.trans hr)
      · exact .inr ⟨t, hu.trans hr, e⟩
    · exact .inr ⟨t, ht, react_fullReset t⟩
  rcases more _ (more _ (more _ (more s (.inl (.refl s))))) with h | ⟨t, ht, e⟩
  · exact .inl (h.trans (rest_reacts _))
  · exact .inr ⟨t, ht, by rw [State.settle, e, rests]⟩

end

end Sys2Proof.Machine

namespace Sys2Proof.Machine

/-! ### What the reactions keep -/

section
variable {s t : State}

theorem Works.pending {up : Prop} (h : Works up s t) : t.pending = s.pending :=
  show t.apart.pending = s.apart.pending from congrArg State.pending h.apart

theorem Reacts.pending (h : Reacts s t) : t.pending = s.pending := by
  induction h with
  | refl s => rfl
  | trans _ _ h1 h2 => exact h2.trans h1
  | works h => exact h.pending
  | aside h => exact h.pending
  | zero s st _ => exact (zeroAll_works (up := False) (s.enter st)).pending
  | observe s => rfl

theorem Reacts.copy (h : Reacts s t) : t.ledger.copy = s.ledger.copy := by
  induction h with
  | refl s => rfl
  | trans _ _ h1 h2 => exact h2.trans h1
  | works h => rw [ledger_of_apart h.apart]
  | aside h => exact h.copy
  | zero s st _ => rw [ledger_of_apart (State.zeroAll_apart (s.enter st))]; rfl
  | observe s => rfl

theorem Reacts.loader (h : Reacts s t) : t.loader = s.loader := by
  induction h with
  | refl s => rfl
  | trans _ _ h1 h2 => exact h2.trans h1
  | works h => exact h.loader
  | aside h => exact h.loader
  | zero s st _ => exact (zeroAll_works (up := False) (s.enter st)).loader
  | observe s => rfl

theorem Reacts.bands (h : Reacts s t) (v : Svc) : t.bandsOf v = s.bandsOf v := by
  induction h with
  | refl s => rfl
  | trans _ _ h1 h2 => exact h2.trans h1
  | works h => rw [State.bandsOf, hold_of_apart h.apart]; rfl
  | aside h => exact h.bands v
  | zero s st _ => rw [State.bandsOf, hold_of_apart (State.zeroAll_apart (s.enter st))]; rfl
  | observe s => rfl

/-- No reaction counts a failed attempt (R41). -/
theorem Reacts.failCount (h : Reacts s t) (hs : s.liu.failCount = 0) : t.liu.failCount = 0 := by
  induction h with
  | refl s => exact hs
  | trans _ _ h1 h2 => exact h2 (h1 hs)
  | works h => rwa [liu_of_apart h.apart]
  | aside h => exact h.failCount hs
  | zero s st _ => rw [liu_of_apart (State.zeroAll_apart (s.enter st))]; exact hs
  | observe s => exact hs

theorem Reacts.outletCfg (h : Reacts s t) (ch : Chan) : t.outletCfg? ch = s.outletCfg? ch :=
  outletCfg_of_image (by rw [h.loader])

theorem Reacts.flags (h : Reacts s t) (f : Flag) (hf : s.flagSet f = true) : t.flagSet f = true := by
  induction h with
  | refl s => exact hf
  | trans _ _ h1 h2 => exact h2 (h1 hf)
  | works h => exact flagSet_of_flags (flags_of_apart h.apart) f hf
  | aside h => exact h.flags f hf
  | zero s st _ => exact flagSet_of_flags (flags_of_apart (State.zeroAll_apart (s.enter st))) f hf
  | observe s => exact hf

theorem Reacts.countersSound (h : Reacts s t) (hs : s.fru.counters.sound = true) : t.fru.counters.sound = true := by
  induction h with
  | refl s => exact hs
  | trans _ _ h1 h2 => exact h2 (h1 hs)
  | works h => exact h.countersSound hs
  | aside h => rwa [h.counters]
  | zero s st _ => exact (zeroAll_works (up := False) (s.enter st)).countersSound hs
  | observe s => exact hs

theorem boundsSound_of_outlets (h : t.outlets = s.outlets) (hs : s.boundsSound = true) : t.boundsSound = true := by
  rw [State.boundsSound_iff] at hs ⊢
  simpa only [State.outlet, h] using hs

/-- A change of every record that leaves grant, bound and motion as they are. -/
theorem boundsSound_mapAt {f : Chan → Outlet → Outlet}
    (hf : ∀ ch o, (f ch o).grant = o.grant ∧ (f ch o).peak = o.peak ∧ (f ch o).moving = o.moving)
    (h : t.outlets = mapAt f s.outlets) (hs : s.boundsSound = true) : t.boundsSound = true := by
  rw [State.boundsSound_iff] at hs ⊢
  intro ch
  obtain ⟨hg, hp, hm⟩ := hf ch (s.outlet ch)
  have hch := hs ch
  have e : t.outlet ch = f ch (s.outlet ch) := by simp only [State.outlet, h, mapAt_get]
  rw [e, Outlet.boundSound, hg, hp, hm]
  exact hch

theorem Reacts.boundsSound (h : Reacts s t) (hs : s.boundsSound = true) : t.boundsSound = true := by
  induction h with
  | refl s => exact hs
  | trans _ _ h1 h2 => exact h2 (h1 hs)
  | works h => exact h.boundsSound hs
  | aside h => exact boundsSound_of_outlets h.outlets hs
  | zero s st _ => exact (zeroAll_works (up := False) (s.enter st)).boundsSound hs
  | observe s => exact boundsSound_mapAt (fun ch o => by split <;> exact ⟨rfl, rfl, rfl⟩) s.observe_outlets hs

/-- The grants of two states alike, in one image, and MEMBER in the second where it was in the first. -/
theorem grantsSound_of_grants (hg : ∀ ch, (t.outlet ch).grant = (s.outlet ch).grant)
    (hm : s.isMember = true → t.isMember = true) (hi : t.loader.image = s.loader.image) (hs : s.grantsSound = true) :
    t.grantsSound = true := by
  rw [State.grantsSound_iff] at hs ⊢
  intro ch
  rw [hg, outletCfg_of_image hi]
  exact (hs ch).imp id fun ⟨h1, h2⟩ => ⟨hm h1, h2⟩

theorem isMember_iff (s : State) : s.isMember = true ↔ s.memb.station = .member := by simp [State.isMember, State.station]

theorem isMember_of_memb (h : t.memb = s.memb) (hs : s.isMember = true) : t.isMember = true := by
  rwa [isMember_iff, h, ← isMember_iff]

theorem outlet_of_outlets (h : t.outlets = s.outlets) (ch : Chan) : t.outlet ch = s.outlet ch := by simp only [State.outlet, h]

theorem Reacts.grantsSound (h : Reacts s t) (hs : s.grantsSound = true) : t.grantsSound = true := by
  induction h with
  | refl s => exact hs
  | trans _ _ h1 h2 => exact h2 (h1 hs)
  | works h => exact h.grantsSound hs
  | @aside s t h =>
    refine grantsSound_of_grants (fun ch => by rw [outlet_of_outlets h.outlets]) (fun hm => ?_) (by rw [h.loader]) hs
    rw [isMember_iff] at hm ⊢
    exact (h.station.resolve_right fun hn => hn hm).trans hm
  | zero s st _ =>
    rw [State.grantsSound_iff] at hs ⊢
    intro ch
    cases hc : s.outletCfg? ch with
    | some c => exact .inl (zeroAll_grant (s.enter st) (by rw [Option.isSome_iff_exists]; exact ⟨c, hc⟩))
    | none =>
      have hg := (zeroAll_works (up := False) (s.enter st)).grant_of_none hc
      exact .inl (hg.trans ((hs ch).resolve_right (by simp [hc])))
  | observe s =>
    refine grantsSound_of_grants (fun ch => ?_) (isMember_of_memb (by rfl)) (by rfl) hs
    simp only [State.outlet, State.observe_outlets, mapAt_get]
    split <;> rfl

theorem ordersSound_of_orders (hr : t.app.raiseOrder = s.app.raiseOrder) (hst : t.app.startOrder = s.app.startOrder)
    (hi : t.loader.image = s.loader.image) (hread : t.loader.reading = true → s.loader.reading = true)
    (hs : s.ordersSound = true) : t.ordersSound = true := by
  rw [State.ordersSound_iff] at hs ⊢
  obtain ⟨h1, h2⟩ := hs
  refine ⟨fun h => hi ▸ h1 (hread h), fun v k => ?_⟩
  simp only [hr, hst, inClass_of_image hi]
  exact h2 v k

theorem Reacts.ordersSound (h : Reacts s t) (hs : s.ordersSound = true) : t.ordersSound = true := by
  induction h with
  | refl s => exact hs
  | trans _ _ h1 h2 => exact h2 (h1 hs)
  | works h => exact h.ordersSound hs
  | aside h => exact ordersSound_of_orders h.raiseOrder h.startOrder (by rw [h.loader]) (by rw [h.loader]; exact id) hs
  | zero s st _ => exact (zeroAll_works (up := False) (s.enter st)).ordersSound hs
  | observe s => exact hs

theorem Reacts.carriesSound (h : Reacts s t) (hs : s.carriesSound = true) : t.carriesSound = true := by
  induction h with
  | refl s => exact hs
  | trans _ _ h1 h2 => exact h2 (h1 hs)
  | works h => exact carriesSound_of_hold (hold_of_apart h.apart) hs
  | aside h => exact h.carries hs
  | zero s st _ => exact carriesSound_of_hold (hold_of_apart (State.zeroAll_apart (s.enter st))) hs
  | observe s => exact hs

end

/-! ### What a command's own act can do -/

/-- The state in which a valid image has just been frozen and handed to the blocks, SYNCING not yet entered (R77, R99, R201). -/
def State.withImage (bytes : List Byte) (s : State) : State :=
  let im := readImage bytes
  let s := s.modLoader fun l =>
    { l with reading := false, image := some im, source := .frozen, bytes := bytes, failedCheck := 0 }
  let s := s.loadBands im
  let s := { s with
    outlets := Vector.ofFn fun ch => firstOutlet s.pins.demand[ch] im.channels[ch]
    stages := Vector.replicate 16 Stage.initial
    supply := Per2.both Supply.initial
    meterWindow := some 0 }
  let s := s.modApp fun a => { a with guard := Image.guard im }
  s.modFru fun u => { u with responses := im.responses, alertMask := im.alertMask }

/-- The loader's own changes: they load no image and begin no read. -/
abbrev Loader.Staged (l l' : Loader) : Prop := l'.image = l.image ∧ (l'.reading = true → l.reading = true)

/-- What a command does to the station, its reactions included, outside a full reset. Flags are cleared only where `clears`
holds. -/
inductive Moves (clears : Prop) : State → State → Prop where
  | reacts {s t} : Reacts s t → Moves clears s t
  | trans {s t u} : Moves clears s t → Moves clears t u → Moves clears s u
  | tweak {s} (ch f) : (f (s.outlet ch)).grant = (s.outlet ch).grant ∧ (f (s.outlet ch)).peak = (s.outlet ch).peak ∧
      (f (s.outlet ch)).moving = (s.outlet ch).moving → Moves clears s (s.modOutlet ch f)
  | tweaks {s} (f : Chan → Outlet → Outlet) :
      (∀ ch o, (f ch o).grant = o.grant ∧ (f ch o).peak = o.peak ∧ (f ch o).moving = o.moving) →
      Moves clears s { s with outlets := mapAt f s.outlets }
  | count {s} (f : Counters → Counters) : (s.fru.counters.InRange → (f s.fru.counters).InRange) → Moves clears s (s.modCounters f)
  | line {s} (f : Liu → Liu) : Moves clears s (s.modLiu f)
  | land (s f) : Moves clears s (s.applyLanded f)
  | stage {s} (f) : Loader.Staged s.loader (f s.loader) → Moves clears s (s.modLoader f)
  | load {s} (bytes) : s.loader.reading = true → s.memb.station ≠ .member → Moves clears s (s.withImage bytes)
  | clear (s mask) : clears → Moves clears s (s.clearFlagMask mask)

section
variable (s : State) (f : Frame) (bytes : List Byte)

@[simp] theorem State.applyLanded_pending : (s.applyLanded f).pending = s.pending := rfl
@[simp] theorem State.applyLanded_outlets : (s.applyLanded f).outlets = s.outlets := rfl
@[simp] theorem State.applyLanded_app : (s.applyLanded f).app = s.app := rfl
@[simp] theorem State.applyLanded_memb : (s.applyLanded f).memb = s.memb := rfl
@[simp] theorem State.applyLanded_hold : (s.applyLanded f).hold = s.hold := rfl
@[simp] theorem State.applyLanded_fru : (s.applyLanded f).fru = s.fru := rfl
@[simp] theorem State.applyLanded_loader : (s.applyLanded f).loader = s.loader := rfl
@[simp] theorem State.applyLanded_copy :
    (s.applyLanded f).ledger.copy = applyFrame s.station s.quorum s.ledger.copy f := rfl

@[simp] theorem State.withImage_pending : (s.withImage bytes).pending = s.pending := by
  simp [State.withImage, State.loadBands]
@[simp] theorem State.withImage_pins : (s.withImage bytes).pins = s.pins := by
  simp [State.withImage, State.loadBands]
@[simp] theorem State.withImage_ledger : (s.withImage bytes).ledger = s.ledger := by
  simp [State.withImage, State.loadBands]
@[simp] theorem State.withImage_memb : (s.withImage bytes).memb = s.memb := by
  simp [State.withImage, State.loadBands]
@[simp] theorem State.withImage_app :
    (s.withImage bytes).app = { s.app with guard := Image.guard (readImage bytes) } := by
  simp [State.withImage, State.loadBands]
@[simp] theorem State.withImage_fru : (s.withImage bytes).fru =
    { s.fru with responses := (readImage bytes).responses, alertMask := (readImage bytes).alertMask } := by
  simp [State.withImage, State.loadBands]
@[simp] theorem State.withImage_loader : (s.withImage bytes).loader = { s.loader with
    reading := false, image := some (readImage bytes), source := .frozen, bytes := bytes, failedCheck := 0 } := by
  simp [State.withImage, State.loadBands]
@[simp] theorem State.withImage_hold : (s.withImage bytes).hold =
    ⟨s.hold.hw.withBands (Image.effectiveBounds (readImage bytes) .hw),
      s.hold.st.withBands (Image.effectiveBounds (readImage bytes) .st)⟩ := by
  simp [State.withImage, State.loadBands]
@[simp] theorem State.withImage_outlet (ch : Chan) :
    (s.withImage bytes).outlet ch = firstOutlet s.pins.demand[ch] (readImage bytes).channels[ch] := by
  simp [State.withImage, State.outlet, State.loadBands]

end

section
variable {clears : Prop} {s t : State}

theorem Moves.refl (s : State) : Moves clears s s := .reacts (.refl s)
theorem Moves.aside (h : Aside s t) : Moves clears s t := .reacts (.aside h)
theorem Moves.works (h : Works False s t) : Moves clears s t := .reacts h.reacts

theorem Moves.forEach {α : Type} (l : List α) (f : α → State → State) (h : ∀ a t, Moves clears t (f a t)) (s : State) :
    Moves clears s (forEach l f s) := by
  induction l generalizing s with
  | nil => exact .refl s
  | cons a rest ih => exact (h a s).trans (ih (f a s))

theorem Moves.ite {a b : State} {p : Prop} [Decidable p] (ha : p → Moves clears s a) (hb : ¬p → Moves clears s b) :
    Moves clears s (if p then a else b) := by
  split
  · next h => exact ha h
  · next h => exact hb h

theorem Moves.weaken (h : Moves clears s t) : Moves True s t := by
  induction h with
  | reacts h => exact .reacts h
  | trans _ _ h1 h2 => exact h1.trans h2
  | tweak ch f h => exact .tweak ch f h
  | tweaks f h => exact .tweaks f h
  | count f h => exact .count f h
  | line f => exact .line f
  | land s f => exact .land s f
  | stage f h => exact .stage f h
  | load bytes h1 h2 => exact .load bytes h1 h2
  | clear s mask _ => exact .clear s mask trivial

theorem Moves.pending (h : Moves clears s t) : t.pending = s.pending := by
  induction h with
  | reacts h => exact h.pending
  | trans _ _ h1 h2 => exact h2.trans h1
  | load bytes _ _ => exact State.withImage_pending _ bytes
  | _ => rfl

/-- Where no flag is cleared every flag stays set (R193). -/
theorem Moves.flags (h : Moves False s t) (f : Flag) (hf : s.flagSet f = true) : t.flagSet f = true := by
  induction h with
  | reacts h => exact h.flags f hf
  | trans _ _ h1 h2 => exact h2 (h1 hf)
  | clear s mask h => exact h.elim
  | load bytes _ _ => exact flagSet_of_flags (by rw [State.withImage_fru]) f hf
  | _ => exact flagSet_of_flags (by rfl) f hf

theorem countersSound_of_eq {s t : State} (h : t.fru.counters = s.fru.counters) (hs : s.fru.counters.sound = true) :
    t.fru.counters.sound = true := by rwa [h]

theorem Moves.countersSound (h : Moves clears s t) (hs : s.fru.counters.sound = true) : t.fru.counters.sound = true := by
  induction h with
  | reacts h => exact h.countersSound hs
  | trans _ _ h1 h2 => exact h2 (h1 hs)
  | count f h => exact Counters.sound_iff.mpr (h (Counters.sound_iff.mp hs))
  | load bytes _ _ => rwa [State.withImage_fru]
  | _ => exact countersSound_of_eq (by rfl) hs

/-- Outside MEMBER's work every outlet is loaded with no grant, settled (R99). -/
theorem firstOutlet_valve (mv : Nat) (c : ChannelCfg) :
    (firstOutlet mv c).grant = 0 ∧ (firstOutlet mv c).peak = 0 ∧ (firstOutlet mv c).moving = false := by
  cases c with
  | unused => exact ⟨rfl, rfl, rfl⟩
  | stage c => exact ⟨rfl, rfl, rfl⟩
  | outlet c =>
    have used : ∀ o : Outlet, (OutletCfg.enterUse c o).grant = o.grant ∧ (OutletCfg.enterUse c o).peak = o.peak ∧
        (OutletCfg.enterUse c o).moving = o.moving := by
      intro o; unfold OutletCfg.enterUse; split <;> exact ⟨rfl, rfl, rfl⟩
    unfold firstOutlet
    dsimp only
    generalize ho : (if c.modulating?.isSome then Outlet.initial.takeReading (demandReading mv) else Outlet.initial) = o
    have zero : o.grant = 0 ∧ o.peak = 0 ∧ o.moving = false := by rw [← ho]; split <;> exact ⟨rfl, rfl, rfl⟩
    split
    · obtain ⟨hg, hp, hm⟩ := used o
      rw [hg, hp, hm]; exact zero
    · exact zero

theorem Moves.boundsSound (h : Moves clears s t) (hs : s.boundsSound = true) : t.boundsSound = true := by
  induction h with
  | reacts h => exact h.boundsSound hs
  | trans _ _ h1 h2 => exact h2 (h1 hs)
  | @tweak s ch f hf =>
    rw [State.boundsSound_iff] at hs ⊢
    intro p
    by_cases e : ch = p
    · subst e
      obtain ⟨hg, hp, hm⟩ := hf
      rw [State.modOutlet_outlet_self, Outlet.boundSound, hg, hp, hm]
      exact hs ch
    · rw [State.modOutlet_outlet_of_ne _ _ e]; exact hs p
  | tweaks f hf => exact boundsSound_mapAt hf rfl hs
  | @load s bytes _ _ =>
    rw [State.boundsSound_iff]
    intro ch
    obtain ⟨hg, hp, hm⟩ := firstOutlet_valve s.pins.demand[ch] (readImage bytes).channels[ch]
    rw [State.withImage_outlet, Outlet.boundSound, hg, hp, hm]
    rfl
  | _ => exact boundsSound_of_outlets (by rfl) hs

theorem Moves.grantsSound (h : Moves clears s t) (hs : s.grantsSound = true) : t.grantsSound = true := by
  induction h with
  | reacts h => exact h.grantsSound hs
  | trans _ _ h1 h2 => exact h2 (h1 hs)
  | @tweak s ch f hf =>
    refine grantsSound_of_grants (fun p => ?_) (isMember_of_memb (by rfl)) (by rfl) hs
    by_cases e : ch = p
    · subst e; rw [State.modOutlet_outlet_self]; exact hf.1
    · rw [State.modOutlet_outlet_of_ne _ _ e]
  | @tweaks s f hf =>
    refine grantsSound_of_grants (fun p => ?_) (isMember_of_memb (by rfl)) (by rfl) hs
    simp only [State.outlet, mapAt_get]
    exact (hf p _).1
  | @stage s f hf =>
    exact grantsSound_of_grants (s := s) (fun p => rfl) (isMember_of_memb (by rfl)) hf.1 hs
  | @load s bytes _ _ =>
    rw [State.grantsSound_iff]
    intro ch
    rw [State.withImage_outlet]
    exact .inl (firstOutlet_valve _ _).1
  | _ => exact grantsSound_of_grants (fun p => rfl) (isMember_of_memb (by rfl)) (by rfl) hs

/-- Where no image is loaded the sound orders are empty. -/
theorem orders_empty (hs : s.ordersSound = true) (hi : s.loader.image = none) (v : Svc) (k : Cls) (ch : Chan) :
    ch ∉ s.app.raiseOrder.get v k ∧ ch ∉ s.app.startOrder.get v k := by
  have none_in : s.inClass v k ch = false := by simp [State.inClass, State.outletCfg?, State.cfg, hi]
  rw [State.ordersSound_iff] at hs
  obtain ⟨hr, hst⟩ := hs.2 v k
  exact ⟨fun h => by simp [hr ch h] at none_in, fun h => by simp [hst ch h] at none_in⟩

theorem Moves.ordersSound (h : Moves clears s t) (hs : s.ordersSound = true) : t.ordersSound = true := by
  induction h with
  | reacts h => exact h.ordersSound hs
  | trans _ _ h1 h2 => exact h2 (h1 hs)
  | stage f hf => exact ordersSound_of_orders (by rfl) (by rfl) hf.1 hf.2 hs
  | @load s bytes hread _ =>
    have empty := orders_empty hs ((State.ordersSound_iff s).mp hs |>.1 hread)
    rw [State.ordersSound_iff]
    refine ⟨fun h => by simp at h, fun v k => ⟨fun ch h => ?_, fun ch h => ?_⟩⟩ <;> rw [State.withImage_app] at h
    · exact ((empty v k ch).1 h).elim
    · exact ((empty v k ch).2 h).elim
  | _ => exact ordersSound_of_orders (by rfl) (by rfl) (by rfl) id hs

theorem withBands_carriesSound {h : ServiceHold} {e : Per4 Nat} (hh : h.CarriesSound) : (h.withBands e).CarriesSound := hh

theorem Moves.carriesSound (h : Moves clears s t) (hs : s.carriesSound = true) : t.carriesSound = true := by
  induction h with
  | reacts h => exact h.carriesSound hs
  | trans _ _ h1 h2 => exact h2 (h1 hs)
  | load bytes _ _ =>
    rw [carriesSound_iff_services] at hs ⊢
    intro v
    rw [State.withImage_hold]
    cases v with
    | hw => exact withBands_carriesSound (hs .hw)
    | st => exact withBands_carriesSound (hs .st)
  | _ => exact carriesSound_of_hold (by rfl) hs

end

end Sys2Proof.Machine

namespace Sys2Proof.Machine

/-! ### The own act of each command -/

/-- What a command ends in: what its act and the reactions leave, or a full reset after them. -/
def Ends (clears : Prop) (s t : State) : Prop :=
  Moves clears s t ∨ ∃ u n, Moves clears s u ∧ t = { u.fullReset with now := n }

section
variable {clears : Prop} (s : State)

theorem Ends.refl : Ends clears s s := .inl (.refl s)

theorem Ends.settle {u : State} (h : Moves clears s u) : Ends clears s u.settle := by
  rcases settle_cases u with hr | ⟨t, hr, e⟩
  · exact .inl (h.trans (.reacts hr))
  · exact .inr ⟨t, t.now + 1, h.trans (.reacts hr), e⟩

theorem Ends.after {s t u : State} (h : Moves clears s t) (ht : Ends clears t u) : Ends clears s u := by
  rcases ht with hu | ⟨w, n, hw, e⟩
  · exact .inl (h.trans hu)
  · exact .inr ⟨w, n, h.trans hw, e⟩

theorem Ends.ite {s a b : State} {p : Prop} [Decidable p] (ha : p → Ends clears s a) (hb : ¬p → Ends clears s b) :
    Ends clears s (if p then a else b) := by
  split
  · next h => exact ha h
  · next h => exact hb h

/-- A result is a next state that the command ends in. -/
def EndsIn (clears : Prop) (s : State) (r : Result) : Prop := ∃ t, r = .next t ∧ Ends clears s t

theorem event_ends {taken : Bool} {f : State → State} (h : taken = true → Moves clears s (f s)) :
    EndsIn clears s (event taken f s) :=
  ⟨_, rfl, .ite (fun ht => .settle s (h ht)) fun _ => .refl s⟩

theorem quietEvent_ends {taken : Bool} {f : State → State} (h : taken = true → Moves clears s (f s)) :
    EndsIn clears s (quietEvent taken f s) :=
  ⟨_, rfl, .ite (fun ht => .inl (h ht)) fun _ => .refl s⟩

theorem EndsIn.after {s t : State} {r : Result} (h : Moves clears s t) (hr : EndsIn clears t r) : EndsIn clears s r := by
  obtain ⟨u, e, hu⟩ := hr
  exact ⟨u, e, hu.after h⟩

theorem reply_aside (r : Reply) : Aside s (s.reply r) := modSerial_aside s _

theorem answer_aside (status : Status) (data : List Byte) : Aside s (s.answer status data) := modSerial_aside s _

theorem serve_ends {f : State → State} (h : Ends clears s (f s)) : EndsIn clears s (serve f s) :=
  ⟨_, rfl, .ite (fun _ => .refl s) fun _ => .ite (fun _ => .inl (.aside (reply_aside s _))) fun _ => h⟩

theorem answer_ends (status : Status) (data : List Byte) : Ends clears s (s.answer status data) :=
  .inl (.aside (answer_aside s status data))

theorem pins_aside (p : Pins) : Aside s { s with pins := p } := {}

theorem setFlag_moves (f : Flag) : Moves clears s (s.setFlag f) := .aside (setFlag_aside s f)

/-! ### Faults and the entries to a state -/

theorem count_moves (f : Counters → Counters) (h : s.fru.counters.InRange → (f s.fru.counters).InRange) :
    Moves clears s (s.modCounters f) := .count f h

theorem countFrameLanded_moves : Moves clears s s.countFrameLanded :=
  count_moves s _ fun h => { h with framesLanded := countUp_le _ }
theorem countAttemptFailed_moves : Moves clears s s.countAttemptFailed :=
  count_moves s _ fun h => { h with attemptsFailed := countUp_le _ }
theorem countTakeRefused_moves : Moves clears s s.countTakeRefused :=
  count_moves s _ fun h => { h with takeRefused := countUp_le _ }
theorem countPulseMissed_moves : Moves clears s s.countPulseMissed :=
  count_moves s _ fun h => { h with pulseMissed := countUp_le _ }
theorem countRunSpoilt_moves : Moves clears s s.countRunSpoilt :=
  count_moves s _ fun h => { h with runsSpoilt := countUp_le _ }
theorem countDeferral_moves : Moves clears s s.countDeferral :=
  count_moves s _ fun h => { h with deferrals := countUp_le _ }
theorem countOutletFault_moves : Moves clears s s.countOutletFault :=
  count_moves s _ fun h => { h with outletFaults := countUp_le _ }

theorem takeOut_moves (st : OutletState) (ch : Chan) : Moves clears s (s.takeOut st ch) := by
  unfold State.takeOut
  exact (Moves.tweak ch _ ⟨rfl, rfl, rfl⟩).trans
    (.works (((setGrant_zero_works _ ch).trans (leaveQueue_works _ ch)).trans (leaveStartOrder_works _ ch)))

theorem isolate_moves (kind : FaultKind) (ch : Chan) : Moves clears s (s.isolate kind ch) :=
  (takeOut_moves s .fault ch).trans (.tweak ch _ ⟨rfl, rfl, rfl⟩)

theorem setLeave_aside (m : LeaveMark) : Aside s (s.setLeave m) := modMemb_aside s _ (.inl rfl)

theorem leaveHalted_moves (m : LeaveMark) : Moves clears s (s.setLeave m).enterHalted :=
  (Moves.aside (setLeave_aside s m)).trans (.reacts (enterHalted_reacts _))

theorem requestWithdraw_moves : Moves clears s s.requestWithdraw := by
  unfold State.requestWithdraw
  split
  · exact leaveHalted_moves s _
  · exact leaveHalted_moves s _
  · exact leaveHalted_moves s _
  · exact .ite (fun _ => .aside (setLeave_aside s _)) fun _ => .refl s
  all_goals exact .refl s

theorem requestRestart_moves : Moves clears s s.requestRestart := by
  unfold State.requestRestart
  split
  · exact leaveHalted_moves s _
  · exact leaveHalted_moves s _
  · exact leaveHalted_moves s _
  · exact .aside (setLeave_aside s _)
  · exact .aside (setLeave_aside s _)
  all_goals exact .aside (modSerial_aside s _)

theorem respond_moves (kind : FaultKind) (ch : Chan) : Moves clears s (s.respond kind ch) := by
  unfold State.respond
  split
  · exact .refl s
  · exact .ite (fun _ => isolate_moves s kind ch) fun _ => .refl s
  · exact requestWithdraw_moves s

theorem reportFault_moves (kind : FaultKind) (ch : Chan) : Moves clears s (s.reportFault kind ch) := by
  unfold State.reportFault
  exact (((setFlag_moves s .outletFault).trans (countOutletFault_moves _)).trans (.tweak ch _ ⟨rfl, rfl, rfl⟩)).trans
    (respond_moves _ kind ch)

theorem outletPhase_moves : Moves clears s s.outletPhase := .works (outletPhase_works s)

theorem keepNothing_aside : Aside s { s with hold := s.hold.map ServiceHold.keepNothing } where
  carries hs := by
    rw [carriesSound_iff_services] at hs ⊢
    intro v
    have hv := hs v
    cases v <;> exact hv
  bands v := by cases v <;> rfl

/-- What INERT freezes: no keep amount, commands driven at 0 %, every stage DOWN, no meter window (R76, R143, R186). -/
def State.freeze (s : State) : State :=
  { s with
    hold := s.hold.map ServiceHold.keepNothing
    outlets := mapAt (fun _ o => Outlet.inert o) s.outlets
    stages := mapAt (fun _ g => Stage.inert g) s.stages
    meterWindow := none }

/-- What the entry to INERT does before it freezes the outlets and stages (R51, R54, R61, R62, R76). -/
def State.stop (s : State) : State :=
  ((((s.prune .all).endPause.modMemb fun m =>
    { m with station := .inert, ownLanding := none, syncWindow := none, lapseSelfRequested := false }).modLedger fun l =>
    { l with silence := Vector.replicate 32 none, candidates := [] }).modLiu fun l =>
    { l with turns := 0 }).clearHoldMarks.stopSupplyTimers

theorem enterInert_eq : s.enterInert = s.stop.freeze := rfl

theorem stages_aside (g : Vector Stage 16) : Aside s { s with stages := g, meterWindow := none } := {}

theorem freeze_moves : Moves clears s s.freeze :=
  ((Moves.aside (keepNothing_aside s)).trans (.tweaks (fun _ o => Outlet.inert o) fun _ _ => ⟨rfl, rfl, rfl⟩)).trans
    (.aside (stages_aside _ (mapAt (fun _ g => Stage.inert g) s.stages)))

theorem stop_aside (hm : s.memb.station ≠ .member) : Aside s s.stop := by
  have hmemb : (s.prune .all).endPause.memb = s.memb := by rw [endPause_memb, prune_memb]
  unfold State.stop
  refine (((((prune_aside s .all).trans (endPause_aside _)).trans (modMemb_aside _ _ (.inr ?_))).trans
    (modLedger_aside _ _ (by dsimp only))).trans (modLiu_aside _ _)).trans ((clearHoldMarks_aside _).trans
    (stopSupplyTimers_aside _))
  rwa [hmemb]

theorem enterInert_moves (hm : s.memb.station ≠ .member) : Moves clears s s.enterInert := by
  rw [enterInert_eq]
  exact (Moves.aside (stop_aside s hm)).trans (freeze_moves _)

/-! ### The line -/

theorem pickFree_aside {α : Type} {l : List α} {a : α} {t : State} (h : s.pickFree l = some (a, t)) : Aside s t := by
  have uses : ∀ n, Aside s { s with freeUses := n } := fun n => {}
  unfold State.pickFree at h
  split at h
  · cases h
  · obtain ⟨-, rfl⟩ := Prod.mk.inj (Option.some.inj h)
    exact .refl s
  · obtain ⟨-, rfl⟩ := Prod.mk.inj (Option.some.inj h)
    exact uses _

theorem transmit_aside (key : Key) : Aside s (s.transmit key) := by
  unfold State.transmit
  split
  · exact modLiu_aside s _
  · exact .refl s

theorem startAttempt_aside : Aside s s.startAttempt := by
  unfold State.startAttempt
  split
  · next key t h => exact (pickFree_aside s h).trans (transmit_aside t key)
  · exact .refl s

theorem discardReturned_aside (b : Body) : Aside s (s.discardReturned b) := by
  unfold State.discardReturned
  split
  · exact endTake_aside s _
  all_goals exact .refl s

theorem returnFrame_aside : Aside s s.returnFrame := by
  unfold State.returnFrame
  split
  · exact (modLiu_aside s _).trans (.ite (fun _ => discardReturned_aside _ _) fun _ => modTxQueue_aside _ _)
  · exact .refl s

theorem voidOwn_aside (mismatch : Bool) : Aside s (s.voidOwn mismatch) := .ite (fun _ => modLiu_aside s _) fun _ => .refl s

theorem eighthFailure_moves (hail : Bool) : Moves clears s (s.eighthFailure hail) := by
  unfold State.eighthFailure
  refine .ite (fun h => (enterInert_moves s ?_).trans (setFlag_moves _ _)) fun _ =>
    (setFlag_moves s _).trans (.aside (modLiu_aside _ _))
  simp only [Bool.and_eq_true, beq_iff_eq] at h
  rw [← State.station, h.2]; simp

theorem failAttempt_moves (mismatch : Bool) : Moves clears s (s.failAttempt mismatch) := by
  have counted : ∀ t : State, Moves clears s t →
      Moves clears s (t.returnFrame.modLiu fun l => { l with failCount := min (l.failCount + 1) 8 }).countAttemptFailed :=
    fun t ht => ((ht.trans (.aside (returnFrame_aside t))).trans (.line _)).trans (countAttemptFailed_moves _)
  have hc := counted _ (.aside (voidOwn_aside s mismatch))
  unfold State.failAttempt
  exact .ite (fun _ => hc.trans (eighthFailure_moves _ _)) fun _ => hc

theorem voidFrame_moves (f : Frame) : Moves clears s (s.voidFrame f) := by
  have marked : Moves clears s (s.modLiu fun l => { l with mark := .void, turns := 0 }) := .aside (modLiu_aside s _)
  unfold State.voidFrame
  refine .ite (fun h => (marked.trans (enterInert_moves _ ?_)).trans (setFlag_moves _ _)) fun _ => marked
  rw [State.modLiu_memb, ← State.station, h.1]; simp

theorem notLanded_moves (bits : List Bool) : Moves clears s (s.notLanded bits) := by
  unfold State.notLanded
  split
  · exact .ite (fun _ => .aside (modLiu_aside s _)) fun _ => voidFrame_moves s _
  · exact .aside (modLiu_aside s _)

/-! ### A landing -/

theorem dropWaitingLapse_aside (b : Body) : Aside s (s.dropWaitingLapse b) := by
  unfold State.dropWaitingLapse
  split
  · exact modTxQueue_aside s _
  all_goals exact .refl s

theorem disown_aside (f : Frame) : Aside s (s.disown f) :=
  .ite (fun _ => modTxQueue_aside s _) fun _ => modLedger_aside s _ rfl

theorem risenStep_aside (old : Entry) (p : Svc × Cls) : Aside s (risenStep old p s) :=
  .ite (fun _ => markPass_aside s _ _) fun _ => .refl s

theorem ownLanded_aside : Aside s s.ownLanded := (modLiu_aside s _ fun _ => rfl).trans (modMemb_aside _ _ (.inl rfl))

theorem enterMember_aside (h : s.memb.station ≠ .member) : Aside s s.enterMember :=
  (modMemb_aside s _ (.inr h)).trans
    (.forEach serviceClasses _ (fun _ t => .ite (fun _ => .refl t) fun _ => markPass_aside t _ _) _)

theorem testForced_aside (v : Svc) : Aside s (s.testForced v) := .ite (fun _ => modSupply_aside s v _) fun _ => .refl s

theorem offerOutcome_aside (v : Svc) (accepted : Bool) (covered : List Chan) : Aside s (s.offerOutcome v accepted covered) := by
  unfold State.offerOutcome
  refine Aside.trans (.ite (fun _ => ?_) fun _ => ?_) (testForced_aside _ v)
  · exact .forEach covered _ (fun ch t => modStage_aside t ch _) s
  · exact (Aside.forEach covered _ (fun ch t => modStage_aside t ch _) s).trans (modSupply_aside _ v _)

theorem ownOutcome_moves (old : Copy) (covered : List Chan) (b : Body) : Moves clears s (s.ownOutcome old covered b) := by
  unfold State.ownOutcome
  split
  · have ended := endTake_aside s
    exact .ite (fun _ => .aside (ended _)) fun _ => (Moves.aside (ended _)).trans (countTakeRefused_moves _)
  · exact .aside (offerOutcome_aside s _ _ _)
  · refine .ite (fun h => .aside (enterMember_aside s ?_)) fun _ => .refl s
    rw [← State.station, h]; simp
  · exact .aside (markPass_aside s _ _)
  all_goals exact .refl s

theorem landed_moves (f : Frame) : Moves clears s (s.landed f) := by
  have applied : Moves clears s ((s.applyLanded f).dropWaitingLapse f.body).countFrameLanded :=
    ((Moves.land s f).trans (.aside (dropWaitingLapse_aside _ _))).trans (countFrameLanded_moves _)
  have disowned := Moves.ite (p := s.mustDisown f = true) (fun _ => applied.trans (.aside (disown_aside _ f))) fun _ => applied
  unfold State.landed
  dsimp only
  have risen := disowned.trans
    (.aside (.forEach serviceClasses (risenStep s.ledger.copy[s.own]) (fun _ t => risenStep_aside t _ _) _))
  exact .ite (fun _ => (risen.trans (.aside (ownLanded_aside _))).trans (ownOutcome_moves _ _ _ _)) fun _ =>
    risen.trans (.line _)

theorem landedLate_moves : Moves clears s s.landedLate := (countFrameLanded_moves s).trans (.aside (modLiu_aside _ _))

theorem receiveLanded_ends (f : Frame) (turns : Nat) : EndsIn clears s (receiveLanded f turns s) :=
  event_ends s fun _ => .ite (fun _ => .ite (fun _ => landed_moves s f) fun _ => landedLate_moves s) fun _ => voidFrame_moves s f

/-! ### The settings read -/

theorem loadFaultStep_moves (ch : Chan) : Moves clears s (loadFaultStep ch s) :=
  .ite (fun _ => reportFault_moves s _ ch) fun _ => .refl s

theorem loadImage_eq (bytes : List Byte) :
    s.loadImage bytes = forEach channels loadFaultStep (s.withImage bytes).enterSyncing.turnLine := rfl

theorem loadImage_moves (bytes : List Byte) (hr : s.loader.reading = true) (hm : s.memb.station ≠ .member) :
    Moves clears s (s.loadImage bytes) := by
  rw [loadImage_eq]
  refine (Moves.load bytes hr hm).trans (Moves.trans (.aside ((enterSyncing_aside _ ?_).trans (turnLine_aside _)))
    (.forEach channels _ (fun ch t => loadFaultStep_moves t ch) _))
  rwa [State.withImage_memb]

theorem rejectImage_moves (source : ImageSource) (bytes : List Byte) (check : Nat) (hm : s.memb.station ≠ .member) :
    Moves clears s (s.rejectImage source bytes check) := by
  unfold State.rejectImage
  refine ((Moves.stage _ ⟨rfl, fun h => by cases h⟩).trans (enterInert_moves _ ?_)).trans (setFlag_moves _ _)
  exact hm

theorem endRead_moves (status : Byte) (bytes : List Byte) (hr : s.loader.reading = true) (hm : s.memb.station ≠ .member) :
    Moves clears s (s.endRead status bytes) :=
  .ite (fun _ => rejectImage_moves s _ _ _ hm) fun _ =>
    .ite (fun _ => loadImage_moves s _ hr hm) fun _ => rejectImage_moves s _ _ _ hm

/-! ### Outlets -/

theorem takeDemand_moves (ch : Chan) (mv : Nat) : Moves clears s (s.takeDemand ch mv) := by
  have read : Moves clears s (s.modOutlet ch (Outlet.takeReading (demandReading mv))) := .tweak ch _ ⟨rfl, rfl, rfl⟩
  unfold State.takeDemand
  exact .ite (fun _ => (read.trans (outletPhase_moves _)).trans (reportFault_moves _ _ ch)) fun _ => read

theorem expirePulse_moves (ch : Chan) (m : ModulatingCfg) : Moves clears s (s.expirePulse ch m) := by
  have restarted : Moves clears s (s.modOutlet ch fun o => { o with pulseTimer := some 0 }) := .tweak ch _ ⟨rfl, rfl, rfl⟩
  unfold State.expirePulse
  dsimp only
  split
  · exact .ite (fun _ => restarted.trans (.tweak ch _ ⟨rfl, rfl, rfl⟩)) fun _ => restarted
  · exact (restarted.trans (.tweak ch _ ⟨rfl, rfl, rfl⟩)).trans (countPulseMissed_moves _)
  all_goals exact restarted

theorem settleValve_moves (ch : Chan) : Moves clears s (s.settleValve ch) := .works (settleValve_works s ch)

theorem inPositionUp_moves (ch : Chan) : Moves clears s (s.inPositionUp ch) :=
  .ite (fun _ => .ite (fun _ => settleValve_moves s ch) fun _ => .refl s) fun _ => .tweak ch _ ⟨rfl, rfl, rfl⟩

theorem overrunStroke_moves (ch : Chan) (n : Nat) : Moves clears s (s.overrunStroke ch n) := by
  have marked : Moves clears s (s.modOutlet ch fun o => { o with stroke := some n, overrun := true }) :=
    .tweak ch _ ⟨rfl, rfl, rfl⟩
  unfold State.overrunStroke
  exact .ite (fun _ => marked.trans (reportFault_moves _ _ ch)) fun _ => marked

theorem endWindow_valve (c : OutletCfg) (o : Outlet) : (OutletCfg.endWindow c o).grant = o.grant ∧
    (OutletCfg.endWindow c o).peak = o.peak ∧ (OutletCfg.endWindow c o).moving = o.moving := by
  have own : ∀ o : Outlet, o.ownFlow.grant = o.grant ∧ o.ownFlow.peak = o.peak ∧ o.ownFlow.moving = o.moving := by
    intro o; unfold Outlet.ownFlow; repeat' split
    all_goals exact ⟨rfl, rfl, rfl⟩
  unfold OutletCfg.endWindow
  dsimp only
  split
  · exact own _
  · exact ⟨rfl, rfl, rfl⟩

theorem windowStep_moves (ch : Chan) : Moves clears s (windowStep ch s) := by
  unfold windowStep
  split
  · next c _ =>
    have ended : Moves clears s (s.modOutlet ch (OutletCfg.endWindow c)) := .tweak ch _ (endWindow_valve c _)
    exact .ite (fun _ => ended.trans (reportFault_moves _ _ ch)) fun _ => ended
  · exact .refl s

theorem beginRun_valve (b : BatchCfg) (o : Outlet) :
    (o.beginRun b).grant = o.grant ∧ (o.beginRun b).peak = o.peak ∧ (o.beginRun b).moving = o.moving := ⟨rfl, rfl, rfl⟩

theorem callRises_valve (b : BatchCfg) (o : Outlet) :
    (o.callRises b).grant = o.grant ∧ (o.callRises b).peak = o.peak ∧ (o.callRises b).moving = o.moving := by
  unfold Outlet.callRises
  split
  · split <;> exact ⟨rfl, rfl, rfl⟩
  all_goals exact ⟨rfl, rfl, rfl⟩

theorem endRun_moves (ch : Chan) : Moves clears s (s.endRun ch) :=
  (Moves.tweak ch _ ⟨rfl, rfl, rfl⟩).trans (.works (leaveStartOrder_works _ ch))

theorem spoil_valve (b : BatchCfg) (o : Outlet) :
    (o.spoil b).grant = o.grant ∧ (o.spoil b).peak = o.peak ∧ (o.spoil b).moving = o.moving := by
  unfold Outlet.spoil
  dsimp only
  split <;> exact ⟨rfl, rfl, rfl⟩

theorem spoilRun_moves (ch : Chan) (b : BatchCfg) : Moves clears s (s.spoilRun ch b) := by
  unfold State.spoilRun
  exact ((((countRunSpoilt_moves s).trans (.works ((leaveQueue_works _ ch).trans (leaveStartOrder_works _ ch)))).trans
    (.tweak ch _ (spoil_valve b _))).trans (outletPhase_moves _)).trans (reportFault_moves _ _ ch)

theorem deferBlocker_moves (v : Svc) (k : Cls) (ch : Chan) : Moves clears s (s.deferBlocker v k ch) := by
  unfold State.deferBlocker
  exact (((Moves.works (modQueue_works s v k _)).trans (.tweak ch _ ⟨rfl, rfl, rfl⟩)).trans (countDeferral_moves _)).trans
    (.aside (markPass_aside _ v k))

theorem enterUse_valve (c : OutletCfg) (o : Outlet) : (OutletCfg.enterUse c o).grant = o.grant ∧
    (OutletCfg.enterUse c o).peak = o.peak ∧ (OutletCfg.enterUse c o).moving = o.moving := by
  unfold OutletCfg.enterUse
  split <;> exact ⟨rfl, rfl, rfl⟩

/-! ### Stages -/

theorem reportStageFault_moves : Moves clears s s.reportStageFault := setFlag_moves s _

theorem failWarmUp_moves (ch : Chan) : Moves clears s (s.failWarmUp ch) :=
  (Moves.aside (modStage_aside s ch _)).trans (reportStageFault_moves _)

theorem tripStage_moves (ch : Chan) : Moves clears s (s.tripStage ch) := by
  unfold State.tripStage
  split
  · exact (Moves.aside ((modStage_aside s ch _).trans (modSupply_aside _ _ _))).trans (reportStageFault_moves _)
  · exact .refl s

theorem tripUp_moves (ch : Chan) : Moves clears s (s.tripUp ch) := by
  unfold State.tripUp
  split
  · exact failWarmUp_moves s ch
  · exact tripStage_moves s ch
  all_goals exact .refl s

theorem startDrop_aside (v : Svc) (ch : Chan) : Aside s (s.startDrop v ch) :=
  (modStage_aside s ch _).trans (modSupply_aside _ v _)

/-! ### The service line -/

theorem answerData_ends (data : Option (List Byte)) : Ends clears s (s.answerData data) := by
  unfold State.answerData
  split <;> exact answer_ends s _ _

theorem outletCommand_ends {n : Byte} {act : Chan → OutletCfg → State → State} (h : ∀ ch c, Ends clears s (act ch c s)) :
    Ends clears s (s.outletCommand n act) := by
  unfold State.outletCommand
  refine .ite (fun _ => answer_ends s _ _) fun _ => ?_
  split
  · split
    · exact h _ _
    · exact answer_ends s _ _
  · exact answer_ends s _ _

theorem answer_moves (status : Status) (data : List Byte) : Moves clears s (s.answer status data) :=
  .aside (answer_aside s status data)

theorem enable_moves (ch : Chan) (c : OutletCfg) : Moves clears s (s.enable ch c) := by
  have used : Moves clears s (s.modOutlet ch (OutletCfg.enterUse c)) := .tweak ch _ (enterUse_valve c _)
  unfold State.enable
  exact .ite (fun _ => (used.trans (outletPhase_moves _)).trans (reportFault_moves _ _ ch)) fun _ => used

theorem enableCommand_ends (ch : Chan) (c : OutletCfg) : Ends clears s (s.enableCommand ch c) := by
  unfold State.enableCommand
  split
  · exact .settle s ((answer_moves s _ _).trans (enable_moves _ ch c))
  · exact answer_ends s _ _
  · exact .settle s ((answer_moves s _ _).trans (.tweak ch _ ⟨rfl, rfl, rfl⟩))
  all_goals exact answer_ends s _ _

theorem disable_moves (ch : Chan) : Moves clears s (s.disable ch) := by
  unfold State.disable
  split
  · exact .refl s
  · exact (takeOut_moves s .off ch).trans (.tweak ch _ ⟨rfl, rfl, rfl⟩)
  · exact .tweak ch _ ⟨rfl, rfl, rfl⟩
  all_goals exact takeOut_moves s .off ch

theorem clearCommand_ends (ch : Chan) (c : OutletCfg) : Ends clears s (s.clearCommand ch c) := by
  unfold State.clearCommand
  exact .ite (fun _ => .settle s ((answer_moves s _ _).trans (.tweak ch _ (enterUse_valve c _)))) fun _ => answer_ends s _ _

theorem guardCommand_ends (mode count side complement : Byte) (flags : BitVec 16) :
    Ends clears s (s.guardCommand mode count side complement flags) := by
  have guard : ∀ (t : State) g, Aside t (t.modApp fun a => { a with guard := g }) := fun t g => {}
  unfold State.guardCommand
  refine .ite (fun _ => answer_ends s _ _) fun _ => .ite (fun _ => answer_ends s _ _) fun _ => ?_
  split
  · exact .settle s ((answer_moves s _ _).trans (.aside (guard _ _)))
  · exact answer_ends s _ _

theorem modLoader_moves (f : Loader → Loader) (h : Loader.Staged s.loader (f s.loader)) : Moves clears s (s.modLoader f) :=
  .stage f h

theorem tryWrite_moves : Moves clears s s.tryWrite := by
  unfold State.tryWrite
  split
  · exact .ite (fun _ => (modLoader_moves s _ ⟨rfl, id⟩).trans (.aside (modSerial_aside _ _))) fun _ => answer_moves s _ _
  · exact answer_moves s _ _

theorem writeCommand_moves (segment : Byte) (data : List Byte) : Moves clears s (s.writeCommand segment data) := by
  unfold State.writeCommand
  refine .ite (fun _ => answer_moves s _ _) fun _ => .ite (fun _ => answer_moves s _ _) fun _ => ?_
  have staged : Moves clears s (s.stage64 (Fin.ofNat 6 segment.toNat) data) := modLoader_moves s _ ⟨rfl, id⟩
  exact .ite (fun _ => staged.trans (tryWrite_moves _)) fun _ => staged.trans (answer_moves _ _ _)

theorem badFrameReply_moves : Moves clears s s.badFrameReply := .ite (fun _ => .refl s) fun _ => .aside (reply_aside s _)

theorem endWrite_moves (status : Status) (data : List Byte) : Moves clears s (s.endWrite status data) :=
  (modLoader_moves s _ ⟨rfl, id⟩).trans (answer_moves _ _ _)

theorem pageWritten_moves (status : Byte) (n : Nat) : Moves clears s (s.pageWritten status n) :=
  .ite (fun _ => endWrite_moves s _ _) fun _ => modLoader_moves s _ ⟨rfl, id⟩

theorem writeCompletes_moves (status : Byte) (readBack : List Byte) : Moves clears s (s.writeCompletes status readBack) := by
  have compared : Moves clears s (s.compareWrite readBack) :=
    .ite (fun _ => (modLoader_moves s _ ⟨rfl, id⟩).trans (endWrite_moves _ _ _)) fun _ => endWrite_moves s _ _
  unfold State.writeCompletes
  split
  · refine .ite (fun _ => endWrite_moves s _ _) fun _ => ?_
    split
    · exact compared
    · exact .refl s
    · exact .refl s
  · exact .refl s

theorem sent_ends (r : Reply) (rest : List Reply) : Ends clears s (s.sent r rest) := by
  have taken : Moves clears s (s.modSerial fun l => { l with replies := rest, busy := l.busy && !r.ofCommand }) :=
    .aside (modSerial_aside s _)
  unfold State.sent
  exact .ite (fun _ => .inr ⟨_, s.now, taken, rfl⟩) fun _ => .inl taken

end

end Sys2Proof.Machine

namespace Sys2Proof.Machine

/-! ### Every command -/

section
variable {clears : Prop} (s : State)

theorem Ends.fullReset {t : State} (h : Moves clears s t) : Ends clears s t.fullReset := .inr ⟨t, t.now, h, rfl⟩

theorem execResetPinAsserted_ends : EndsIn clears s (execResetPinAsserted s) :=
  ⟨_, rfl, .fullReset s (.aside (pins_aside s _))⟩

theorem execResetPinReleased_ends : EndsIn clears s (execResetPinReleased s) :=
  ⟨_, rfl, .ite (fun _ => .fullReset s (.aside (pins_aside s _))) fun _ => .refl s⟩

theorem execSettingsReadCompletes_ends (status : Byte) (bytes : List Byte) :
    EndsIn clears s (execSettingsReadCompletes status bytes s) := by
  refine event_ends s fun h => ?_
  simp only [Bool.and_eq_true, beq_iff_eq] at h
  obtain ⟨⟨-, hst⟩, hr⟩ := h
  exact endRead_moves s status bytes hr (by rw [← State.station, hst]; simp)

theorem setOwnLanding_aside (t : Timer) : Aside s (s.setOwnLanding t) := modMemb_aside s _ (.inl rfl)

theorem enterJoining_aside (h : s.memb.station ≠ .member) : Aside s s.enterJoining := by
  unfold State.enterJoining State.placeHail
  exact (modMemb_aside s _ (.inr h)).trans (modTxQueue_aside _ _)

theorem execSyncingWindowExpires_ends : EndsIn clears s (execSyncingWindowExpires s) := by
  refine event_ends s fun h => .aside (enterJoining_aside s ?_)
  simp only [Bool.and_eq_true, beq_iff_eq] at h
  rw [← State.station, h.1.2]; simp

theorem setSilence_aside (n : Stn) (t : Timer) : Aside s (s.setSilence n t) := modLedger_aside s _ rfl

theorem execSpareTimerExpires_ends (v : Svc) (k : Cls) : EndsIn clears s (execSpareTimerExpires v k s) :=
  event_ends s fun _ => .aside (modClass_aside s (fun _ _ h => h) (fun _ _ h => h) fun _ => ⟨rfl, rfl⟩)

theorem execReclaimTimerExpires_ends (v : Svc) : EndsIn clears s (execReclaimTimerExpires v s) :=
  event_ends s fun _ => .aside ((modHold_aside s (by rfl)).trans (setFlag_aside _ _))

theorem execBlockTimerExpires_ends (v : Svc) (k : Cls) : EndsIn clears s (execBlockTimerExpires v k s) := by
  unfold execBlockTimerExpires
  split
  · exact event_ends s fun _ => deferBlocker_moves s v k _
  · exact ⟨_, rfl, .refl s⟩

/-! ### The outlet commands -/

theorem execDemandInputChange_ends (ch : Chan) (mv : Nat) : EndsIn clears s (execDemandInputChange ch mv s) :=
  EndsIn.after (.aside (pins_aside s _)) (event_ends _ fun _ => takeDemand_moves _ ch mv)

theorem execIdleTimerExpires_ends (ch : Chan) : EndsIn clears s (execIdleTimerExpires ch s) :=
  event_ends s fun _ => .tweak ch _ ⟨rfl, rfl, rfl⟩

theorem execPulseTimerExpires_ends (ch : Chan) : EndsIn clears s (execPulseTimerExpires ch s) := by
  refine event_ends s fun _ => ?_
  split
  · exact expirePulse_moves s ch _
  · exact .refl s

theorem execPulseLengthTimerExpires_ends (ch : Chan) : EndsIn clears s (execPulseLengthTimerExpires ch s) :=
  event_ends s fun _ => .tweak ch _ ⟨rfl, rfl, rfl⟩

theorem execInPositionRises_ends (ch : Chan) : EndsIn clears s (execInPositionRises ch s) :=
  EndsIn.after (.aside (pins_aside s _)) (event_ends _ fun _ => inPositionUp_moves _ ch)

theorem execInPositionFalls_ends (ch : Chan) : EndsIn clears s (execInPositionFalls ch s) :=
  EndsIn.after (.aside (pins_aside s _)) (event_ends _ fun _ => .tweak ch _ ⟨rfl, rfl, rfl⟩)

theorem execStrokeOverrun_ends (ch : Chan) : EndsIn clears s (execStrokeOverrun ch s) := by
  refine event_ends s fun _ => ?_
  split
  · exact overrunStroke_moves s ch _
  · exact .refl s

theorem execDrift_ends (ch : Chan) : EndsIn clears s (execDrift ch s) := by
  refine event_ends s fun _ => ?_
  split
  · exact (Moves.tweak ch _ ⟨rfl, rfl, rfl⟩).trans (reportFault_moves _ _ ch)
  · exact .refl s

theorem execMeterPulse_ends (ch : Chan) : EndsIn clears s (execMeterPulse ch s) := by
  have counted : Moves clears s (s.modOutlet ch fun o => { o with pulses := countUp o.pulses }) :=
    .tweak ch _ ⟨rfl, rfl, rfl⟩
  exact quietEvent_ends s fun _ => counted

theorem execMeterWindowEnds_ends : EndsIn clears s (execMeterWindowEnds s) := by
  have begun : Aside s { s with meterWindow := some 0 } := {}
  exact event_ends s fun _ => (Moves.aside begun).trans (.forEach channels _ (fun ch t => windowStep_moves t ch) _)

theorem execCallInputRises_ends (ch : Chan) : EndsIn clears s (execCallInputRises ch s) := by
  have pin : Aside s (s.setCallPin ch true) := pins_aside s _
  unfold execCallInputRises
  refine EndsIn.after (.aside pin) (event_ends (s.setCallPin ch true) fun _ => ?_)
  split
  · exact .tweak ch _ (callRises_valve _ _)
  · exact .refl _

theorem execRunSpoilt_ends (ch : Chan) : EndsIn clears s (execRunSpoilt ch s) := by
  refine event_ends s fun _ => ?_
  split
  · exact spoilRun_moves s ch _
  · exact .refl s

/-! ### The stage commands -/

theorem execStageReadyRises_ends (ch : Chan) : EndsIn clears s (execStageReadyRises ch s) :=
  EndsIn.after (.aside (pins_aside s _)) (event_ends _ fun _ => .aside (modStage_aside _ ch _))

theorem execStageReadyFalls_ends (ch : Chan) : EndsIn clears s (execStageReadyFalls ch s) :=
  EndsIn.after (.aside (pins_aside s _)) (event_ends _ fun _ => tripStage_moves _ ch)

theorem execTripInputAsserts_ends (ch : Chan) : EndsIn clears s (execTripInputAsserts ch s) :=
  EndsIn.after (.aside (pins_aside s _)) (event_ends _ fun _ => tripUp_moves _ ch)

theorem execTripInputClears_ends (ch : Chan) : EndsIn clears s (execTripInputClears ch s) :=
  EndsIn.after (.aside (pins_aside s _)) (event_ends _ fun _ => .aside (modStage_aside _ ch _))

theorem execDropHoldTimerExpires_ends (v : Svc) : EndsIn clears s (execDropHoldTimerExpires v s) := by
  unfold execDropHoldTimerExpires
  split
  · exact event_ends s fun _ => .aside (startDrop_aside s v _)
  · exact ⟨_, rfl, .refl s⟩

/-! ### The commands of the service line -/

theorem execWriteSettings_ends (segment : Byte) (data : List Byte) : EndsIn clears s (execWriteSettings segment data s) := by
  unfold execWriteSettings
  split
  · exact serve_ends s (.inl (writeCommand_moves s segment data))
  · exact ⟨_, rfl, .inl (badFrameReply_moves s)⟩

theorem execSettingsPageWritten_ends (status : Byte) : EndsIn clears s (execSettingsPageWritten status s) := by
  unfold execSettingsPageWritten
  split
  · exact quietEvent_ends s fun _ => pageWritten_moves s status _
  · exact quietEvent_ends s fun _ => pageWritten_moves s status _
  · exact ⟨_, rfl, .refl s⟩
  · exact ⟨_, rfl, .refl s⟩

theorem execBadFrame_ends (bytes : List Byte) : EndsIn clears s (execBadFrame bytes s) :=
  ⟨_, rfl, .ite (fun _ => .inl (badFrameReply_moves s)) fun _ => .refl s⟩

theorem execServiceByteGapTimeout_ends (bytes : List Byte) : EndsIn clears s (execServiceByteGapTimeout s bytes) :=
  ⟨_, rfl, .ite (fun _ => .inl (badFrameReply_moves s)) fun _ => .refl s⟩

theorem execResponseSent_ends : EndsIn clears s (execResponseSent s) := by
  unfold execResponseSent
  split
  · exact ⟨_, rfl, sent_ends s _ _⟩
  · exact ⟨_, rfl, .refl s⟩

theorem execRestart_ends : EndsIn clears s (execRestart s) := by
  have asked : Moves clears s (s.answer .done []).requestRestart := (answer_moves s _ _).trans (requestRestart_moves _)
  exact serve_ends s (.settle s asked)

/-- CLEAR-FLAGS is the one command that clears flags (R194). -/
theorem execClearFlags_ends (mask : BitVec 16) (h : clears) : EndsIn clears s (execClearFlags mask s) :=
  serve_ends s (.ite (fun _ => answer_ends s _ _) fun _ =>
    .inl ((Moves.clear s (lowFlags mask) h).trans (answer_moves _ _ _)))

/-- Every command answers a next state, which its act and the reactions leave, or a full reset after them. Flags are cleared by
CLEAR-FLAGS alone (R194, R198). -/
theorem exec_ends (c : Instr) : EndsIn (∃ m, c = .clearFlags m) s (exec c s) := by
  cases c with
  | powerOn => exact ⟨_, rfl, .fullReset s (.refl s)⟩
  | resetPinAsserted => exact execResetPinAsserted_ends s
  | resetPinReleased => exact execResetPinReleased_ends s
  | settingsReadCompletes status bytes => exact execSettingsReadCompletes_ends s status bytes
  | startOfAttempt => exact quietEvent_ends s fun _ => .aside (startAttempt_aside s)
  | arbitrationLost => exact event_ends s fun _ => .aside (returnFrame_aside s)
  | attemptFails mismatch => exact event_ends s fun _ => failAttempt_moves s mismatch
  | retryPauseExpires => exact event_ends s fun _ => .line _
  | frameNotLanded bits turns => exact event_ends s fun _ => notLanded_moves s bits
  | partialFrameDropped => exact ⟨_, rfl, .refl s⟩
  | take _ _ _ _ _ turns => exact receiveLanded_ends s _ turns
  | give _ _ _ _ _ turns => exact receiveLanded_ends s _ turns
  | want _ _ _ _ turns => exact receiveLanded_ends s _ turns
  | offer _ _ _ _ _ turns => exact receiveLanded_ends s _ turns
  | keep _ _ _ _ _ _ turns => exact receiveLanded_ends s _ turns
  | hail _ _ _ _ turns => exact receiveLanded_ends s _ turns
  | lapse _ _ _ _ turns => exact receiveLanded_ends s _ turns
  | ownLandingTimerTKeep => exact event_ends s fun _ => .aside (setOwnLanding_aside s _)
  | ownLandingTimerTSelf => exact event_ends s fun _ => .aside (setOwnLanding_aside s _)
  | syncingWindowExpires => exact execSyncingWindowExpires_ends s
  | silenceTimerTSelf peer => exact event_ends s fun _ => .aside (setSilence_aside s peer _)
  | silenceTimerTExp peer => exact event_ends s fun _ => .aside (setSilence_aside s peer _)
  | spareTimerExpires v k => exact execSpareTimerExpires_ends s v k
  | reclaimTimerExpires v => exact execReclaimTimerExpires_ends s v
  | blockTimerExpires v k => exact execBlockTimerExpires_ends s v k
  | demandInputChange ch mv => exact execDemandInputChange_ends s ch mv
  | idleTimerExpires ch => exact execIdleTimerExpires_ends s ch
  | pulseTimerExpires ch => exact execPulseTimerExpires_ends s ch
  | pulseLengthTimerExpires ch => exact execPulseLengthTimerExpires_ends s ch
  | inPositionRises ch => exact execInPositionRises_ends s ch
  | inPositionFalls ch => exact execInPositionFalls_ends s ch
  | strokeTimerExpires ch => exact event_ends s fun _ => settleValve_moves s ch
  | strokeOverrun ch => exact execStrokeOverrun_ends s ch
  | drift ch => exact execDrift_ends s ch
  | meterPulse ch => exact execMeterPulse_ends s ch
  | meterWindowEnds => exact execMeterWindowEnds_ends s
  | callInputRises ch => exact execCallInputRises_ends s ch
  | runRemainingZero ch => exact event_ends s fun _ => endRun_moves s ch
  | runSpoilt ch => exact execRunSpoilt_ends s ch
  | stageReadyRises ch => exact execStageReadyRises_ends s ch
  | stageReadyFalls ch => exact execStageReadyFalls_ends s ch
  | tripInputAsserts ch => exact execTripInputAsserts_ends s ch
  | tripInputClears ch => exact execTripInputClears_ends s ch
  | warmUpTimerExpires ch => exact event_ends s fun _ => failWarmUp_moves s ch
  | lockoutTimerExpires ch => exact event_ends s fun _ => .aside (modStage_aside s ch _)
  | callTimerExpires v => exact event_ends s fun _ => .aside (modSupply_aside s v _)
  | dropHoldTimerExpires v => exact execDropHoldTimerExpires_ends s v
  | readStation page => exact serve_ends s (answerData_ends s _)
  | readEntry n => exact serve_ends s (answerData_ends s _)
  | readOutlet n => exact serve_ends s (answerData_ends s _)
  | readStage n => exact serve_ends s (answerData_ends s _)
  | readFlags => exact serve_ends s (answerData_ends s _)
  | clearFlags mask => exact execClearFlags_ends s mask ⟨mask, rfl⟩
  | enableOutlet n => exact serve_ends s (outletCommand_ends s fun ch c => enableCommand_ends s ch c)
  | disableOutlet n =>
    exact serve_ends s (outletCommand_ends s fun ch c => .settle s ((answer_moves s _ _).trans (disable_moves _ ch)))
  | clearOutlet n => exact serve_ends s (outletCommand_ends s fun ch c => clearCommand_ends s ch c)
  | setGuard mode count side complement flags => exact serve_ends s (guardCommand_ends s _ _ _ _ _)
  | restart => exact execRestart_ends s
  | readSettings segment => exact serve_ends s (answerData_ends s _)
  | writeSettings segment data => exact execWriteSettings_ends s segment data
  | settingsPageWritten status => exact execSettingsPageWritten_ends s status
  | settingsWriteCompletes status readBack => exact quietEvent_ends s fun _ => writeCompletes_moves s status readBack
  | badFrame bytes => exact execBadFrame_ends s bytes
  | serviceByteGapTimeout bytes => exact execServiceByteGapTimeout_ends s bytes
  | responseSent => exact execResponseSent_ends s
  | callInputFalls ch => exact ⟨_, rfl, .inl (.aside (pins_aside s _))⟩
  | lockInputChanges level => exact ⟨_, rfl, .inl (.aside (pins_aside s _))⟩

end

/-! ### Every step -/

/-- What any number of events leaves, full resets among them. -/
inductive Runs : State → State → Prop where
  | moves {s t} : Moves True s t → Runs s t
  | reset (s : State) (n : Nat) : Runs s { s.fullReset with now := n }
  | trans {s t u} : Runs s t → Runs t u → Runs s u

theorem Ends.runs {clears : Prop} {s t : State} (h : Ends clears s t) : Runs s t := by
  rcases h with hm | ⟨u, n, hm, rfl⟩
  · exact .moves hm.weaken
  · exact .trans (.moves hm.weaken) (.reset u n)

theorem Runs.refl (s : State) : Runs s s := .moves (.refl s)

theorem Runs.forEach {α : Type} (l : List α) (f : α → State → State) (h : ∀ a t, Runs t (f a t)) (s : State) :
    Runs s (forEach l f s) := by
  induction l generalizing s with
  | nil => exact .refl s
  | cons a rest ih => exact (h a s).trans (ih (f a s))

theorem exec_runs (c : Instr) (s : State) : ∃ t, exec c s = .next t ∧ Runs s t := by
  obtain ⟨t, e, h⟩ := exec_ends s c
  exact ⟨t, e, h.runs⟩

theorem outcome_runs (c : Instr) (s : State) : Runs s (outcomeState s (exec c s)) := by
  obtain ⟨t, e, h⟩ := exec_runs c s
  rw [e]
  exact h

section
variable (s : State)

theorem tick_valve (c : OutletCfg) (o : Outlet) :
    (o.tick c).grant = o.grant ∧ (o.tick c).peak = o.peak ∧ (o.tick c).moving = o.moving := ⟨rfl, rfl, rfl⟩

theorem tickOutlets_moves : Moves True s s.tickOutlets := by
  have timers : ∀ (t : State) g w, Aside t { t with stages := g, meterWindow := w } := fun t g w => {}
  refine (Moves.tweaks (fun ch o => match s.outletCfg? ch with | some c => o.tick c | none => o) fun ch o => ?_).trans
    (.aside (timers _ (mapAt (fun ch g => match s.stageCfg? ch with | some c => g.tick c | none => g) s.stages)
      (Timer.tick Config.meterWindow s.meterWindow)))
  split <;> exact ⟨rfl, rfl, rfl⟩

theorem tickLine_aside : Aside s s.tickLine := by
  have line : ∀ retry own sync silence, Aside s { s with
      liu := { s.liu with retryPause := retry }
      memb := { s.memb with ownLanding := own, syncWindow := sync }
      ledger := { s.ledger with silence := silence } } := fun _ _ _ _ => {}
  exact line _ _ _ _

theorem tickService_aside (v : Svc) : Aside s (tickService v s) := (modHold_aside s (by rfl)).trans (modSupply_aside _ v _)

theorem tickClass_aside (v : Svc) (k : Cls) : Aside s (tickClass v k s) := by
  have queue : ∀ (t : State) f, Aside t (t.modQueue v k f) := fun t f => {}
  have spare : ∀ n, Aside s (s.modClass v k fun c => { c with spareTimer := Timer.tick n c.spareTimer }) := fun n =>
    modClass_aside s (fun _ _ h => h) (fun _ _ h => h) fun _ => ⟨rfl, rfl⟩
  exact (spare _).trans (queue _ _)

theorem passTime_moves : Moves True s s.passTime := by
  unfold State.passTime
  exact ((Moves.aside (tickLine_aside s)).trans (tickOutlets_moves _)).trans
    (.aside ((Aside.forEach services _ (fun v t => tickService_aside t v) _).trans
      (.forEach serviceClasses _ (fun p t => tickClass_aside t p.1 p.2) _)))

theorem detectLate_moves (kind : FaultKind) (ch : Chan) : Moves True s (s.detectLate kind ch) := by
  unfold State.detectLate
  split
  · exact .tweak ch _ ⟨rfl, rfl, rfl⟩
  · exact countRunSpoilt_moves s
  all_goals exact .refl s

theorem lateOverdraw_runs (ch : Chan) : Runs s (lateOverdraw ch s) := by
  unfold lateOverdraw
  split
  · exact (Ends.settle (clears := True) s ((Moves.tweak ch _ ⟨rfl, rfl, rfl⟩).trans (reportFault_moves _ _ ch))).runs
  · exact .refl s

theorem Expiry.take_runs (e : Expiry) : Runs s (Expiry.take e s) := by
  unfold Expiry.take
  split
  · exact (Ends.settle (clears := True) s ((detectLate_moves s _ _).trans (reportFault_moves _ _ _))).runs
  · exact .refl s
  · exact (outcome_runs _ s).trans (.forEach _ _ (fun ch t => lateOverdraw_runs t ch) _)

theorem fireDue_runs (n : Nat) (l : List Expiry) : Runs s (fireDue n l s) := by
  induction n generalizing l s with
  | zero => exact .refl s
  | succ n ih =>
    unfold fireDue
    split
    · next e t h => exact ((Runs.moves (.aside (pickFree_aside s h))).trans (Expiry.take_runs t e)).trans (ih _ _)
    · exact .refl s

theorem tick_runs : Runs s s.tick := by
  unfold State.tick
  split
  · exact (Runs.moves (passTime_moves s)).trans (fireDue_runs _ _ _)
  · exact .refl s

end

/-- A step, whether it takes a command or lets time pass, runs events alone, but for the command taken off the queue. -/
theorem step_runs {s t : State} (h : step s = .next t) : ∃ l, Runs { s with pending := l } t := by
  unfold step at h
  split at h
  · next c rest _ =>
    obtain ⟨u, e, hu⟩ := exec_runs c { s with pending := rest }
    rw [e] at h
    cases h
    exact ⟨rest, hu⟩
  · cases h
    exact ⟨s.pending, tick_runs s⟩

/-- What holds after every full reset, is kept by each command's act and the reactions, and does not look at the queue, every step
keeps. -/
theorem step_keeps {P : State → Prop} (hreset : ∀ (s : State) (n : Nat), P { s.fullReset with now := n })
    (hmoves : ∀ s t, Moves True s t → P s → P t) (hqueue : ∀ (s : State) l, P s → P { s with pending := l })
    {s t : State} (h : step s = .next t) (hs : P s) : P t := by
  have runs : ∀ u, Runs u t → P u → P t := by
    clear h hs
    intro u hr
    induction hr with
    | moves hm => exact hmoves _ _ hm
    | reset s n => exact fun _ => hreset s n
    | trans _ _ h1 h2 => exact fun hu => h2 (h1 hu)
  obtain ⟨l, hr⟩ := step_runs h
  exact runs _ hr (hqueue s l hs)

end Sys2Proof.Machine

namespace Sys2Proof.Machine

/-! ### Sums over a list -/

section
variable {α : Type} {l : List α} {f g : α → Nat}

theorem sum_map_le (h : ∀ a ∈ l, f a ≤ g a) : (l.map f).sum ≤ (l.map g).sum := by
  induction l with
  | nil => exact Nat.le_refl _
  | cons a rest ih =>
    simp only [List.map_cons, List.sum_cons]
    exact Nat.add_le_add (h a (List.mem_cons_self ..)) (ih fun b hb => h b (List.mem_cons_of_mem a hb))

theorem le_sum_map {a : α} (ha : a ∈ l) (f : α → Nat) : f a ≤ (l.map f).sum := by
  induction l with
  | nil => cases ha
  | cons b rest ih =>
    simp only [List.map_cons, List.sum_cons]
    rcases List.mem_cons.mp ha with rfl | hrest
    · exact Nat.le_add_right _ _
    · exact Nat.le_trans (ih hrest) (Nat.le_add_left _ _)

theorem sum_map_eq_zero (h : ∀ a ∈ l, f a = 0) : (l.map f).sum = 0 := by
  induction l with
  | nil => rfl
  | cons a rest ih =>
    rw [List.map_cons, List.sum_cons, h a (List.mem_cons_self ..), ih fun b hb => h b (List.mem_cons_of_mem a hb)]

theorem sum_map_add (l : List α) (f g : α → Nat) : (l.map fun a => f a + g a).sum = (l.map f).sum + (l.map g).sum := by
  induction l with
  | nil => rfl
  | cons a rest ih => simp only [List.map_cons, List.sum_cons, ih]; omega

theorem sum_map_mul (l : List α) (n : Nat) (f : α → Nat) : (l.map fun a => n * f a).sum = n * (l.map f).sum := by
  induction l with
  | nil => rfl
  | cons a rest ih => simp only [List.map_cons, List.sum_cons, ih, Nat.mul_add]

/-- Two sums that differ at one place of the list alone differ by what stands there. -/
theorem sum_map_of_one {a : α} (hl : l.Nodup) (ha : a ∈ l) (h : ∀ b, b ≠ a → f b = g b) :
    (l.map f).sum + g a = (l.map g).sum + f a := by
  induction l with
  | nil => cases ha
  | cons b rest ih =>
    obtain ⟨hb, hrest⟩ := List.nodup_cons.mp hl
    simp only [List.map_cons, List.sum_cons]
    by_cases e : b = a
    · subst e
      have hsame : rest.map f = rest.map g := List.map_congr_left fun c hc => h c fun e => hb (e ▸ hc)
      rw [hsame]
      omega
    · have hmem : a ∈ rest := (List.mem_cons.mp ha).resolve_left fun e' => e e'.symm
      have := ih hrest hmem
      rw [h b e]
      omega

end

/-! ### Sums over the MEMBER entries -/

/-- What an entry adds to a sum over the MEMBER entries. -/
def Entry.part (f : Entry → Nat) (e : Entry) : Nat := if e.isMember then f e else 0

theorem Entry.part_of_member {f : Entry → Nat} {e : Entry} (h : e.isMember = true) : e.part f = f e := if_pos h

theorem stations_nodup : stations.Nodup := by decide

theorem sumMembers_eq (copy : Copy) (f : Entry → Nat) : sumMembers copy f = (stations.map fun n => (copy[n]).part f).sum := rfl

/-- A MEMBER entry's amount is at most the sum. -/
theorem le_sumMembers {copy : Copy} {s : Stn} (h : (copy[s]).isMember = true) (f : Entry → Nat) :
    f copy[s] ≤ sumMembers copy f := by
  rw [sumMembers_eq, ← Entry.part_of_member (f := f) h]
  exact le_sum_map (mem_stations s) fun n : Stn => (copy[n]).part f

theorem copy_set_self (copy : Copy) (s : Stn) (e : Entry) : (copy.set s e)[s] = e := by simp

theorem copy_set_of_ne (copy : Copy) {s n : Stn} (e : Entry) (h : n ≠ s) : (copy.set s e)[n] = copy[n] :=
  Vector.getElem_set_ne s.isLt n.isLt fun he => h (Fin.ext he.symm)

/-- One entry changed: the sum loses the old entry's part and gains the new one's. -/
theorem sumMembers_set (copy : Copy) (s : Stn) (e : Entry) (f : Entry → Nat) :
    sumMembers (copy.set s e) f + (copy[s]).part f = sumMembers copy f + e.part f := by
  have h := sum_map_of_one (f := fun n : Stn => ((copy.set s e)[n]).part f) (g := fun n : Stn => (copy[n]).part f) stations_nodup
    (mem_stations s) fun n hn => by rw [copy_set_of_ne copy e hn]
  simp only [copy_set_self] at h
  exact h

theorem capacity_le (copy : Copy) (v : Svc) : capacity copy v ≤ Config.maxHu := Nat.min_le_right _ _

theorem total_le_held {copy : Copy} {s : Stn} (h : (copy[s]).isMember = true) (v : Svc) : (copy[s]).total v ≤ held copy v :=
  le_sumMembers h fun e => e.total v

theorem Entry.holding_le_total (e : Entry) (v : Svc) (k : Cls) : e.holding v k ≤ e.total v := by
  have h := e.total_eq_holdings v
  cases k <;> omega

/-! ### The entries of the copy stay in range -/

/-- The holdings, want and offer of one service between 0 and 4095 (R2). -/
structure Shares.InRange (sh : Shares) : Prop where
  holdings : ∀ k, sh.holdings.get k ≤ Config.maxHu
  want : sh.want ≤ Config.maxHu
  offer : sh.offer ≤ Config.maxHu

/-- An entry's ranges, by name (R2, R3). -/
structure Entry.InRange (e : Entry) : Prop where
  blank : e.isMember = true ∨ e = Entry.blank
  shares : ∀ v, (e.shares.get v).InRange

theorem Entry.sound_iff (e : Entry) : e.sound = true ↔ e.InRange := by
  simp only [Entry.sound, Bool.and_eq_true, Bool.or_eq_true, beq_iff_eq, List.all_eq_true, decide_eq_true_eq,
    mem_services, mem_classes, forall_const]
  constructor
  · rintro ⟨hb, hsh⟩
    exact ⟨hb, fun v => ⟨(hsh v).1.1, (hsh v).1.2, (hsh v).2⟩⟩
  · rintro ⟨hb, hsh⟩
    exact ⟨hb, fun v => ⟨⟨(hsh v).holdings, (hsh v).want⟩, (hsh v).offer⟩⟩

/-- Every entry in range. -/
def Copy.InRange (copy : Copy) : Prop := ∀ n : Stn, (copy[n]).InRange

theorem State.ledgerSound_iff (s : State) : s.ledgerSound = true ↔ Copy.InRange s.ledger.copy := by
  simp only [State.ledgerSound, List.all_eq_true, mem_stations, forall_const, Entry.sound_iff]
  rfl

theorem bits12_le (n : BitVec 12) : n.toNat ≤ Config.maxHu := Nat.le_of_lt_succ n.isLt

theorem Shares.inRange_zero : Shares.zero.InRange where
  holdings k := by cases k <;> exact Nat.zero_le _
  want := Nat.zero_le _
  offer := Nat.zero_le _

theorem Account.shares_inRange (a : Account) : (Account.shares a).InRange where
  holdings k := by rw [Account.shares, Per4.get_map]; exact bits12_le _
  want := bits12_le _
  offer := bits12_le _

theorem Entry.blank_inRange : Entry.blank.InRange where
  blank := .inr rfl
  shares v := by cases v <;> exact Shares.inRange_zero

theorem Copy.InRange.set {copy : Copy} (h : Copy.InRange copy) {s : Stn} {e : Entry} (he : e.InRange) :
    Copy.InRange (copy.set s e) := by
  intro n
  by_cases hn : n = s
  · subst hn; rwa [copy_set_self]
  · rw [copy_set_of_ne copy e hn]; exact h n

theorem Copy.InRange.ite {a b : Copy} {p : Prop} [Decidable p] (ha : p → Copy.InRange a) (hb : ¬p → Copy.InRange b) :
    Copy.InRange (if p then a else b) := by
  split
  · next h => exact ha h
  · next h => exact hb h

/-- A MEMBER entry with one service's shares changed within the range. -/
theorem Entry.InRange.modShares {e : Entry} (h : e.InRange) (hm : e.isMember = true) (v : Svc) {f : Shares → Shares}
    (hf : (f (e.shares.get v)).InRange) : (e.modShares v f).InRange where
  blank := .inl hm
  shares w := by
    by_cases hw : v = w
    · subst hw; rwa [Entry.modShares, Per2.get_set_self]
    · rw [Entry.modShares, Per2.get_set_of_ne _ _ hw]; exact h.shares w

theorem Entry.InRange.setHolding {e : Entry} (h : e.InRange) (hm : e.isMember = true) (v : Svc) (k : Cls) {n : Nat}
    (hn : n ≤ Config.maxHu) : (e.setHolding v k n).InRange := by
  refine h.modShares hm v { h.shares v with holdings := fun j => ?_ }
  by_cases hj : k = j
  · subst hj; rwa [Per4.get_set_self]
  · rw [Per4.get_set_of_ne _ _ hj]; exact (h.shares v).holdings j

theorem Entry.InRange.setWant {e : Entry} (h : e.InRange) (hm : e.isMember = true) (v : Svc) {n : Nat}
    (hn : n ≤ Config.maxHu) : (e.setWant v n).InRange :=
  h.modShares hm v { h.shares v with want := hn }

theorem Entry.InRange.setOffer {e : Entry} (h : e.InRange) (hm : e.isMember = true) (v : Svc) {n : Nat}
    (hn : n ≤ Config.maxHu) : (e.setOffer v n).InRange :=
  h.modShares hm v { h.shares v with offer := hn }

/-- The five conditions of an accepted TAKE, by name (R14). -/
structure TakeAccepted (copy : Copy) (quorum : Nat) (s : Stn) (v : Svc) (n : Nat) : Prop where
  member : (copy[s]).isMember = true
  positive : 1 ≤ n
  fits : (n : Int) ≤ free copy v
  quorum : quorum ≤ memberCount copy
  fair : (copy[s]).total v + n ≤ fairShare copy v s ∨ othersWant copy v s = false

theorem takeAccepted_iff (copy : Copy) (quorum : Nat) (s : Stn) (v : Svc) (n : Nat) :
    takeAccepted copy quorum s v n = true ↔ TakeAccepted copy quorum s v n := by
  simp only [takeAccepted, Bool.and_eq_true, Bool.or_eq_true, decide_eq_true_eq, Bool.not_eq_true']
  exact ⟨fun ⟨⟨⟨⟨h1, h2⟩, h3⟩, h4⟩, h5⟩ => ⟨h1, h2, h3, h4, h5⟩, fun ⟨h1, h2, h3, h4, h5⟩ => ⟨⟨⟨⟨h1, h2⟩, h3⟩, h4⟩, h5⟩⟩

theorem isMember_of_offerAccepted {copy : Copy} {s : Stn} {v : Svc} {forced : Bool} {n : Nat}
    (h : offerAccepted copy s v forced n = true) : (copy[s]).isMember = true := by
  simp only [offerAccepted, Bool.and_eq_true] at h
  exact h.1

/-- An accepted TAKE leaves the holding it raises within the capacity (R14). -/
theorem TakeAccepted.holding_le {copy : Copy} {quorum : Nat} {s : Stn} {v : Svc} {n : Nat}
    (h : TakeAccepted copy quorum s v n) (k : Cls) : (copy[s]).holding v k + n ≤ Config.maxHu := by
  have hfits := h.fits
  have hheld := total_le_held h.member v
  have hhold := (copy[s]).holding_le_total v k
  have hcap := capacity_le copy v
  rw [free] at hfits
  omega

theorem applyBody_inRange {copy : Copy} (h : Copy.InRange copy) (recv : Station) (quorum : Nat) (s : Stn) (b : Body) :
    Copy.InRange (applyBody recv quorum copy s b) := by
  cases b with
  | take v k n =>
    refine Copy.InRange.ite (fun ht => ?_) fun _ => h
    have ht := (takeAccepted_iff copy quorum s v n.toNat).mp ht
    exact h.set ((h s).setHolding ht.member v k (ht.holding_le k))
  | give v k n =>
    exact Copy.InRange.ite (fun hm => h.set ((h s).setHolding hm v k (Nat.le_trans (Nat.sub_le _ _) (((h s).shares v).holdings k)))) fun _ => h
  | want v n => exact Copy.InRange.ite (fun hm => h.set ((h s).setWant hm v (bits12_le n))) fun _ => h
  | offer v forced n =>
    exact Copy.InRange.ite (fun ho => h.set ((h s).setOffer (isMember_of_offerAccepted ho) v (bits12_le n))) fun _ => h
  | keep w p hw st =>
    refine Copy.InRange.ite (fun _ => h.set ⟨.inl rfl, fun v => ?_⟩) fun _ => h
    cases v <;> exact Account.shares_inRange _
  | hail w p =>
    refine h.set ⟨.inl rfl, fun v => ?_⟩
    cases v <;> exact Shares.inRange_zero
  | lapse target q => exact Copy.InRange.ite (fun _ => h.set Entry.blank_inRange) fun _ => h

theorem recordSeq_inRange {copy : Copy} (h : Copy.InRange copy) (s : Stn) (seq : BitVec 8) :
    Copy.InRange (recordSeq copy s seq) :=
  Copy.InRange.ite (fun hm => h.set ⟨.inl hm, (h s).shares⟩) fun _ => h

theorem applyFrame_inRange {copy : Copy} (h : Copy.InRange copy) (recv : Station) (quorum : Nat) (f : Frame) :
    Copy.InRange (applyFrame recv quorum copy f) :=
  recordSeq_inRange (applyBody_inRange h recv quorum f.sender f.body) _ _

theorem Moves.ledgerSound {clears : Prop} {s t : State} (h : Moves clears s t) (hs : s.ledgerSound = true) :
    t.ledgerSound = true := by
  rw [State.ledgerSound_iff] at hs ⊢
  induction h with
  | reacts h => rwa [h.copy]
  | trans _ _ h1 h2 => exact h2 (h1 hs)
  | land s f => exact applyFrame_inRange hs _ _ f
  | load bytes _ _ => rwa [State.withImage_ledger]
  | _ => exact hs

/-! ### The reset station is sound -/

section
variable (s : State) (n : Nat)

theorem ledgerSound_of_copy {s t : State} (h : t.ledger.copy = s.ledger.copy) (hs : s.ledgerSound = true) :
    t.ledgerSound = true := by
  rw [State.ledgerSound_iff] at hs ⊢
  rwa [h]

theorem reset_ledgerSound : ({ s.fullReset with now := n } : State).ledgerSound = true :=
  ledgerSound_of_copy (s := State.reset) (by rfl) (by decide +kernel)

theorem reset_countersSound : ({ s.fullReset with now := n } : State).fru.counters.sound = true := by
  show Counters.zero.sound = true
  decide

theorem reset_boundsSound : ({ s.fullReset with now := n } : State).boundsSound = true :=
  boundsSound_of_outlets (s := State.reset) (by rfl) (by decide +kernel)

theorem reset_grantsSound : ({ s.fullReset with now := n } : State).grantsSound = true := by
  rw [State.grantsSound_iff]
  intro ch
  have h : State.reset.grantsSound = true := by decide +kernel
  exact .inl (((State.grantsSound_iff _).mp h ch).resolve_right fun hm => by simp [State.reset, State.isMember, State.station, Membership.initial] at hm)

theorem reset_ordersSound : ({ s.fullReset with now := n } : State).ordersSound = true := by
  rw [State.ordersSound_iff]
  exact ⟨fun _ => rfl, fun v k => by cases v <;> cases k <;> exact ⟨fun _ h => (nomatch h), fun _ h => (nomatch h)⟩⟩

theorem reset_carriesSound : ({ s.fullReset with now := n } : State).carriesSound = true :=
  carriesSound_of_hold (s := State.reset) (by rfl) (by decide +kernel)

end

end Sys2Proof.Machine

namespace Sys2Proof.Proofs

open Sys2Proof.Machine

/-- Settles O56: a landed frame keeps every entry in range, and every count stops at the ceiling. -/
theorem stepKeepsTheRecordsSound : Obligations.StepKeepsTheRecordsSound := fun _ _ h =>
  ⟨step_keeps (P := fun s => s.ledgerSound = true) reset_ledgerSound (fun _ _ hm => hm.ledgerSound) (fun _ _ hs => hs) h,
    step_keeps (P := fun s => s.fru.counters.sound = true) reset_countersSound (fun _ _ hm => hm.countersSound)
      (fun _ _ hs => hs) h⟩

/-- Settles O57: each piece of outlet work keeps the bound of the record it changes. -/
theorem stepKeepsTheBounds : Obligations.StepKeepsTheBounds := fun _ _ hs h =>
  step_keeps (P := fun s => s.boundsSound = true) reset_boundsSound (fun _ _ hm => hm.boundsSound) (fun _ _ hs => hs) h hs

/-- Settles O58: grants rise by a service pass alone, which runs in MEMBER, and what leaves MEMBER puts every grant to 0. -/
theorem stepKeepsGrantsToMember : Obligations.StepKeepsGrantsToMember := fun _ _ hs h =>
  step_keeps (P := fun s => s.grantsSound = true) reset_grantsSound (fun _ _ hm => hm.grantsSound) (fun _ _ hs => hs) h hs

/-- Settles O59: an order gains only a channel whose own class it is, and a carry goes to the class above alone. -/
theorem stepKeepsOrdersAndCarries : Obligations.StepKeepsOrdersAndCarries := fun _ _ h =>
  ⟨step_keeps (P := fun s => s.ordersSound = true) reset_ordersSound (fun _ _ hm => hm.ordersSound) (fun _ _ hs => hs) h,
    step_keeps (P := fun s => s.carriesSound = true) reset_carriesSound (fun _ _ hm => hm.carriesSound)
      (fun _ _ hs => hs) h⟩

/-- Settles O60 by evaluation of the reset state. -/
theorem invariantsHoldAtReset : Obligations.InvariantsHoldAtReset := by
  refine ⟨?_, ?_, ?_, ?_, ?_, ?_⟩ <;> decide +kernel

/-- Settles O3: neither a command's act nor a reaction touches the queue, and a full reset keeps it. -/
theorem everyCommandAnswers : Obligations.EveryCommandAnswers := by
  intro c s
  obtain ⟨t, e, ht⟩ := exec_ends s c
  refine ⟨t, e, ?_⟩
  rcases ht with hm | ⟨u, n, hm, rfl⟩
  · exact hm.pending
  · exact hm.pending

/-- Settles O4: no act but that of CLEAR-FLAGS clears a flag, and a full reset leaves START. -/
theorem flagsStayUntilCleared : Obligations.FlagsStayUntilCleared := by
  intro c s hc
  obtain ⟨t, e, ht⟩ := exec_ends s c
  have hnot : (∃ m, c = .clearFlags m) = False := eq_false fun ⟨m, h⟩ => hc m h
  rw [hnot] at ht
  refine ⟨t, e, ?_⟩
  rcases ht with hm | ⟨u, n, -, rfl⟩
  · exact .inr hm.flags
  · exact .inl rfl

end Sys2Proof.Proofs

namespace Sys2Proof.Machine

/-! ### Events that are taken and events that are not -/

theorem event_of_taken {taken : Bool} {f : State → State} {s : State} (h : taken = true) :
    event taken f s = .next (f s).settle := by rw [event, if_pos h]

theorem event_of_not_taken {taken : Bool} {f : State → State} {s : State} (h : taken = false) : event taken f s = .next s := by
  rw [event, h, if_neg Bool.false_ne_true]

theorem quietEvent_of_taken {taken : Bool} {f : State → State} {s : State} (h : taken = true) :
    quietEvent taken f s = .next (f s) := by rw [quietEvent, if_pos h]

theorem quietEvent_of_not_taken {taken : Bool} {f : State → State} {s : State} (h : taken = false) :
    quietEvent taken f s = .next s := by rw [quietEvent, h, if_neg Bool.false_ne_true]

/-- A command frame that is taken does its own act (R203). -/
theorem serve_of_free {f : State → State} {s : State} (hreset : s.pins.reset = false) (hbusy : s.serial.busy = false) :
    serve f s = .next (f s) := by
  rw [serve, hreset, hbusy, if_neg Bool.false_ne_true, if_neg Bool.false_ne_true]

/-- A command frame that comes while another is in progress (R203). -/
theorem serve_of_busy {f : State → State} {s : State} (hreset : s.pins.reset = false) (hbusy : s.serial.busy = true) :
    serve f s = .next (s.reply ⟨.busy, [], false⟩) := by
  rw [serve, hreset, hbusy, if_neg Bool.false_ne_true, if_pos rfl]

theorem outletTakes_of_not_acts {s : State} (h : s.acts = false) (ch : Chan) (cond : OutletCfg → Outlet → Bool) :
    s.outletTakes ch cond = false := by rw [State.outletTakes, h, Bool.false_and]

theorem stageTakes_of_not_acts {s : State} (h : s.acts = false) (ch : Chan) (cond : Stage → Bool) :
    s.stageTakes ch cond = false := by rw [State.stageTakes, h, Bool.false_and, Bool.false_and]

@[simp] theorem State.setDemandPin_acts (s : State) (ch : Chan) (mv : Nat) : (s.setDemandPin ch mv).acts = s.acts := rfl
@[simp] theorem State.setCallPin_acts (s : State) (ch : Chan) (level : Bool) : (s.setCallPin ch level).acts = s.acts := rfl
@[simp] theorem State.setInPositionPin_acts (s : State) (ch : Chan) (level : Bool) :
    (s.setInPositionPin ch level).acts = s.acts := rfl
@[simp] theorem State.setReadyPin_acts (s : State) (ch : Chan) (level : Bool) : (s.setReadyPin ch level).acts = s.acts := rfl
@[simp] theorem State.setTripPin_acts (s : State) (ch : Chan) (level : Bool) : (s.setTripPin ch level).acts = s.acts := rfl

theorem acts_of_not_live {s : State} (h : s.live = false) : s.acts = false := by rw [State.acts, h, Bool.and_false]

theorem fitBytes_of_length {n : Nat} {l : List Byte} (h : l.length = n) : fitBytes n l = l := by
  apply List.ext_getElem
  · simp [fitBytes, h]
  · intro i h1 h2
    simp [fitBytes, List.getElem?_eq_getElem h2]

/-! ### What INERT and its entry leave -/

/-- The waiting frames that entry to a state keeps (R51). -/
def Prune.keeps (p : Prune) (q : TxQueue) : TxQueue :=
  match p with
  | .all => TxQueue.empty
  | .orphan => { q with take := Per2.both none, want := Per2.both none, refresh := q.refresh.filter WaitingRefresh.isHail }
  | .halted => { q with take := Per2.both none, want := Per2.both none, refresh := none }

section
variable (s : State)

/-- The discarding of waiting frames reaches the queue, the mark of the frame in transmission and the outstanding TAKEs alone. -/
theorem prune_eq (p : Prune) : ∃ hold, s.prune p = { s with
    hold := hold
    liu := { s.liu with
      queue := p.keeps s.liu.queue
      tx := s.liu.tx.map fun t => { t with discarded := t.discarded || p.discards t.body } } } := by
  have ends : ∀ v t, (∃ hold, t = { s with hold := hold }) →
      ∃ hold, (if (t.liu.queue.take.get v).isSome then t.endTake v else t) = { s with hold := hold } := by
    rintro v t ⟨hold, rfl⟩
    split
    · exact ⟨_, rfl⟩
    · exact ⟨_, rfl⟩
  obtain ⟨hold, e⟩ := forEach_inv (fun t => ∃ hold, t = { s with hold := hold }) services _ ends s ⟨s.hold, rfl⟩
  refine ⟨hold, ?_⟩
  unfold State.prune
  rw [e]
  cases p <;> rfl

/-- INERT as it is entered: the line and the shares stopped, the copy, the settings and the fault record as they stood (R51, R202). -/
theorem enterInert_leaves :
    s.enterInert.memb = { s.memb with station := .inert, ownLanding := none, syncWindow := none, lapseSelfRequested := false } ∧
    s.enterInert.ledger.copy = s.ledger.copy ∧ s.enterInert.loader = s.loader ∧ s.enterInert.fru = s.fru ∧
    s.enterInert.liu.queue = TxQueue.empty ∧ s.enterInert.liu.mark = s.liu.mark ∧
    s.enterInert.liu.tx = s.liu.tx.map fun t => { t with discarded := t.discarded || Prune.all.discards t.body } := by
  obtain ⟨hold, e⟩ := prune_eq s .all
  have pause : ∀ t : State, t.endPause.memb = t.memb ∧ t.endPause.ledger = t.ledger ∧ t.endPause.loader = t.loader ∧
      t.endPause.fru = t.fru ∧ t.endPause.liu.queue = t.liu.queue ∧ t.endPause.liu.mark = t.liu.mark ∧
      t.endPause.liu.tx = t.liu.tx := by
    intro t
    unfold State.endPause
    split <;> exact ⟨rfl, rfl, rfl, rfl, rfl, rfl, rfl⟩
  obtain ⟨hmemb, hledger, hloader, hfru, hqueue, hmark, htx⟩ := pause (s.prune .all)
  unfold State.enterInert
  generalize (s.prune .all).endPause = t at hmemb hledger hloader hfru hqueue hmark htx
  dsimp only [State.stopSupplyTimers, State.clearHoldMarks, State.modMemb, State.modLedger, State.modLiu]
  rw [hmemb, hledger, hloader, hfru, hqueue, hmark, htx, e]
  exact ⟨rfl, rfl, rfl, rfl, rfl, rfl, rfl⟩

theorem live_of_inert (h : s.station = .inert) : s.live = false := live_of_stopped s (by rw [h]; rfl)

end

/-! ### Reactions and `State.still` -/

/-- The reactions of an event leave `State.still` alone where no RESTART is asked for. -/
theorem settle_still (s : State) (h : s.memb.leaveMark ≠ .restart) : s.settle.still = s.still := by
  have h1 := react_leaveMark s h
  have h2 := react_leaveMark _ h1
  have h3 := react_leaveMark _ h2
  rw [State.settle, rest_still, react_still _ h3, react_still _ h2, react_still _ h1, react_still _ h]

end Sys2Proof.Machine

namespace Sys2Proof.Proofs

open Sys2Proof.Machine Sys2Proof.Claims

/-- Settles O1. -/
theorem stepTakesTheFront : Obligations.StepTakesTheFront := by
  intro c rest s h
  rw [step, h]

/-- Settles O6. -/
theorem reactionsLeaveStill : Obligations.ReactionsLeaveStill := fun s h => settle_still s h

/-- Settles O8, field by field of the reset state. -/
theorem resetValues : Obligations.ResetValues := by
  have entry : ∀ n, State.reset.entry n = Entry.blank := fun n => by simp [State.entry, State.reset, Ledger.initial]
  have silence : ∀ n : Stn, State.reset.ledger.silence[n] = none := fun n => by simp [State.reset, Ledger.initial]
  have outlet : ∀ ch, State.reset.outlet ch = Outlet.initial := fun ch => by simp [State.outlet, State.reset]
  have stage : ∀ ch, State.reset.stage ch = Stage.initial := fun ch => by simp [State.stage, State.reset]
  refine ⟨rfl, rfl, fun n => ⟨entry n, silence n⟩, rfl, rfl, rfl, rfl, rfl, rfl, ?shares, ?outlets, rfl, rfl, rfl, rfl, rfl, rfl,
    ?responses, rfl, rfl⟩
  case shares =>
    intro v k
    cases v <;> cases k <;> exact ⟨rfl, rfl, rfl, rfl, rfl, rfl, rfl, rfl⟩
  case outlets =>
    intro ch
    rw [outlet, stage]
    exact ⟨rfl, rfl, rfl, rfl, rfl, rfl, rfl, rfl, rfl, rfl, rfl, rfl, rfl, rfl, rfl, rfl, rfl, rfl, rfl, rfl, rfl, rfl, rfl, rfl,
      rfl, rfl⟩
  case responses =>
    intro k
    cases k <;> rfl

/-- Settles O9. -/
theorem powerAndResetPinClear : Obligations.PowerAndResetPinClear := by
  intro s
  refine ⟨rfl, rfl, fun h => ?_, fun h => ?_⟩
  · show execResetPinReleased s = _
    rw [execResetPinReleased, quietEvent_of_taken h]
    rfl
  · show execResetPinReleased s = _
    rw [execResetPinReleased, quietEvent_of_not_taken h]

/-- Settles O49: no event is taken while the station does not act, and `State.acts` does not look at the field inputs. -/
theorem inputsMoveTheirPins : Obligations.InputsMoveTheirPins := by
  refine ⟨fun s ch mv h => ?_, fun s level => rfl⟩
  have quiet : ∀ (a b : Bool) (f : State → State) (t : State), b = false → event (a && b) f t = .next t :=
    fun a b f t hb => event_of_not_taken (by rw [hb, Bool.and_false])
  refine ⟨?_, ?_, ?_, ?_, ?_, ?_, ?_, ?_⟩
  · show execDemandInputChange ch mv s = _
    rw [execDemandInputChange, event_of_not_taken (outletTakes_of_not_acts (by simpa using h) ch _)]
    rfl
  · show execCallInputRises ch s = _
    rw [execCallInputRises, quiet _ _ _ _ (outletTakes_of_not_acts (by simpa using h) ch _)]
    rfl
  · show execInPositionRises ch s = _
    rw [execInPositionRises, quiet _ _ _ _ (outletTakes_of_not_acts (by simpa using h) ch _)]
    rfl
  · show execInPositionFalls ch s = _
    rw [execInPositionFalls, quiet _ _ _ _ (outletTakes_of_not_acts (by simpa using h) ch _)]
    rfl
  · show execStageReadyRises ch s = _
    rw [execStageReadyRises, quiet _ _ _ _ (stageTakes_of_not_acts (by simpa using h) ch _)]
    rfl
  · show execStageReadyFalls ch s = _
    rw [execStageReadyFalls, quiet _ _ _ _ (stageTakes_of_not_acts (by simpa using h) ch _)]
    rfl
  · show execTripInputAsserts ch s = _
    rw [execTripInputAsserts, quiet _ _ _ _ (stageTakes_of_not_acts (by simpa using h) ch _)]
    rfl
  · show execTripInputClears ch s = _
    rw [execTripInputClears, quiet _ _ _ _ (stageTakes_of_not_acts (by simpa using h) ch _)]
    rfl

/-- Settles O11: both rejections enter INERT, where nothing reacts, with the loader as the read left it. -/
theorem invalidImageIsRejected : Obligations.InvalidImageIsRejected := by
  intro s status b hpin hst hread
  have rejected : ∀ source bytes check, s.endRead status b = s.rejectImage source bytes check →
      Answers (.settingsReadCompletes status b) s fun t =>
        t.station = .inert ∧ t.flagSet .settingsInvalid = true ∧ t.ledger.copy = s.ledger.copy ∧
        t.loader = { s.loader with reading := false, source := source, bytes := bytes, failedCheck := check } := by
    intro source bytes check e
    have taken : (!s.pins.reset && s.station == .start && s.loader.reading) = true := by rw [hpin, hst, hread]; rfl
    refine ⟨_, event_of_taken taken, ?_⟩
    rw [e]
    generalize hu : (s.modLoader fun l => { l with reading := false, source := source, bytes := bytes, failedCheck := check }) = u
    have hr : s.rejectImage source bytes check = u.enterInert.setFlag .settingsInvalid := by rw [← hu]; rfl
    obtain ⟨hmemb, hcopy, hloader, -⟩ := enterInert_leaves u
    have hinert : (u.enterInert.setFlag .settingsInvalid).station = .inert := by
      rw [State.station, State.setFlag_memb, hmemb]
    rw [hr, settle_of_not_live _ (live_of_inert _ hinert)]
    refine ⟨hinert, ?_, ?_, ?_⟩
    · exact (setFlag_flagSet u.enterInert .settingsInvalid .settingsInvalid).trans (by simp)
    · exact hcopy.trans (by rw [← hu]; rfl)
    · exact hloader.trans (by rw [← hu]; rfl)
  refine ⟨fun h => rejected _ _ _ (if_pos h), fun h hlen hcheck => rejected _ _ _ ?_⟩
  rw [State.endRead, if_neg h, fitBytes_of_length hlen]
  exact if_neg hcheck

end Sys2Proof.Proofs

namespace Sys2Proof.Machine

/-! ### The channels and entries that a command names -/

theorem channelOf_eq_some {n : Byte} {ch : Chan} (h : n.toNat = ch.val + 1) : channelOf n = some ch := by
  have hch := ch.isLt
  rw [channelOf, if_pos (by omega)]
  congr 1
  ext
  simp only [Fin.ofNat]
  omega

theorem channelOf_eq_none {n : Byte} (h : n.toNat = 0 ∨ 16 < n.toNat) : channelOf n = none := by
  rw [channelOf, if_neg (by omega)]

theorem stationOf_eq_some {n : Byte} {p : Stn} (h : n.toNat = p.val + 1) : stationOf n = some p := by
  have hp := p.isLt
  rw [stationOf, if_pos (by omega)]
  congr 1
  ext
  simp only [Fin.ofNat]
  omega

theorem stationOf_eq_none {n : Byte} (h : n.toNat = 0 ∨ 32 < n.toNat) : stationOf n = none := by
  rw [stationOf, if_neg (by omega)]

theorem stationPage_isSome (s : State) (page : Nat) : (stationPage s page).isSome = true ↔ page ≤ 4 := by
  match page with
  | 0 => simp [stationPage]
  | 1 => simp [stationPage]
  | 2 => simp [stationPage]
  | 3 => simp [stationPage]
  | 4 => simp [stationPage]
  | n + 5 => simp [stationPage]

/-! ### The flags -/

theorem exists_flag_number {i : Nat} (h : i < 9) : ∃ f : Flag, f.number = i :=
  match i, h with
  | 0, _ => ⟨.lineFault, rfl⟩
  | 1, _ => ⟨.joinRefused, rfl⟩
  | 2, _ => ⟨.profileMismatch, rfl⟩
  | 3, _ => ⟨.settingsInvalid, rfl⟩
  | 4, _ => ⟨.orphaned, rfl⟩
  | 5, _ => ⟨.shedShort, rfl⟩
  | 6, _ => ⟨.reclaimLate, rfl⟩
  | 7, _ => ⟨.stageFault, rfl⟩
  | 8, _ => ⟨.outletFault, rfl⟩
  | _ + 9, h => absurd h (by omega)

theorem Flag.number_lt (f : Flag) : f.number < 9 := by cases f <;> decide

/-- ALERT by the flags and the alert mask (R196). -/
theorem alert_iff (s : State) :
    s.alert = true ↔ ∃ f : Flag, s.flagSet f = true ∧ s.fru.alertMask.getLsbD f.number = true := by
  rw [State.alert, bne_iff_ne]
  constructor
  · intro hne
    refine Classical.byContradiction fun hnone => hne (BitVec.eq_of_getLsbD_eq fun i hi => ?_)
    obtain ⟨f, rfl⟩ := exists_flag_number hi
    rw [BitVec.getLsbD_and, ← flagSet_eq_getLsbD, show (0 : BitVec 9).getLsbD f.number = false from BitVec.getLsbD_zero]
    exact eq_false_of_ne_true fun hbit => hnone ⟨f, Bool.and_eq_true_iff.mp hbit⟩
  · rintro ⟨f, hset, hmask⟩ hzero
    have hbit : (s.fru.flags &&& s.fru.alertMask).getLsbD f.number = true := by
      rw [BitVec.getLsbD_and, ← flagSet_eq_getLsbD, hset, hmask]; rfl
    rw [hzero, show (0 : BitVec 9).getLsbD f.number = false from BitVec.getLsbD_zero] at hbit
    cases hbit

/-- A mask names a flag that does not exist when it is 512 or above (R194). -/
theorem namesUnknownFlag_iff (mask : BitVec 16) : namesUnknownFlag mask = true ↔ 512 ≤ mask.toNat := by
  have h : (mask >>> 9).toNat = mask.toNat / 512 := by simp [BitVec.toNat_ushiftRight, Nat.shiftRight_eq_div_pow]
  rw [namesUnknownFlag, bne_iff_ne, ne_eq, ← BitVec.toNat_inj, h]
  simp [Nat.div_eq_zero_iff]

/-- CLEAR-FLAGS leaves the flags that its mask does not name (R194). -/
theorem clearFlagMask_flagSet (s : State) (mask : BitVec 16) (f : Flag) :
    (s.clearFlagMask (lowFlags mask)).flagSet f = (s.flagSet f && !mask.getLsbD f.number) := by
  have hlt := f.number_lt
  rw [flagSet_eq_getLsbD, flagSet_eq_getLsbD, State.clearFlagMask_fru, BitVec.getLsbD_and, BitVec.getLsbD_not,
    lowFlags, BitVec.getLsbD_setWidth]
  simp [hlt]

/-! ### The bytes of the service line -/

theorem openFrame_append {noise : List Byte} (hnoise : ∀ b ∈ noise, b ≠ 165) (bytes : List Byte) :
    openFrame (noise ++ bytes) = openFrame bytes := by
  induction noise with
  | nil => rfl
  | cons b rest ih =>
    rw [List.cons_append, openFrame_skips b _ (hnoise b (List.mem_cons_self ..))]
    exact ih fun c hc => hnoise c (List.mem_cons_of_mem _ hc)

theorem openFrame_noise {noise : List Byte} (hnoise : ∀ b ∈ noise, b ≠ 165) : openFrame noise = [] := by
  have h := openFrame_append hnoise []
  rwa [List.append_nil] at h

/-- Bytes before a start byte end no frame and do not change which frame ends (R203). -/
theorem endedFrame_append {noise : List Byte} (hnoise : ∀ b ∈ noise, b ≠ 165) (bytes : List Byte) :
    endedFrame (noise ++ bytes) = endedFrame bytes := by
  cases bytes with
  | nil =>
    have hclosed : frameOpen noise.dropLast = false := by
      rw [frameOpen, openFrame_noise fun b hb => hnoise b (List.dropLast_subset noise hb)]; rfl
    rw [List.append_nil]
    simp [endedFrame, hclosed]
  | cons b rest =>
    have hne : b :: rest ≠ [] := List.cons_ne_nil b rest
    have hlast : (noise ++ b :: rest).getLast? = (b :: rest).getLast? := by
      rw [List.getLast?_append, List.getLast?_eq_some_getLast hne, Option.some_or]
    have hinit : (noise ++ b :: rest).dropLast = noise ++ (b :: rest).dropLast := List.dropLast_append_of_ne_nil hne
    rw [endedFrame, endedFrame, frameOpen, frameOpen, hlast, hinit, openFrame_append hnoise]

/-! ### Settings written from the service line -/

theorem stagedBytes_of_missing {v : Vector (Option (List Byte)) 6} {j : Fin 6} (h : v[j] = none) : stagedBytes v = none := by
  unfold stagedBytes
  split
  · next e0 e1 e2 e3 e4 e5 =>
    obtain ⟨i, hi⟩ := j
    match i, hi, h with
    | 0, _, h => cases h.symm.trans e0
    | 1, _, h => cases h.symm.trans e1
    | 2, _, h => cases h.symm.trans e2
    | 3, _, h => cases h.symm.trans e3
    | 4, _, h => cases h.symm.trans e4
    | 5, _, h => cases h.symm.trans e5
    | _ + 6, hi, _ => omega
  · rfl

theorem takesWrites_iff (st : Station) : st.takesWrites = true ↔ st = .inert ∨ ∃ ended, st = .halted ended := by
  cases st <;> simp [Station.takesWrites]

theorem ofNat_segment {n : Byte} {k : Fin 6} (h : n.toNat = k.val) : Fin.ofNat 6 n.toNat = k := by
  ext
  rw [h]
  exact Nat.mod_eq_of_lt k.isLt

theorem stopped_iff (st : Station) : st.stopped = true ↔ st = .start ∨ st = .inert := by
  cases st <;> simp [Station.stopped]

theorem stopped_eq_false {st : Station} (h1 : st ≠ .start) (h2 : st ≠ .inert) : st.stopped = false := by
  rw [Bool.eq_false_iff, ne_eq, stopped_iff]
  exact fun h => h.elim h1 h2

theorem eq_one_iff (n : Byte) : n = 1 ↔ n.toNat = 1 := by
  rw [← BitVec.toNat_inj]; rfl

end Sys2Proof.Machine

namespace Sys2Proof.Proofs

open Sys2Proof.Machine Sys2Proof.Claims

/-- Settles O50. -/
theorem readingChangesNothing : Obligations.ReadingChangesNothing := by
  intro s n ⟨hreset, hbusy⟩
  have served : ∀ data : State → Option (List Byte), serve (fun t => t.answerData (data t)) s = .next (s.answerData (data s)) :=
    fun data => serve_of_free hreset hbusy
  have station : exec (.readStation n) s = .next (s.answerData (stationPage s n.toNat)) :=
    served fun t => stationPage t n.toNat
  have settings : exec (.readSettings n) s =
      .next (s.answerData (if n.toNat ≤ 5 then some (settingsItems s n.toNat) else none)) :=
    served fun t => if n.toNat ≤ 5 then some (settingsItems t n.toNat) else none
  have entry : exec (.readEntry n) s = .next (s.answerData ((stationOf n).map (entryItems s))) :=
    served fun t => (stationOf n).map (entryItems t)
  have outlet : exec (.readOutlet n) s = .next (s.answerData ((channelOf n).map (outletItems s))) :=
    served fun t => (channelOf n).map (outletItems t)
  have stage : exec (.readStage n) s = .next (s.answerData ((channelOf n).map (stageItems s))) :=
    served fun t => (channelOf n).map (stageItems t)
  refine ⟨served fun t => some (flagItems t), ?_, stationPage_isSome s _, ?_, fun p hp => ?_, fun hn => ?_, fun ch hch => ⟨?_, ?_⟩, fun hn => ⟨?_, ?_⟩⟩
  · rw [station]
    cases stationPage s n.toNat <;> rfl
  · rw [settings]
    split <;> rfl
  · rw [entry, stationOf_eq_some hp]; rfl
  · rw [entry, stationOf_eq_none hn]; rfl
  · rw [outlet, channelOf_eq_some hch]; rfl
  · rw [stage, channelOf_eq_some hch]; rfl
  · rw [outlet, channelOf_eq_none hn]; rfl
  · rw [stage, channelOf_eq_none hn]; rfl

/-- Settles O52. -/
theorem flagsAreClearedByMask : Obligations.FlagsAreClearedByMask := by
  intro s mask ⟨hreset, hbusy⟩
  have served : exec (.clearFlags mask) s = .next
      (if namesUnknownFlag mask then s.answer .badArg [] else (s.clearFlagMask (lowFlags mask)).answer .done []) := by
    show execClearFlags mask s = _
    rw [execClearFlags, serve_of_free hreset hbusy]
  refine ⟨fun hlow => ?_, fun hhigh => ?_⟩
  · rw [if_neg fun h => absurd ((namesUnknownFlag_iff mask).mp h) (Nat.not_le.mpr hlow)] at served
    exact ⟨_, served, rfl, clearFlagMask_flagSet s mask, alert_iff _⟩
  · rw [served, if_pos ((namesUnknownFlag_iff mask).mpr hhigh)]
    rfl

/-- Settles O54, along the guard command's own tests. -/
theorem guardIsSet : Obligations.GuardIsSet := by
  intro s mode count side complement mask ⟨hreset, hbusy⟩
  have served : exec (.setGuard mode count side complement mask) s =
      .next (s.guardCommand mode count side complement mask) := serve_of_free hreset hbusy
  dsimp only
  refine ⟨fun hlock => ?_, fun hlock => ⟨fun hst => ?_, fun h1 h2 => ?_⟩⟩
  · rw [served, State.guardCommand, hlock, if_pos rfl]; rfl
  · rw [served, State.guardCommand, hlock, if_neg Bool.false_ne_true, (stopped_iff _).mpr hst, if_pos rfl]; rfl
  rw [Acts, Acts, served, State.guardCommand, hlock, if_neg Bool.false_ne_true, stopped_eq_false h1 h2,
    if_neg Bool.false_ne_true]
  refine ⟨fun hbad => ?_, fun hgood hmode => ?_, fun hgood hmode => ?_⟩
  · rw [guardOf, if_pos hbad]; rfl
  · rw [guardOf, if_neg hgood, if_pos ((eq_one_iff mode).mpr hmode)]; rfl
  · rw [guardOf, if_neg hgood, if_neg fun e => by rw [eq_one_iff, hmode] at e; cases e]
    simp only [eq_one_iff]
    rfl

/-- BUSY, for each of the thirteen commands. -/
theorem busyIsAnswered : BusyIsAnswered := by
  intro s n mode count side complement mask data c hreset hbusy hlen hc
  have busy : ∀ f, serve f s = .next { s with serial := { s.serial with replies := s.serial.replies ++ [⟨.busy, [], false⟩] } } :=
    fun f => serve_of_busy hreset hbusy
  simp only [List.mem_cons, List.not_mem_nil, or_false] at hc
  rcases hc with rfl | rfl | rfl | rfl | rfl | rfl | rfl | rfl | rfl | rfl | rfl | rfl | rfl
  · exact busy (fun t => t.answerData (stationPage t n.toNat))
  · exact busy (fun t => t.answerData ((stationOf n).map (entryItems t)))
  · exact busy (fun t => t.answerData ((channelOf n).map (outletItems t)))
  · exact busy (fun t => t.answerData ((channelOf n).map (stageItems t)))
  · exact busy (fun t => t.answerData (some (flagItems t)))
  · show execClearFlags mask s = _
    rw [execClearFlags, busy]
  · exact busy (State.outletCommand n State.enableCommand)
  · show execDisableOutlet n s = _
    rw [execDisableOutlet, busy]
  · exact busy (State.outletCommand n State.clearCommand)
  · exact busy (State.guardCommand mode count side complement mask)
  · show execRestart s = _
    rw [execRestart, busy]
  · show execReadSettings n s = _
    rw [execReadSettings, busy]
  · show execWriteSettings n data s = _
    rw [execWriteSettings, if_pos hlen, busy]

theorem malformedFramesAndResponses : MalformedFramesAndResponses := by
  intro s
  refine ⟨fun hreset => ⟨fun bytes frame hended hmal => ?_, fun bytes hopen => ?_⟩, fun bytes hclosed => ?_,
    fun noise bytes hnoise => ⟨?_, ?_⟩, fun r rest hr => ?_⟩
  · show Host.Outcome.next (if (endedFrame bytes).any malformed then s.badFrameReply else s) = _
    rw [hended, Option.any_some, hmal, if_pos rfl, State.badFrameReply, hreset]
    rfl
  · show Host.Outcome.next (if frameOpen bytes then s.badFrameReply else s) = _
    rw [hopen, if_pos rfl, State.badFrameReply, hreset]
    rfl
  · show Host.Outcome.next (if frameOpen bytes then s.badFrameReply else s) = _
    rw [hclosed, if_neg Bool.false_ne_true]
  · show execServiceByteGapTimeout s _ = execServiceByteGapTimeout s _
    rw [execServiceByteGapTimeout, execServiceByteGapTimeout, frameOpen, frameOpen, openFrame_append hnoise]
  · show execBadFrame _ s = execBadFrame _ s
    rw [execBadFrame, execBadFrame, endedFrame_append hnoise]
  have sent : exec .responseSent s = .next (s.sent r rest) := by
    show execResponseSent s = _
    rw [execResponseSent, hr]
  rw [sent, State.sent]
  refine ⟨fun hown => ?_, fun hown hwait => ?_, fun hown hwait => ?_⟩
  · simp [hown, State.modSerial]
  · simp [hown, hwait, State.modSerial]
  · simp [hown, hwait, State.modSerial]
    rfl

/-- Settles O51. -/
theorem serviceLineAnswers : Obligations.ServiceLineAnswers := ⟨busyIsAnswered, malformedFramesAndResponses⟩

theorem settingsAreStaged : SettingsAreStaged := by
  intro s n data ⟨hreset, hbusy⟩ hlen
  have served : exec (.writeSettings n data) s = .next (s.writeCommand n data) := by
    show execWriteSettings n data s = _
    rw [execWriteSettings, if_pos hlen]
    exact serve_of_free hreset hbusy
  rw [served, State.writeCommand]
  refine ⟨fun h1 h2 => ?_, fun hst => ?_⟩
  · have hno : s.station.takesWrites = false := by
      rw [Bool.eq_false_iff, ne_eq, takesWrites_iff]
      exact fun h => h.elim h1 fun ⟨ended, e⟩ => h2 ended e
    rw [hno]; rfl
  rw [(takesWrites_iff _).mpr hst, if_neg (by simp)]
  refine ⟨fun hn => ?_, fun k hk => ?_⟩
  · rw [if_pos hn]; rfl
  rw [if_neg (by omega), ofNat_segment hk]
  have hfive : n.toNat = 5 ↔ k = 5 := by
    rw [hk]
    exact ⟨fun h => Fin.ext h, fun h => by rw [h]; rfl⟩
  dsimp only
  refine ⟨fun hne => ?_, fun heq ⟨j, hj⟩ => ?_, fun heq b hb => ⟨fun hcheck => ?_, fun hcheck => ?_⟩⟩
  · rw [if_neg (mt hfive.mp hne)]; rfl
  · rw [if_pos (hfive.mpr heq), State.tryWrite]
    rw [show stagedBytes (s.stage64 k data).loader.staging = none from stagedBytes_of_missing hj]
    rfl
  · rw [if_pos (hfive.mpr heq), State.tryWrite, show stagedBytes (s.stage64 k data).loader.staging = some b from hb]
    exact congrArg _ (if_neg hcheck)
  · rw [if_pos (hfive.mpr heq), State.tryWrite, show stagedBytes (s.stage64 k data).loader.staging = some b from hb]
    exact congrArg _ (if_pos hcheck)

theorem memoryWriteRuns : MemoryWriteRuns := by
  intro s status readBack hreset
  have released : (!s.pins.reset) = true := by rw [hreset]; rfl
  have completes : exec (.settingsWriteCompletes status readBack) s = .next (s.writeCompletes status readBack) :=
    quietEvent_of_taken released
  dsimp only
  refine ⟨fun hread n => ⟨fun hw => ?_, fun hw => ?_⟩, fun n hw => ?_, fun hw hlen => ?_⟩
  · rw [Loader.exchanges, hread, hw]; rfl
  · rw [Loader.exchanges, hread, hw]; rfl
  · have page : exec (.settingsPageWritten status) s = .next (s.pageWritten status n) := by
      show execSettingsPageWritten status s = _
      rw [execSettingsPageWritten]
      rcases hw with hw | hw <;> rw [hw] <;> exact quietEvent_of_taken released
    rw [page, State.pageWritten, completes, State.writeCompletes]
    refine ⟨fun h => ⟨?_, ?_⟩, fun h hbit => ?_, fun h hbit => ?_⟩
    · rw [if_pos h]; rfl
    · rcases hw with hw | hw <;> rw [hw] <;> exact congrArg _ (if_pos h)
    · rw [if_neg h, WritePhase.after, hbit]; rfl
    · rw [if_neg h, WritePhase.after, hbit]
      have last : (n + 1 < 12) = (n < 11) := propext (by omega)
      simp only [Bool.false_eq_true, if_false, State.modLoader, last]
  · have compared : ∀ h : status ≠ 255, s.writeCompletes status readBack = s.compareWrite readBack := by
      intro h
      rw [State.writeCompletes, hw]
      exact if_neg h
    rw [completes]
    refine ⟨fun h => ?_, fun h hb => ?_, fun h hb => ?_⟩
    · rw [State.writeCompletes, hw]
      exact congrArg _ (if_pos h)
    · rw [compared h, State.compareWrite, fitBytes_of_length hlen, if_pos hb.symm]; rfl
    · rw [compared h, State.compareWrite, fitBytes_of_length hlen, if_neg (Ne.symm hb)]; rfl

/-- Settles O55. -/
theorem settingsAreWritten : Obligations.SettingsAreWritten := ⟨settingsAreStaged, memoryWriteRuns⟩

end Sys2Proof.Proofs

namespace Sys2Proof.Machine

/-! ### Stuffing and its removal -/

theorem destuffFrom_cons_of_ne {last b : Bool} {run : Nat} {l : List Bool} (h : run ≠ 5) :
    destuffFrom last run (b :: l) = (destuffFrom b (if b == last then run + 1 else 1) l).map (b :: ·) := by
  simp [destuffFrom, h]

theorem destuffFrom_stuffed (b : Bool) (l : List Bool) : destuffFrom b 5 ((!b) :: l) = destuffFrom (!b) 1 l := by
  simp [destuffFrom]

/-- Where fewer than five equal bits stand before it, a stuffed list is read back as it was sent (R33). -/
theorem destuffFrom_stuffFrom (l : List Bool) (last : Bool) (run : Nat) (h : run < 5) :
    destuffFrom last run (stuffFrom last run l) = some l := by
  induction l generalizing last run with
  | nil => rfl
  | cons b rest ih =>
    have hrun : (if b == last then run + 1 else 1) ≤ 5 := by split <;> omega
    rw [stuffFrom]
    by_cases hfive : (if b == last then run + 1 else 1) = 5
    · rw [if_pos hfive, destuffFrom_cons_of_ne (Nat.ne_of_lt h), hfive, destuffFrom_stuffed, ih (!b) 1 (by decide)]
      rfl
    · rw [if_neg hfive, destuffFrom_cons_of_ne (Nat.ne_of_lt h), ih b _ (by omega)]
      rfl

theorem destuff_stuff (l : List Bool) : destuff (stuff l) = some l := destuffFrom_stuffFrom l true 0 (by decide)

/-! ### Fields of bits -/

@[simp] theorem length_bitsOf {w : Nat} (v : BitVec w) : (bitsOf v).length = w := by simp [bitsOf]

@[simp] theorem length_fill (n : Nat) : (fill n).length = n := by simp [fill]

theorem natOfBits_append_singleton (l : List Bool) (b : Bool) : natOfBits (l ++ [b]) = 2 * natOfBits l + b.toNat := by
  simp [natOfBits, List.foldl_append]

/-- The first `k` bits of a field are the number without its lower bits. -/
theorem natOfBits_take_bitsOf {w : Nat} (v : BitVec w) (k : Nat) (h : k ≤ w) :
    natOfBits ((List.range k).map fun i => v.getMsbD i) = v.toNat / 2 ^ (w - k) := by
  induction k with
  | zero => simp [natOfBits, Nat.div_eq_of_lt v.isLt]
  | succ k ih =>
    have hbit : (v.getMsbD k).toNat = v.toNat / 2 ^ (w - (k + 1)) % 2 := by
      rw [BitVec.getMsbD, decide_eq_true (by omega : k < w), Bool.true_and, BitVec.getLsbD,
        show w - 1 - k = w - (k + 1) by omega, Nat.toNat_testBit]
    have hpow : 2 ^ (w - k) = 2 ^ (w - (k + 1)) * 2 := by
      rw [← Nat.pow_succ]
      congr 1
      omega
    rw [List.range_succ, List.map_append, List.map_cons, List.map_nil, natOfBits_append_singleton, ih (by omega), hbit, hpow,
      ← Nat.div_div_eq_div_mul]
    omega

@[simp] theorem natOfBits_bitsOf {w : Nat} (v : BitVec w) : natOfBits (bitsOf v) = v.toNat := by
  rw [bitsOf, natOfBits_take_bitsOf v w (Nat.le_refl w), Nat.sub_self, Nat.pow_zero, Nat.div_one]

@[simp] theorem slice_append_of_le {a l : List Bool} {lo len : Nat} (h : a.length ≤ lo) :
    slice (a ++ l) lo len = slice l (lo - a.length) len := by
  rw [slice, slice, List.drop_append, List.drop_eq_nil_of_le h, List.nil_append]

@[simp] theorem slice_append_left {a l : List Bool} {len : Nat} (h : a.length = len) : slice (a ++ l) 0 len = a := by
  rw [slice, List.drop_zero, ← h, List.take_left]

@[simp] theorem slice_whole {a : List Bool} {len : Nat} (h : a.length = len) : slice a 0 len = a := by
  rw [slice, List.drop_zero, ← h, List.take_length]

@[simp] theorem slice_cons (b : Bool) (l : List Bool) (lo len : Nat) : slice (b :: l) (lo + 1) len = slice l lo len := rfl

/-- The field of a whole bit vector's bits. -/
@[simp] theorem ofNat_natOfBits_bitsOf {w : Nat} (v : BitVec w) : BitVec.ofNat w (natOfBits (bitsOf v)) = v := by
  rw [natOfBits_bitsOf, BitVec.ofNat_toNat, BitVec.setWidth_eq]

@[simp] theorem fieldAt_append_of_le {w : Nat} {a l : List Bool} {lo : Nat} (h : a.length ≤ lo) :
    fieldAt w (a ++ l) lo = fieldAt w l (lo - a.length) := by rw [fieldAt, slice_append_of_le h]; rfl

@[simp] theorem fieldAt_bitsOf {w : Nat} (v : BitVec w) (l : List Bool) : fieldAt w (bitsOf v ++ l) 0 = v := by
  rw [fieldAt, slice_append_left (length_bitsOf v), ofNat_natOfBits_bitsOf]

@[simp] theorem fieldAt_bitsOf_end {w : Nat} (v : BitVec w) : fieldAt w (bitsOf v) 0 = v := by
  rw [fieldAt, slice_whole (length_bitsOf v), ofNat_natOfBits_bitsOf]

@[simp] theorem fieldAt_cons {w : Nat} (b : Bool) (l : List Bool) (lo : Nat) : fieldAt w (b :: l) (lo + 1) = fieldAt w l lo := rfl

@[simp] theorem length_stationBits (n : Stn) : (stationBits n).length = 5 := length_bitsOf _

@[simp] theorem length_clsBits (k : Cls) : (Cls.bits k).length = 2 := length_bitsOf _

/-- A station's number is read back from its bits (R34). -/
theorem stationOfBits (n : Stn) : Fin.ofNat 32 (natOfBits (stationBits n)) = n := by
  have hn := n.isLt
  ext
  rw [stationBits, natOfBits_bitsOf, BitVec.toNat_ofNat, Fin.ofNat]
  dsimp only
  omega

@[simp] theorem clsOfBits_bits (k : Cls) : clsOfBits (Cls.bits k) = k := by cases k <;> decide

@[simp] theorem svcOfBit_toBool (v : Svc) : svcOfBit (Svc.toBool v) = v := by cases v <;> rfl

/-! ### The parts of a frame -/

@[simp] theorem length_accountBits (a : Account) : (Account.bits a).length = 72 := by simp [Account.bits]

@[simp] theorem length_bodyBits (b : Body) : (Body.bits b).length = bodyLength (Body.rank b) := by
  cases b <;> simp [Body.bits, Body.rank, bodyLength, length_stationBits, length_clsBits, length_accountBits]

/-- An account is read back from its 72 bits, wherever they stand (R34). -/
theorem readAccount_append (front : List Bool) (a : Account) (rest : List Bool) :
    readAccount (front ++ (Account.bits a ++ rest)) front.length = a := by
  have field : ∀ n : Nat, fieldAt 12 (front ++ (Account.bits a ++ rest)) (front.length + n) = fieldAt 12 (Account.bits a ++ rest) n :=
    fun n => by rw [fieldAt_append_of_le (Nat.le_add_right _ _), Nat.add_sub_cancel_left]
  have start := field 0
  rw [Nat.add_zero] at start
  obtain ⟨⟨h0, h1, h2, h3⟩, want, offer⟩ := a
  simp only [readAccount, field, start]
  simp only [Account.bits, List.append_assoc]
  simp only [fieldAt_append_of_le, length_bitsOf, fieldAt_bitsOf, Nat.reduceLeDiff, Nat.reduceSub, Nat.sub_self]

/-- Every body is read back from its bits under its rank (R34). -/
theorem readBody_bits (b : Body) : readBody (Body.rank b) (Body.bits b) = some b := by
  cases b with
  | take v k n => simp [Body.bits, Body.rank, readBody]
  | give v k n => simp [Body.bits, Body.rank, readBody]
  | want v n => simp [Body.bits, Body.rank, readBody]
  | offer v forced n => simp [Body.bits, Body.rank, readBody]
  | hail w p => simp [Body.bits, Body.rank, readBody]
  | lapse target q =>
    simp only [readBody, Body.rank, Body.bits, List.append_assoc, length_stationBits, Std.le_refl, slice_append_of_le, Nat.sub_self,
      length_fill, slice_append_left, BEq.rfl, ↓reduceIte, stationOfBits, Nat.reduceLeDiff, fieldAt_append_of_le, Nat.reduceSub,
      fieldAt_bitsOf_end]
  | keep w p hw st =>
    have hwRead := readAccount_append (bitsOf w ++ (fill 2 ++ bitsOf p)) hw (Account.bits st)
    have stRead := readAccount_append (bitsOf w ++ (fill 2 ++ (bitsOf p ++ Account.bits hw))) st []
    simp only [List.length_append, length_bitsOf, length_fill, length_accountBits, List.append_assoc, List.append_nil,
      Nat.reduceAdd] at hwRead stRead
    simp [Body.bits, Body.rank, readBody, hwRead, stRead]

theorem Body.rank_lt (b : Body) : Body.rank b < 8 := by cases b <;> simp [Body.rank]

/-- A frame's bits are read back as the frame (R34, R39). -/
theorem readFrame_bits (f : Frame) : readFrame (Frame.bits f) = some f := by
  obtain ⟨sender, seq, body⟩ := f
  generalize hl : Frame.bits ⟨sender, seq, body⟩ = l
  have parts : l = false :: (bitsOf (BitVec.ofNat 3 (Body.rank body)) ++ (stationBits sender ++ (bitsOf seq ++
      (Body.bits body ++ bitsOf (~~~(crc (Frame.content ⟨sender, seq, body⟩))))))) := by
    rw [← hl]; simp [Frame.bits, Frame.content]
  have hrank : natOfBits (slice l 1 3) = Body.rank body := by simp [parts, Body.rank_lt]
  have hfront : (false :: Frame.content ⟨sender, seq, body⟩).length = 17 + bodyLength (Body.rank body) := by
    simp [Frame.content]; omega
  have hcontent : slice l 1 (16 + bodyLength (Body.rank body)) = Frame.content ⟨sender, seq, body⟩ := by
    rw [← hl, Frame.bits, List.cons_append, slice_cons, slice_append_left (by simp [Frame.content]; omega)]
  have hcheck : slice l (17 + bodyLength (Body.rank body)) 16 = bitsOf (~~~(crc (Frame.content ⟨sender, seq, body⟩))) := by
    rw [← hl, Frame.bits, slice_append_of_le (Nat.le_of_eq hfront), hfront, Nat.sub_self, slice_whole (length_bitsOf _)]
  have hbody : slice l 17 (bodyLength (Body.rank body)) = Body.bits body := by simp [parts]
  have hsender : slice l 4 5 = stationBits sender := by simp [parts]
  have hseq : fieldAt 8 l 9 = seq := by simp [parts]
  have hstart : l.getD 0 true = false := by simp [parts]
  have hlength : l.length = 33 + bodyLength (Body.rank body) := by simp [parts]; omega
  simp only [readFrame, hrank, hcontent, hcheck, hbody, hsender, hseq, hstart, hlength, beq_self_eq_true, Bool.and_self, if_true,
    readBody_bits, Option.map_some, stationOfBits]

end Sys2Proof.Machine

namespace Sys2Proof.Proofs

open Sys2Proof.Machine Sys2Proof.Claims

/-- Settles O13: what is stuffed is destuffed, and the fields of a frame stand where they are read. -/
theorem frameRoundTrip : Obligations.FrameRoundTrip := by
  intro f
  rw [receive, destuff_stuff]
  exact readFrame_bits f

/-- Settles O14: a well-formed frame is read back, and the receiver looks at its weight, its sender and its profile. -/
theorem receiverJudges : Obligations.ReceiverJudges := by
  intro own profile f
  rw [judge, frameRoundTrip f]
  simp only [Frame.intactAt, Bool.and_eq_true, bne_iff_ne, and_assoc]

end Sys2Proof.Proofs

namespace Sys2Proof.Machine

/-! ### INERT -/

theorem participates_of_inert {s : State} (h : s.station = .inert) : s.participates = false := by
  rw [State.participates, h]; rfl

theorem onLine_of_not_participates {s : State} (h : s.participates = false) : s.onLine = false := by
  rw [State.onLine, h, Bool.and_false]

theorem heard_of_inert {s : State} (h : s.station = .inert) (turns : Nat) : s.heard turns = false := by
  rw [State.heard, participates_of_inert h, h]
  simp

/-- What a command in INERT leaves as it was. -/
structure Frozen (s t : State) : Prop where
  station : t.station = .inert
  copy : t.ledger.copy = s.ledger.copy
  image : t.loader.image = s.loader.image

section
variable {s : State} (hs : s.station = .inert)
include hs

theorem Frozen.refl : Frozen s s := ⟨hs, rfl, rfl⟩

theorem Frozen.pins (p : Pins) : Frozen s { s with pins := p } := ⟨hs, rfl, rfl⟩

theorem Frozen.modSerial (f : ServiceLine → ServiceLine) : Frozen s (s.modSerial f) := ⟨hs, rfl, rfl⟩

theorem Frozen.loader {f : Loader → Loader} (h : (f s.loader).image = s.loader.image) : Frozen s (s.modLoader f) := ⟨hs, rfl, h⟩

theorem Frozen.answer (status : Status) (data : List Byte) : Frozen s (s.answer status data) := .modSerial hs _

omit hs in
theorem Frozen.trans {t u : State} (h1 : Frozen s t) (h2 : Frozen t u) : Frozen s u :=
  ⟨h2.station, h2.copy.trans h1.copy, h2.image.trans h1.image⟩

omit hs in
theorem Frozen.ite {a b : State} {p : Prop} [Decidable p] (ha : p → Frozen s a) (hb : ¬p → Frozen s b) :
    Frozen s (if p then a else b) := by
  split
  · next h => exact ha h
  · next h => exact hb h

omit hs in
theorem Frozen.settle {t : State} (h : Frozen s t) : Frozen s t.settle := by
  rw [settle_of_not_live t (live_of_inert t h.station)]
  exact ⟨h.station, h.copy, h.image⟩

omit hs in
theorem Frozen.event {t : State} {taken : Bool} {f : State → State} (ht : Frozen s t) (h : taken = false) :
    ∃ u, event taken f t = .next u ∧ Frozen s u := ⟨t, event_of_not_taken h, ht⟩

theorem Frozen.serve {f : State → State} (h : Frozen s (f s)) : ∃ u, serve f s = .next u ∧ Frozen s u :=
  ⟨_, rfl, .ite (fun _ => .refl hs) fun _ => .ite (fun _ => .modSerial hs _) fun _ => h⟩

theorem Frozen.outletCommand (n : Byte) (act : Chan → OutletCfg → State → State) : Frozen s (s.outletCommand n act) := by
  rw [State.outletCommand, hs]
  exact .answer hs _ _

theorem Frozen.answerData (data : Option (List Byte)) : Frozen s (s.answerData data) := by
  unfold State.answerData
  split <;> exact .answer hs _ _

theorem Frozen.badFrameReply : Frozen s s.badFrameReply := .ite (fun _ => .refl hs) fun _ => .modSerial hs _

theorem Frozen.guardCommand (mode count side complement : Byte) (flags : BitVec 16) :
    Frozen s (s.guardCommand mode count side complement flags) := by
  rw [State.guardCommand, hs]
  exact .ite (fun _ => .answer hs _ _) fun _ => .answer hs _ _

theorem Frozen.tryWrite : Frozen s s.tryWrite := by
  unfold State.tryWrite
  split
  · exact .ite (fun _ => ⟨hs, rfl, rfl⟩) fun _ => .answer hs _ _
  · exact .answer hs _ _

theorem Frozen.writeCommand (segment : Byte) (data : List Byte) : Frozen s (s.writeCommand segment data) := by
  have staged : Frozen s (s.stage64 (Fin.ofNat 6 segment.toNat) data) := .loader hs rfl
  unfold State.writeCommand
  exact .ite (fun _ => .answer hs _ _) fun _ => .ite (fun _ => .answer hs _ _) fun _ =>
    .ite (fun _ => staged.trans (.tryWrite staged.station)) fun _ => staged.trans (.answer staged.station _ _)

theorem Frozen.endWrite (status : Status) (data : List Byte) : Frozen s (s.endWrite status data) := ⟨hs, rfl, rfl⟩

theorem Frozen.pageWritten (status : Byte) (n : Nat) : Frozen s (s.pageWritten status n) :=
  .ite (fun _ => .endWrite hs _ _) fun _ => .loader hs rfl

theorem Frozen.writeCompletes (status : Byte) (readBack : List Byte) : Frozen s (s.writeCompletes status readBack) := by
  have compared : Frozen s (s.compareWrite readBack) := .ite (fun _ => ⟨hs, rfl, rfl⟩) fun _ => .endWrite hs _ _
  unfold State.writeCompletes
  split
  · refine .ite (fun _ => .endWrite hs _ _) fun _ => ?_
    split
    · exact compared
    · exact .refl hs
    · exact .refl hs
  · exact .refl hs

theorem Frozen.quietEvent {taken : Bool} {f : State → State} (h : Frozen s (f s)) :
    ∃ u, quietEvent taken f s = .next u ∧ Frozen s u := ⟨_, rfl, .ite (fun _ => h) fun _ => .refl hs⟩

/-- RESTART in INERT asks for a full reset after the response (R70). -/
theorem Frozen.restart : ∃ u, execRestart s = .next u ∧ Frozen s u := by
  have asked : Frozen s (s.answer .done []).requestRestart := by
    have hst : (s.answer .done []).station = .inert := hs
    rw [State.requestRestart, hst]
    exact ⟨hs, rfl, rfl⟩
  exact Frozen.serve hs asked.settle

end

/-- A command in INERT leaves the station there, or gives a full reset (R4, R202). -/
def AnswersInert (s : State) (c : Instr) : Prop :=
  (∃ u, exec c s = .next u ∧ Frozen s u) ∨
    (∃ u, exec c s = .next u ∧ u.station = .start) ∧ (c = .powerOn ∨ c = .resetPinAsserted ∨ c = .resetPinReleased ∨
      (c = .responseSent ∧ s.serial.resetWaiting = true))

theorem exec_of_inert {s : State} (hs : s.station = .inert) (c : Instr) : AnswersInert s c := by
  have moved := fun ch mv h => Proofs.inputsMoveTheirPins.1 s ch mv h
  have hline : s.onLine = false := onLine_of_not_participates (participates_of_inert hs)
  have hacts : s.acts = false := acts_of_not_live (live_of_inert s hs)
  have hheard := heard_of_inert hs
  have here := Frozen.refl hs
  have left : ∀ {a b : Bool}, a = false → (a && b) = false := fun h => by rw [h, Bool.false_and]
  have pin := Frozen.pins hs
  have unchanged : ∀ {c}, exec c s = .next s → AnswersInert s c := fun e => .inl ⟨s, e, here⟩
  have landing : ∀ f turns, ∃ u, receiveLanded f turns s = .next u ∧ Frozen s u := fun f turns => here.event (hheard turns)
  have untakenOutlet : ∀ ch cond, s.outletTakes ch cond = false := outletTakes_of_not_acts hacts
  have untakenStage : ∀ ch cond, s.stageTakes ch cond = false := stageTakes_of_not_acts hacts
  cases c with
  | powerOn => exact .inr ⟨⟨_, rfl, rfl⟩, .inl rfl⟩
  | resetPinAsserted => exact .inr ⟨⟨_, rfl, rfl⟩, .inr (.inl rfl)⟩
  | resetPinReleased =>
    by_cases h : s.pins.reset = true
    · exact .inr ⟨⟨_, (Proofs.powerAndResetPinClear s).2.2.1 h, rfl⟩, .inr (.inr (.inl rfl))⟩
    · exact .inl ⟨s, (Proofs.powerAndResetPinClear s).2.2.2 (eq_false_of_ne_true h), here⟩
  | responseSent =>
    rw [AnswersInert, exec, execResponseSent]
    split
    · next r rest _ =>
      by_cases h : (r.ofCommand && s.serial.resetWaiting) = true
      · exact .inr ⟨⟨_, congrArg _ (if_pos h), rfl⟩, .inr (.inr (.inr ⟨rfl, (Bool.and_eq_true_iff.mp h).2⟩))⟩
      · exact .inl ⟨_, congrArg _ (if_neg h), .modSerial hs _⟩
    · exact .inl ⟨s, rfl, here⟩
  | settingsReadCompletes status bytes =>
    exact unchanged (by rw [exec, execSettingsReadCompletes, event_of_not_taken (by simp [hs])])
  | startOfAttempt => exact unchanged (by rw [exec, execStartOfAttempt, quietEvent_of_not_taken (left (left hline))])
  | arbitrationLost => exact unchanged (by rw [exec, execArbitrationLost, event_of_not_taken (left hline)])
  | attemptFails mismatch => exact unchanged (by rw [exec, execAttemptFails, event_of_not_taken (left hline)])
  | retryPauseExpires => exact unchanged (by rw [exec, execRetryPauseExpires, event_of_not_taken (left hline)])
  | frameNotLanded bits turns => exact unchanged (by rw [exec, execFrameNotLanded, event_of_not_taken (hheard turns)])
  | partialFrameDropped => exact .inl ⟨s, rfl, here⟩
  | take _ _ _ _ _ turns => exact .inl (landing _ turns)
  | give _ _ _ _ _ turns => exact .inl (landing _ turns)
  | want _ _ _ _ turns => exact .inl (landing _ turns)
  | offer _ _ _ _ _ turns => exact .inl (landing _ turns)
  | keep _ _ _ _ _ _ turns => exact .inl (landing _ turns)
  | hail _ _ _ _ turns => exact .inl (landing _ turns)
  | lapse _ _ _ _ turns => exact .inl (landing _ turns)
  | ownLandingTimerTKeep => exact unchanged (by rw [exec, execOwnLandingTimerTKeep, event_of_not_taken (left hline)])
  | ownLandingTimerTSelf => exact unchanged (by rw [exec, execOwnLandingTimerTSelf, event_of_not_taken (left hline)])
  | syncingWindowExpires => exact unchanged (by rw [exec, execSyncingWindowExpires, event_of_not_taken (left (left hline))])
  | silenceTimerTSelf peer => exact unchanged (by rw [exec, execSilenceTimerTSelf, event_of_not_taken (left (left hline))])
  | silenceTimerTExp peer => exact unchanged (by rw [exec, execSilenceTimerTExp, event_of_not_taken (left (left hline))])
  | spareTimerExpires v k => exact unchanged (by rw [exec, execSpareTimerExpires, event_of_not_taken (left hacts)])
  | reclaimTimerExpires v => exact unchanged (by rw [exec, execReclaimTimerExpires, event_of_not_taken (left hacts)])
  | blockTimerExpires v k =>
    rw [AnswersInert, exec, execBlockTimerExpires]
    split
    · exact .inl (here.event (left hacts))
    · exact .inl ⟨s, rfl, here⟩
  | demandInputChange ch mv => exact .inl ⟨_, (moved ch mv hacts).1, pin _⟩
  | idleTimerExpires ch => exact unchanged (by rw [exec, execIdleTimerExpires, event_of_not_taken (untakenOutlet _ _)])
  | pulseTimerExpires ch => exact unchanged (by rw [exec, execPulseTimerExpires, event_of_not_taken (untakenOutlet _ _)])
  | pulseLengthTimerExpires ch =>
    exact unchanged (by rw [exec, execPulseLengthTimerExpires, event_of_not_taken (untakenOutlet _ _)])
  | inPositionRises ch => exact .inl ⟨_, (moved ch 0 hacts).2.2.1, pin _⟩
  | inPositionFalls ch => exact .inl ⟨_, (moved ch 0 hacts).2.2.2.1, pin _⟩
  | strokeTimerExpires ch => exact unchanged (by rw [exec, execStrokeTimerExpires, event_of_not_taken (untakenOutlet _ _)])
  | strokeOverrun ch => exact unchanged (by rw [exec, execStrokeOverrun, event_of_not_taken (untakenOutlet _ _)])
  | drift ch => exact unchanged (by rw [exec, execDrift, event_of_not_taken (untakenOutlet _ _)])
  | meterPulse ch => exact unchanged (by rw [exec, execMeterPulse, quietEvent_of_not_taken (left (untakenOutlet _ _))])
  | meterWindowEnds => exact unchanged (by rw [exec, execMeterWindowEnds, event_of_not_taken (left hacts)])
  | callInputRises ch => exact .inl ⟨_, (moved ch 0 hacts).2.1, pin _⟩
  | callInputFalls ch => exact .inl ⟨_, rfl, pin _⟩
  | runRemainingZero ch => exact unchanged (by rw [exec, execRunRemainingZero, event_of_not_taken (untakenOutlet _ _)])
  | runSpoilt ch => exact unchanged (by rw [exec, execRunSpoilt, event_of_not_taken (untakenOutlet _ _)])
  | stageReadyRises ch => exact .inl ⟨_, (moved ch 0 hacts).2.2.2.2.1, pin _⟩
  | stageReadyFalls ch => exact .inl ⟨_, (moved ch 0 hacts).2.2.2.2.2.1, pin _⟩
  | tripInputAsserts ch => exact .inl ⟨_, (moved ch 0 hacts).2.2.2.2.2.2.1, pin _⟩
  | tripInputClears ch => exact .inl ⟨_, (moved ch 0 hacts).2.2.2.2.2.2.2, pin _⟩
  | warmUpTimerExpires ch => exact unchanged (by rw [exec, execWarmUpTimerExpires, event_of_not_taken (untakenStage _ _)])
  | lockoutTimerExpires ch => exact unchanged (by rw [exec, execLockoutTimerExpires, event_of_not_taken (untakenStage _ _)])
  | callTimerExpires v => exact unchanged (by rw [exec, execCallTimerExpires, event_of_not_taken (left (left hacts))])
  | dropHoldTimerExpires v =>
    rw [AnswersInert, exec, execDropHoldTimerExpires]
    split
    · exact .inl (here.event (left (left hacts)))
    · exact .inl ⟨s, rfl, here⟩
  | readStation page => exact .inl (Frozen.serve hs (.answerData hs _))
  | readEntry n => exact .inl (Frozen.serve hs (.answerData hs _))
  | readOutlet n => exact .inl (Frozen.serve hs (.answerData hs _))
  | readStage n => exact .inl (Frozen.serve hs (.answerData hs _))
  | readFlags => exact .inl (Frozen.serve hs (.answerData hs _))
  | clearFlags mask =>
    rw [AnswersInert, exec, execClearFlags]
    exact .inl (Frozen.serve hs (.ite (fun _ => .answer hs _ _) fun _ => ⟨hs, rfl, rfl⟩))
  | enableOutlet n => exact .inl (Frozen.serve hs (.outletCommand hs n _))
  | disableOutlet n => exact .inl (Frozen.serve hs (.outletCommand hs n _))
  | clearOutlet n => exact .inl (Frozen.serve hs (.outletCommand hs n _))
  | setGuard mode count side complement flags => exact .inl (Frozen.serve hs (.guardCommand hs _ _ _ _ _))
  | restart => exact .inl (Frozen.restart hs)
  | readSettings segment => exact .inl (Frozen.serve hs (.answerData hs _))
  | writeSettings segment data =>
    rw [AnswersInert, exec, execWriteSettings]
    split
    · exact .inl (Frozen.serve hs (.writeCommand hs _ _))
    · exact .inl ⟨_, rfl, .badFrameReply hs⟩
  | settingsPageWritten status =>
    rw [AnswersInert, exec, execSettingsPageWritten]
    split
    · exact .inl (Frozen.quietEvent hs (.pageWritten hs _ _))
    · exact .inl (Frozen.quietEvent hs (.pageWritten hs _ _))
    · exact .inl ⟨s, rfl, here⟩
    · exact .inl ⟨s, rfl, here⟩
  | settingsWriteCompletes status readBack => exact .inl (Frozen.quietEvent hs (.writeCompletes hs _ _))
  | badFrame bytes => exact .inl ⟨_, rfl, .ite (fun _ => .badFrameReply hs) fun _ => here⟩
  | serviceByteGapTimeout bytes => exact .inl ⟨_, rfl, .ite (fun _ => .badFrameReply hs) fun _ => here⟩
  | lockInputChanges level => exact .inl ⟨_, rfl, pin _⟩

end Sys2Proof.Machine

namespace Sys2Proof.Proofs

open Sys2Proof.Machine Sys2Proof.Claims

/-- Settles O5: in INERT no event is taken and no reaction comes, so only a full reset changes the state. -/
theorem inertIsLeftByResetOnly : Obligations.InertIsLeftByResetOnly := by
  intro c s hs
  rcases exec_of_inert hs c with ⟨u, e, hu⟩ | ⟨⟨u, e, hu⟩, hc⟩
  · exact ⟨u, e, .inl ⟨hu.station, hu.copy, hu.image⟩⟩
  · exact ⟨u, e, .inr ⟨hu, hc⟩⟩

end Sys2Proof.Proofs

namespace Sys2Proof.Machine

/-! ### The head of the transmit queue -/

theorem mem_keys (key : Key) : key ∈ keys := by
  cases key with
  | give v k => cases v <;> cases k <;> decide
  | offer v => cases v <;> decide
  | take v => cases v <;> decide
  | want v => cases v <;> decide
  | lapse => decide
  | refresh => decide

theorem mem_heads (q : TxQueue) (key : Key) :
    key ∈ q.heads ↔ q.waitsAt key = true ∧ ∀ other, q.waitsAt other = true → q.before other key = false := by
  simp only [TxQueue.heads, List.mem_filter, List.all_eq_true, mem_keys, true_and, Bool.not_eq_true']

/-- First by rank and then by age (R45). -/
theorem before_iff (q : TxQueue) (a b : Key) : q.before a b = true ↔
    q.rankAt a < q.rankAt b ∨ q.rankAt a = q.rankAt b ∧ (q.ageAt a).getD 0 < (q.ageAt b).getD 0 := by
  simp only [TxQueue.before, Bool.or_eq_true, Bool.and_eq_true, decide_eq_true_eq, beq_iff_eq]

theorem not_before_self (q : TxQueue) (a : Key) : q.before a a = false := by
  rw [Bool.eq_false_iff, ne_eq, before_iff]
  omega

theorem before_trans {q : TxQueue} {a b c : Key} (h1 : q.before a b = true) (h2 : q.before b c = true) : q.before a c = true := by
  rw [before_iff] at *
  omega

/-- A list of keys that is not empty has one with none of it before. -/
theorem exists_first (q : TxQueue) {l : List Key} (h : l ≠ []) : ∃ first ∈ l, ∀ other ∈ l, q.before other first = false := by
  induction l with
  | nil => exact absurd rfl h
  | cons a rest ih =>
    by_cases hrest : rest = []
    · subst hrest
      refine ⟨a, List.mem_cons_self .., fun other hother => ?_⟩
      rw [List.mem_singleton.mp hother]
      exact not_before_self q a
    · obtain ⟨first, hmem, hfirst⟩ := ih hrest
      by_cases ha : q.before a first = true
      · refine ⟨a, List.mem_cons_self .., fun other hother => ?_⟩
        rcases List.mem_cons.mp hother with rfl | hother
        · exact not_before_self q _
        · refine eq_false_of_ne_true fun hbefore => ?_
          have := hfirst other hother
          rw [before_trans hbefore ha] at this
          cases this
      · refine ⟨first, List.mem_cons_of_mem a hmem, fun other hother => ?_⟩
        rcases List.mem_cons.mp hother with rfl | hother
        · exact eq_false_of_ne_true ha
        · exact hfirst other hother

/-- Where a frame waits there is a head. -/
theorem heads_ne_nil {q : TxQueue} {key : Key} (h : q.waitsAt key = true) : q.heads ≠ [] := by
  have hne : keys.filter q.waitsAt ≠ [] := List.ne_nil_of_mem (List.mem_filter.mpr ⟨mem_keys key, h⟩)
  obtain ⟨first, hfirst, hmin⟩ := exists_first q hne
  exact List.ne_nil_of_mem ((mem_heads q first).mpr ⟨(List.mem_filter.mp hfirst).2, fun other hother =>
    hmin other (List.mem_filter.mpr ⟨mem_keys other, hother⟩)⟩)

theorem pickFree_of_ne_nil {α : Type} (s : State) {l : List α} (h : l ≠ []) :
    ∃ a ∈ l, ∃ uses, s.pickFree l = some (a, { s with freeUses := uses }) := by
  match l with
  | [a] => exact ⟨a, List.mem_singleton.mpr rfl, s.freeUses, rfl⟩
  | a :: b :: rest =>
    refine ⟨_, ?_, s.freeUses + 1, rfl⟩
    have hlt : Config.freeChoice s.freeUses % (a :: b :: rest).length < (a :: b :: rest).length :=
      Nat.mod_lt _ (Nat.succ_pos _)
    rw [List.getD_eq_getElem?_getD, List.getElem?_eq_getElem hlt, Option.getD_some]
    exact List.getElem_mem hlt

theorem hailBody_key (s : State) : Body.key s.hailBody = .refresh := by
  unfold State.hailBody
  split <;> rfl

/-- The frame that waits under a key is filled as one of that key (R48). -/
theorem fill_of_waits {s : State} {key : Key} (h : s.liu.queue.waitsAt key = true) :
    ∃ b, s.fill key = some b ∧ Body.key b = key := by
  rw [TxQueue.waitsAt] at h
  cases key with
  | lapse =>
    obtain ⟨l, hl⟩ := Option.isSome_iff_exists.mp ((Option.isSome_map ..).symm.trans h)
    exact ⟨_, by rw [State.fill, hl]; rfl, rfl⟩
  | give v k =>
    obtain ⟨g, hg⟩ := Option.isSome_iff_exists.mp ((Option.isSome_map ..).symm.trans h)
    exact ⟨_, by rw [State.fill, hg]; rfl, rfl⟩
  | offer v =>
    obtain ⟨a, ha⟩ : ∃ a, s.liu.queue.offer.get v = some a := Option.isSome_iff_exists.mp h
    exact ⟨_, by rw [State.fill, ha]; rfl, rfl⟩
  | take v =>
    obtain ⟨t, ht⟩ := Option.isSome_iff_exists.mp ((Option.isSome_map ..).symm.trans h)
    exact ⟨_, by rw [State.fill, ht]; rfl, rfl⟩
  | want v =>
    obtain ⟨a, ha⟩ : ∃ a, s.liu.queue.want.get v = some a := Option.isSome_iff_exists.mp h
    exact ⟨_, by rw [State.fill, ha]; rfl, rfl⟩
  | refresh =>
    obtain ⟨r, hr⟩ := Option.isSome_iff_exists.mp ((Option.isSome_map ..).symm.trans h)
    refine ⟨_, by rw [State.fill, hr]; rfl, ?_⟩
    dsimp only
    split
    · exact hailBody_key s
    · rfl

end Sys2Proof.Machine

namespace Sys2Proof.Proofs

open Sys2Proof.Machine Sys2Proof.Claims

theorem attemptTakesTheHead : AttemptTakesTheHead := by
  intro s hline htx hpause ⟨waiting, hwaiting⟩
  obtain ⟨key, hkey, uses, hpick⟩ := pickFree_of_ne_nil s (heads_ne_nil hwaiting)
  obtain ⟨hwaits, hfirst⟩ := (mem_heads _ _).mp hkey
  obtain ⟨b, hfill, hb⟩ := fill_of_waits hwaits
  refine ⟨key, b, uses, hwaits, hfirst, hfill, hb, ?_⟩
  have hfill' : ({ s with freeUses := uses } : State).fill key = some b := by rw [← hfill]; cases key <;> rfl
  have hcovered : ({ s with freeUses := uses } : State).coveredAt key = s.coveredAt key := by cases key <;> rfl
  rw [exec, execStartOfAttempt, quietEvent_of_taken (by rw [hline, htx, hpause]; rfl), State.startAttempt, hpick]
  dsimp only
  rw [State.transmit, hfill']
  dsimp only [State.modLiu]
  rw [hcovered]

theorem framesAreFilledAtTheAttempt : FramesAreFilledAtTheAttempt := by
  intro s v k im
  refine ⟨fun a h => ?_, fun a h => ?_, fun g h => ?_, fun x h => ?_, fun x h => ?_, fun x h him => ?_⟩
  · rw [State.fill, h]; rfl
  · rw [State.fill, h]; rfl
  · rw [State.fill, h]; rfl
  · rw [State.fill, h]; rfl
  · rw [State.fill, h]; rfl
  · rw [State.fill, h, State.hailBody, him]; rfl

/-- Settles O15. -/
theorem attemptSendsTheHeadFilled : Obligations.AttemptSendsTheHeadFilled :=
  ⟨attemptTakesTheHead, framesAreFilledAtTheAttempt⟩

end Sys2Proof.Proofs

namespace Sys2Proof.Machine

/-! ### Failed attempts -/

section
variable {s : State} {x : TxFrame}

theorem returnFrame_eq (htx : s.liu.tx = some x) (hkept : x.discarded = false) :
    s.returnFrame = { s with liu := { s.liu with tx := none, queue := TxQueue.putBack x.body x.age s.liu.queue } } := by
  rw [State.returnFrame, htx]
  dsimp only
  rw [hkept]
  rfl

theorem returnFrame_discarded (htx : s.liu.tx = some x) (hgone : x.discarded = true) :
    s.returnFrame = (s.modLiu fun l => { l with tx := none }).discardReturned x.body := by
  rw [State.returnFrame, htx]
  dsimp only
  rw [hgone]
  rfl

theorem sendsHail_iff (htx : s.liu.tx = some x) : s.sendsHail = (Body.rank x.body == 3) := by
  rw [State.sendsHail, htx]

theorem voidOwn_eq (mismatch : Bool) (s : State) :
    s.voidOwn mismatch = { s with liu := { s.liu with mark := if mismatch then .void else s.liu.mark } } := by
  cases mismatch <;> rfl

/-- A failed attempt that leaves the queue `q`, before it is tested against the eighth: marked, its frame returned or discarded, and
counted (R37, R41, R47). -/
def State.failed (mismatch : Bool) (q : TxQueue) (s : State) : State :=
  { s with
    liu := { s.liu with
      mark := if mismatch then .void else s.liu.mark
      tx := none
      queue := q
      failCount := min (s.liu.failCount + 1) 8 }
    fru := { s.fru with counters := { s.fru.counters with attemptsFailed := countUp s.fru.counters.attemptsFailed } } }

theorem failAttempt_eq (mismatch : Bool) (htx : s.liu.tx = some x)
    (hother : x.discarded = false ∨ ∀ v k n, x.body ≠ .take v k n) :
    s.failAttempt mismatch =
      let t := s.failed mismatch (if x.discarded then s.liu.queue else TxQueue.putBack x.body x.age s.liu.queue)
      if min (s.liu.failCount + 1) 8 = 8 then t.eighthFailure (Body.rank x.body == 3) else t := by
  have htx' : (s.voidOwn mismatch).liu.tx = some x := by rw [voidOwn_eq]; exact htx
  unfold State.failAttempt
  dsimp only
  rw [sendsHail_iff htx']
  cases hgone : x.discarded with
  | false =>
    rw [returnFrame_eq htx' hgone, voidOwn_eq]
    rfl
  | true =>
    have hbody : ∀ t : State, t.discardReturned x.body = t := fun t => by
      cases hb : x.body with
      | take v k n => exact absurd hb (hother.resolve_left (by simp [hgone]) v k n)
      | _ => rfl
    rw [returnFrame_discarded htx' hgone, hbody, voidOwn_eq]
    rfl

end

end Sys2Proof.Machine

namespace Sys2Proof.Proofs

open Sys2Proof.Machine Sys2Proof.Claims

theorem lostAttemptReturns : LostAttemptReturns := by
  intro s x hline htx
  have lost : exec .arbitrationLost s = .next s.returnFrame.settle := by
    rw [exec, execArbitrationLost, event_of_taken (by rw [hline, htx]; rfl)]
  refine ⟨fun hkept => ?_, fun hgone v k n hbody => ?_, fun hgone hother => ?_⟩
  · rw [Acts, lost, returnFrame_eq htx hkept]
  · rw [Acts, lost, returnFrame_discarded htx hgone, hbody]
    rfl
  · rw [Acts, lost, returnFrame_discarded htx hgone]
    cases hbody : x.body with
    | take v k n => exact absurd hbody (hother v k n)
    | _ => rfl

/-- What ATTEMPT_FAILS does where a frame is in transmission. -/
theorem attemptFails_acts {s : State} {x : TxFrame} (mismatch : Bool) (hline : s.onLine = true) (htx : s.liu.tx = some x) :
    Acts (.attemptFails mismatch) s (s.failAttempt mismatch) := by
  rw [Acts, exec, execAttemptFails, event_of_taken (by rw [hline, htx]; rfl)]

theorem failedAttemptCounts : FailedAttemptCounts := by
  intro s mismatch x hline htx hkept hcount
  have act := attemptFails_acts mismatch hline htx
  rw [failAttempt_eq mismatch htx (.inl hkept), hkept] at act
  dsimp only at act
  rw [if_neg (by omega), State.failed, Nat.min_eq_left (by omega)] at act
  exact act

/-- The eighth failure in a row. -/
theorem eighth_acts {s : State} {x : TxFrame} (mismatch : Bool) (hline : s.onLine = true) (htx : s.liu.tx = some x)
    (hother : x.discarded = false ∨ ∀ v k n, x.body ≠ .take v k n) (hcount : s.liu.failCount = 7) :
    Acts (.attemptFails mismatch) s
      ((s.failed mismatch (if x.discarded then s.liu.queue else TxQueue.putBack x.body x.age s.liu.queue)).eighthFailure
        (Body.rank x.body == 3)) := by
  have act := attemptFails_acts mismatch hline htx
  rw [failAttempt_eq mismatch htx hother] at act
  dsimp only at act
  rwa [if_pos (by omega)] at act

theorem eighthFailurePauses : EighthFailurePauses := by
  intro s mismatch x hline htx hkept hcount hother
  have act := eighth_acts mismatch hline htx (.inl hkept) hcount
  rw [hkept, State.eighthFailure, if_neg, State.failed, hcount] at act
  · exact act
  · intro h
    simp only [Bool.and_eq_true, beq_iff_eq] at h
    exact hother.elim (fun hst => hst h.2) fun hrank => hrank h.1

theorem pauseEndResumes : PauseEndResumes := by
  intro s hline hpause
  rw [Acts, exec, execRetryPauseExpires, event_of_taken (by rw [hline, hpause]; rfl)]
  rfl

/-- Settles O16. -/
theorem attemptsReturnAndAreCounted : Obligations.AttemptsReturnAndAreCounted :=
  ⟨lostAttemptReturns, failedAttemptCounts, eighthFailurePauses, pauseEndResumes⟩

/-- The entry to INERT by a command that sets a flag: what the settled event leaves. -/
theorem settle_enterInert (u : State) (f : Flag) :
    let t := (u.enterInert.setFlag f).settle
    t.station = .inert ∧ t.flagSet f = true ∧ t.liu.queue = TxQueue.empty ∧ t.liu.mark = u.liu.mark ∧
      (u.liu.tx = none → t.liu.tx = none) ∧ t.ledger.copy = u.ledger.copy ∧ t.fru.counters = u.fru.counters := by
  obtain ⟨hmemb, hcopy, hloader, hfru, hqueue, hmark, htx⟩ := enterInert_leaves u
  have hinert : (u.enterInert.setFlag f).station = .inert := by rw [State.station, State.setFlag_memb, hmemb]
  dsimp only
  rw [settle_of_not_live _ (live_of_inert _ hinert)]
  refine ⟨hinert, ?_, hqueue, hmark, fun h => ?_, hcopy, ?_⟩
  · exact (setFlag_flagSet u.enterInert f f).trans (by simp)
  · exact htx.trans (by rw [h]; rfl)
  · show (u.enterInert.setFlag f).fru.counters = _
    rw [State.setFlag_fru, hfru]

theorem eighthHailIsRefused : EighthHailIsRefused := by
  intro s mismatch x w p hline hst htx hbody hcount
  have act := eighth_acts mismatch hline htx (.inr fun v k n => by rw [hbody]; simp) hcount
  rw [hbody] at act
  have hail : ∀ t : State, t.station = .joining →
      t.eighthFailure (Body.rank (.hail w p) == 3) = t.enterInert.setFlag .joinRefused := fun t ht => if_pos (by rw [ht]; rfl)
  rw [hail (s.failed mismatch _) hst] at act
  obtain ⟨hinert, hflag, hqueue, -, htx', hcopy, hcounters⟩ := settle_enterInert
    (s.failed mismatch (if x.discarded then s.liu.queue else TxQueue.putBack (.hail w p) x.age s.liu.queue)) .joinRefused
  exact ⟨_, act, hinert, hflag, hqueue, htx' rfl, hcopy, by rw [hcounters]; rfl⟩

theorem profileMismatchStopsSyncing : ProfileMismatchStopsSyncing := by
  intro s turns f w p hw st hheard hst hbody hweight hsender hprofile
  have halone : Frame.profileAlone s.own s.profile f = true := by
    rw [Frame.profileAlone, hbody]
    simp only [Bool.and_eq_true, bne_iff_ne]
    exact ⟨⟨hweight, hsender⟩, hprofile⟩
  have hnot : Frame.intactAt s.own s.profile f = false := by
    rw [Frame.intactAt, hbody]
    simp [Body.profileRight, hprofile]
  have hvoid : s.notLanded (stuff (Frame.bits f)) =
      ((s.modLiu fun l => { l with mark := .void, turns := 0 }).enterInert).setFlag .profileMismatch := by
    rw [State.notLanded, frameRoundTrip f]
    dsimp only
    rw [hnot, if_neg Bool.false_ne_true, State.voidFrame]
    exact if_pos ⟨hst, halone⟩
  obtain ⟨hinert, hflag, -, hmark, -, hcopy, -⟩ := settle_enterInert (s.modLiu fun l => { l with mark := .void, turns := 0 })
    .profileMismatch
  refine ⟨_, by rw [exec, execFrameNotLanded, event_of_taken hheard, hvoid], hinert, hflag, hmark, hcopy⟩

/-- Settles O18. -/
theorem refusedJoinersStop : Obligations.RefusedJoinersStop := ⟨eighthHailIsRefused, profileMismatchStopsSyncing⟩

end Sys2Proof.Proofs

namespace Sys2Proof.Machine

/-! ### What a landed frame does before the blocks react -/

section
variable (s : State) (f : Frame)

/-- A landed frame applied and counted, and its sender disowned where it must be (R12, R25, R26). -/
def State.judged (f : Frame) (s : State) : State :=
  let t := ((s.applyLanded f).dropWaitingLapse f.body).countFrameLanded
  if s.mustDisown f then t.disown f else t

/-- A landed frame received, the passes made due by the holdings it raised (R124). -/
def State.received (f : Frame) (s : State) : State :=
  forEach serviceClasses (risenStep s.ledger.copy[s.own]) (s.judged f)

theorem landed_eq : s.landed f =
    if f.sender == s.own then
      (s.received f).ownLanded.ownOutcome s.ledger.copy ((s.liu.tx.map TxFrame.covered).getD []) f.body
    else (s.received f).modLiu fun l => { l with mark := .seen, turns := 0 } := rfl

theorem dropWaitingLapse_eq (b : Body) : ∃ q, s.dropWaitingLapse b = { s with liu := { s.liu with queue := q } } := by
  unfold State.dropWaitingLapse
  split <;> exact ⟨_, rfl⟩

theorem disown_eq : ∃ q c, s.disown f =
    { s with liu := { s.liu with queue := q }, ledger := { s.ledger with candidates := c } } := by
  unfold State.disown
  split <;> exact ⟨_, _, rfl⟩

theorem judged_eq : ∃ q c, s.judged f = { s with
    liu := { s.liu with queue := q }
    ledger :=
      { copy := applyFrame s.station s.quorum s.ledger.copy f
        silence := silenceAfter s.own s.ledger.copy (applyFrame s.station s.quorum s.ledger.copy f) f.sender s.ledger.silence
        candidates := c }
    fru := { s.fru with
      counters := { s.fru.counters with framesLanded := countUp s.fru.counters.framesLanded } } } := by
  obtain ⟨q, hq⟩ := dropWaitingLapse_eq (s.applyLanded f) f.body
  unfold State.judged
  rw [hq]
  dsimp only
  split
  · obtain ⟨q', c, hd⟩ := disown_eq
      (State.countFrameLanded { s.applyLanded f with liu := { (s.applyLanded f).liu with queue := q } }) f
    rw [hd]
    exact ⟨q', c, rfl⟩
  · exact ⟨q, _, rfl⟩

theorem received_eq : ∃ app, app.guard = s.app.guard ∧ s.received f = { s.judged f with app := app } := by
  have hguard : (s.judged f).app.guard = s.app.guard := by
    obtain ⟨q, c, e⟩ := judged_eq s f
    rw [e]
  refine forEach_inv (fun t => ∃ app, app.guard = s.app.guard ∧ t = { s.judged f with app := app }) _ _ ?_ _ ⟨_, hguard, rfl⟩
  rintro p t ⟨app, hg, rfl⟩
  unfold risenStep
  split
  · exact ⟨{ app with passDue := app.passDue.set p.1 p.2 true }, hg, rfl⟩
  · exact ⟨app, hg, rfl⟩

/-- What a received frame leaves of the station. -/
theorem received_leaves :
    (s.received f).memb = s.memb ∧ (s.received f).loader = s.loader ∧
    (s.received f).ledger.copy = applyFrame s.station s.quorum s.ledger.copy f ∧
    (s.received f).liu.failCount = s.liu.failCount ∧
    (s.received f).still = { s.still with
      copy := applyFrame s.station s.quorum s.ledger.copy f, framesLanded := countUp s.fru.counters.framesLanded } := by
  obtain ⟨app, hguard, e⟩ := received_eq s f
  obtain ⟨q, c, e'⟩ := judged_eq s f
  rw [e, e']
  refine ⟨rfl, rfl, rfl, rfl, ?_⟩
  simp only [State.still, hguard]

theorem received_ledger : (s.received f).ledger = (s.judged f).ledger := by
  obtain ⟨app, -, e⟩ := received_eq s f
  rw [e]

theorem received_liu : (s.received f).liu = (s.judged f).liu := by
  obtain ⟨app, -, e⟩ := received_eq s f
  rw [e]

end

/-! ### The outcome of an own frame -/

section
variable (s : State)

theorem enterMember_eq : ∃ app, app.guard = s.app.guard ∧ s.enterMember = { s.enter .member with app := app } := by
  refine forEach_inv (fun t => ∃ app, app.guard = s.app.guard ∧ t = { s.enter .member with app := app }) _ _ ?_ _ ⟨_, rfl, rfl⟩
  rintro p t ⟨app, hg, rfl⟩
  dsimp only
  split
  · exact ⟨app, hg, rfl⟩
  · exact ⟨{ app with passDue := app.passDue.set p.1 p.2 true }, hg, rfl⟩

theorem offerOutcome_eq (v : Svc) (accepted : Bool) (covered : List Chan) :
    ∃ stages supply, s.offerOutcome v accepted covered = { s with stages := stages, supply := supply } := by
  have marks : ∀ (g : Stage → Stage), ∃ stages, forEach covered (fun ch t => t.modStage ch g) s = { s with stages := stages } := by
    intro g
    refine forEach_inv (fun t => ∃ stages, t = { s with stages := stages }) _ _ ?_ _ ⟨_, rfl⟩
    rintro ch t ⟨stages, rfl⟩
    exact ⟨_, rfl⟩
  unfold State.offerOutcome
  obtain ⟨dropped, hd⟩ := marks Stage.dropped
  obtain ⟨kept, hk⟩ := marks fun g => { g with leaving := false }
  rw [hd, hk]
  cases accepted <;> simp only [Bool.false_eq_true, if_false, if_true, State.testForced] <;> split <;> exact ⟨_, _, rfl⟩

/-- Everything an own frame's outcome reaches: stages, supplies, outstanding TAKEs, passes, the count of refused TAKEs and, for the
HAIL in JOINING, the station state. -/
theorem ownOutcome_leaves (old : Copy) (covered : List Chan) (b : Body) :
    (s.ownOutcome old covered b).ledger = s.ledger ∧ (s.ownOutcome old covered b).liu = s.liu ∧
    (s.ownOutcome old covered b).memb.leaveMark = s.memb.leaveMark ∧
    (s.ownOutcome old covered b).still = { s.still with
      takeRefused := match b with
        | .take v _ n =>
          if takeAccepted old s.quorum s.own v n.toNat then s.fru.counters.takeRefused
          else countUp s.fru.counters.takeRefused
        | _ => s.fru.counters.takeRefused } := by
  cases b with
  | take v k n =>
    simp only [State.ownOutcome]
    split
    · next h =>
      refine ⟨rfl, rfl, rfl, ?_⟩
      rw [if_pos (show takeAccepted old s.quorum s.own v n.toNat = true from h)]
      rfl
    · next h =>
      refine ⟨rfl, rfl, rfl, ?_⟩
      rw [if_neg (show ¬takeAccepted old s.quorum s.own v n.toNat = true from h)]
      rfl
  | offer v forced n =>
    simp only [State.ownOutcome]
    obtain ⟨stages, supply, e⟩ := offerOutcome_eq s v (offerAccepted old s.own v forced n.toNat) covered
    rw [e]
    exact ⟨rfl, rfl, rfl, rfl⟩
  | hail w p =>
    simp only [State.ownOutcome]
    split
    · obtain ⟨app, hg, e⟩ := enterMember_eq s
      rw [e]
      exact ⟨rfl, rfl, rfl, by simp only [State.still, hg]; rfl⟩
    · exact ⟨rfl, rfl, rfl, rfl⟩
  | give v k n => exact ⟨rfl, rfl, rfl, rfl⟩
  | lapse target q => exact ⟨rfl, rfl, rfl, rfl⟩
  | want v n => exact ⟨rfl, rfl, rfl, rfl⟩
  | keep w p hw st => exact ⟨rfl, rfl, rfl, rfl⟩

end

/-! ### A landing as a whole -/

section
variable {s : State} {f : Frame} {turns : Nat}

theorem exec_landing (f : Frame) (turns : Nat) (s : State) : exec (Claims.landing f turns) s = receiveLanded f turns s := by
  obtain ⟨sender, seq, body⟩ := f
  cases body <;> rfl

theorem receiveLanded_of_lands (h : Claims.Lands s turns f) : receiveLanded f turns s = .next (s.landed f).settle := by
  obtain ⟨hheard, hpart, hcan, -⟩ := h
  rw [receiveLanded, event_of_taken hheard, hcan, hpart]
  rfl

theorem landed_own (h : f.sender = s.own) : s.landed f =
    (s.received f).ownLanded.ownOutcome s.ledger.copy ((s.liu.tx.map TxFrame.covered).getD []) f.body := by
  rw [landed_eq, if_pos (beq_iff_eq.mpr h)]

theorem landed_other (h : f.sender ≠ s.own) : s.landed f = (s.received f).modLiu fun l => { l with mark := .seen, turns := 0 } := by
  rw [landed_eq, if_neg (by rwa [beq_iff_eq])]

theorem ownLanded_leaves (s : State) : s.ownLanded.ledger = s.ledger ∧ s.ownLanded.memb.leaveMark = s.memb.leaveMark ∧
    s.ownLanded.liu.failCount = 0 ∧ s.ownLanded.still = { s.still with seqCounter := s.liu.seqCounter + 1, tx := none } :=
  ⟨rfl, rfl, rfl, rfl⟩

theorem landed_leaves : (s.landed f).ledger = (s.judged f).ledger ∧ (s.landed f).memb.leaveMark = s.memb.leaveMark := by
  obtain ⟨hmemb, -⟩ := received_leaves s f
  rw [← received_ledger, ← hmemb]
  by_cases hown : f.sender = s.own
  · rw [landed_own hown]
    generalize s.received f = t
    obtain ⟨hledger, -, hmark, -⟩ := ownOutcome_leaves t.ownLanded s.ledger.copy ((s.liu.tx.map TxFrame.covered).getD []) f.body
    obtain ⟨hledger', hmark', -⟩ := ownLanded_leaves t
    exact ⟨hledger.trans hledger', hmark.trans hmark'⟩
  · rw [landed_other hown]
    generalize s.received f = t
    exact ⟨rfl, rfl⟩

theorem landed_copy : (s.landed f).ledger.copy = applyFrame s.station s.quorum s.ledger.copy f := by
  rw [landed_leaves.1, ← received_ledger]
  exact (received_leaves s f).2.2.1

theorem settle_failCount (t : State) (h : t.liu.failCount = 0) : t.settle.liu.failCount = 0 := by
  rcases settle_cases t with hr | ⟨u, hr, e⟩
  · exact hr.failCount h
  · rw [e]; rfl

/-- After a landing `State.still` is as the landing itself left it. -/
theorem settle_landed_still (h : Claims.Lands s turns f) : (s.landed f).settle.still = (s.landed f).still :=
  settle_still _ (by rw [landed_leaves.2]; exact h.2.2.2)

theorem still_copy (t : State) : t.still.copy = t.ledger.copy := rfl

/-- The copy after a landing is the frame applied to the copy before it (R12). -/
theorem settle_landed_copy (h : Claims.Lands s turns f) :
    (s.landed f).settle.ledger.copy = applyFrame s.station s.quorum s.ledger.copy f := by
  rw [← still_copy, settle_landed_still h, still_copy, landed_copy]

end

/-! ### The copy after a frame -/

section
variable (copy : Copy) (s : Stn) (seq : BitVec 8)

theorem copy_set_getElem : copy.set s copy[s] = copy := by simp

theorem recordSeq_eq : recordSeq copy s seq = copy.set s (Claims.heardAs seq copy[s]) := by
  unfold recordSeq Claims.heardAs
  split
  · rfl
  · exact (copy_set_getElem copy s).symm

theorem recordSeq_getElem (p : Stn) : (recordSeq copy s seq)[p] = if p = s then Claims.heardAs seq copy[p] else copy[p] := by
  rw [recordSeq_eq]
  split
  · next hp => subst hp; exact copy_set_self ..
  · next hp => exact copy_set_of_ne _ _ hp

/-- The copy with an entry replaced when a condition holds. -/
theorem copy_set_ite_getElem {c : Prop} [Decidable c] (e : Entry) (p : Stn) :
    (if c then copy.set s e else copy)[p] = if p = s ∧ c then e else copy[p] := by
  by_cases hc : c
  · rw [if_pos hc]
    by_cases hp : p = s
    · subst hp
      rw [copy_set_self, if_pos ⟨rfl, hc⟩]
    · rw [copy_set_of_ne _ _ hp, if_neg fun h => hp h.1]
  · rw [if_neg hc, if_neg fun h => hc h.2]

theorem recordSeq_set (e : Entry) : recordSeq (copy.set s e) s seq = copy.set s (Claims.heardAs seq e) := by
  rw [recordSeq_eq, copy_set_self]
  simp

/-- A frame that changes its sender's entry or nothing. -/
theorem recordSeq_ite {p : Prop} [Decidable p] (e : Entry) :
    recordSeq (if p then copy.set s e else copy) s seq = copy.set s (Claims.heardAs seq (if p then e else copy[s])) := by
  split
  · exact recordSeq_set copy s seq e
  · exact recordSeq_eq copy s seq

end

theorem othersWant_eq_false_iff (copy : Copy) (v : Svc) (s : Stn) :
    othersWant copy v s = false ↔ ∀ p : Stn, p ≠ s → (copy[p]).isMember = true → (copy[p]).want v = 0 := by
  rw [← Bool.not_eq_true, othersWant_iff]
  simp only [not_exists, not_and, ne_eq, Classical.not_not]

theorem offerAccepted_iff (copy : Copy) (s : Stn) (v : Svc) (forced : Bool) (n : Nat) :
    offerAccepted copy s v forced n = true ↔ (copy[s]).isMember = true ∧ (forced = true ∨ (copy[s]).offer v ≤ n ∨
      held copy v ≤ capacity (copy.set s ((copy[s]).setOffer v n)) v) := by
  simp only [offerAccepted, Bool.and_eq_true, Bool.or_eq_true, decide_eq_true_eq, or_assoc, Int.sub_nonneg, Int.ofNat_le]

theorem admits_iff (st : Station) : st.admits = true ↔ st = .syncing ∨ st = .joining := by
  cases st <;> simp [Station.admits]

end Sys2Proof.Machine

namespace Sys2Proof.Proofs

open Sys2Proof.Machine Sys2Proof.Claims

/-- A landing answers a state whose copy is the frame applied. -/
theorem landing_copy {s : State} {f : Frame} {turns : Nat} (h : Lands s turns f) :
    Answers (landing f turns) s fun t => t.ledger.copy = applyFrame s.station s.quorum s.ledger.copy f :=
  ⟨_, by rw [exec_landing, receiveLanded_of_lands h], settle_landed_copy h⟩

/-- Settles O19. -/
theorem takeIsJudged : Obligations.TakeIsJudged := by
  intro s turns sender seq v k n h
  obtain ⟨t, e, hcopy⟩ := landing_copy h
  refine ⟨t, e, ?_⟩
  dsimp only
  have hiff : takeAccepted s.ledger.copy s.quorum sender v n.toNat = true ↔
      ((s.entry sender).isMember = true ∧ 1 ≤ n.toNat ∧ (n.toNat : Int) ≤ free s.ledger.copy v ∧
        s.quorum ≤ memberCount s.ledger.copy ∧ ((s.entry sender).total v + n.toNat ≤ fairShare s.ledger.copy v sender ∨
          ∀ p, p ≠ sender → (s.entry p).isMember = true → (s.entry p).want v = 0)) := by
    rw [takeAccepted_iff]
    constructor
    · rintro ⟨h1, h2, h3, h4, h5⟩
      exact ⟨h1, h2, h3, h4, h5.imp_right (othersWant_eq_false_iff _ _ _).mp⟩
    · rintro ⟨h1, h2, h3, h4, h5⟩
      exact ⟨h1, h2, h3, h4, h5.imp_right (othersWant_eq_false_iff _ _ _).mpr⟩
  rw [hcopy, applyFrame, applyBody]
  dsimp only
  rw [recordSeq_ite]
  simp only [hiff]
  rfl

/-- Settles O20. -/
theorem offerIsJudged : Obligations.OfferIsJudged := by
  intro s turns sender seq v forced n h
  obtain ⟨t, e, hcopy⟩ := landing_copy h
  refine ⟨t, e, ?_⟩
  dsimp only
  rw [hcopy, applyFrame, applyBody]
  dsimp only
  rw [recordSeq_ite]
  simp only [offerAccepted_iff]
  rfl

theorem giveLowersTheHolding : GiveLowersTheHolding := by
  intro s turns sender seq v k n h
  obtain ⟨t, e, hcopy⟩ := landing_copy h
  refine ⟨t, e, ?_⟩
  dsimp only
  rw [hcopy, applyFrame, applyBody]
  dsimp only
  rw [recordSeq_ite]
  rfl

theorem wantIsAnnounced : WantIsAnnounced := by
  intro s turns sender seq v n h
  obtain ⟨t, e, hcopy⟩ := landing_copy h
  refine ⟨t, e, ?_⟩
  dsimp only
  rw [hcopy, applyFrame, applyBody]
  dsimp only
  rw [recordSeq_ite]
  rfl

theorem keepOverwrites : KeepOverwrites := by
  intro s turns sender seq w p hw st h
  obtain ⟨t, e, hcopy⟩ := landing_copy h
  refine ⟨t, e, ?_⟩
  dsimp only
  rw [hcopy, applyFrame, applyBody]
  dsimp only
  rw [recordSeq_ite]
  simp only [Bool.or_eq_true, admits_iff]
  show s.ledger.copy.set sender (heardAs seq (if (s.entry sender).isMember = true ∨ s.station = .syncing ∨ s.station = .joining
    then _ else s.entry sender)) = _
  split
  · rfl
  · next hno =>
    have hvacant : (s.entry sender).isMember = false := eq_false_of_ne_true fun hm => hno (.inl hm)
    rw [heardAs, hvacant, if_neg Bool.false_ne_true]

theorem hailResetsTheEntry : HailResetsTheEntry := by
  intro s turns sender seq w p h
  obtain ⟨t, e, hcopy⟩ := landing_copy h
  refine ⟨t, e, ?_⟩
  dsimp only
  rw [hcopy, applyFrame, applyBody]
  dsimp only
  rw [recordSeq_set]
  rfl

/-- Settles O21. -/
theorem giveWantKeepHailAreApplied : Obligations.GiveWantKeepHailAreApplied :=
  ⟨giveLowersTheHolding, wantIsAnnounced, keepOverwrites, hailResetsTheEntry⟩

/-- Settles O22: a vacated target that is the sender itself has no sequence recorded. -/
theorem lapseIsJudgedOnItsTarget : Obligations.LapseIsJudgedOnItsTarget := by
  intro s turns sender seq target q h
  obtain ⟨t, e, hcopy⟩ := landing_copy h
  refine ⟨t, e, fun p => ?_⟩
  have hiff : ((s.ledger.copy[target]).isMember && (s.ledger.copy[target]).lastSeq == q) = true ↔
      (s.entry target).isMember = true ∧ (s.entry target).lastSeq = q := by
    simp only [Bool.and_eq_true, beq_iff_eq]; rfl
  show t.ledger.copy[p] = _
  rw [hcopy, applyFrame, applyBody]
  dsimp only
  rw [recordSeq_getElem, copy_set_ite_getElem]
  simp only [hiff]
  by_cases hgone : p = target ∧ (s.entry target).isMember = true ∧ (s.entry target).lastSeq = q
  · simp only [if_pos hgone]
    exact ite_self Entry.blank
  · simp only [if_neg hgone]
    rfl

/-- Settles O23. -/
theorem landingChangesOnlyTheCopy : Obligations.LandingChangesOnlyTheCopy := by
  intro s turns f h
  refine ⟨_, by rw [exec_landing, receiveLanded_of_lands h], ?_⟩
  obtain ⟨-, hloader, hcopy, -, hstill⟩ := received_leaves s f
  rw [settle_landed_copy h, settle_landed_still h]
  refine ⟨fun hother => ?_, fun hown => ?_⟩
  · rw [landed_other hother, ← hcopy]
    have hseen : ∀ t : State, (t.modLiu fun l => { l with mark := .seen, turns := 0 }).still = { t.still with mark := .seen } :=
      fun _ => rfl
    rw [hseen, hstill, hcopy]
  · rw [landed_own hown]
    generalize s.received f = r at *
    obtain ⟨-, hliu, -, houtcome⟩ :=
      ownOutcome_leaves r.ownLanded s.ledger.copy ((s.liu.tx.map TxFrame.covered).getD []) f.body
    obtain ⟨-, -, hcount, hsent⟩ := ownLanded_leaves r
    have hown : r.ownLanded.own = s.own := (congrArg (fun l => ({ s with loader := l } : State).own) hloader :)
    have hquorum : r.ownLanded.quorum = s.quorum := (congrArg (fun l => ({ s with loader := l } : State).quorum) hloader :)
    have hseq : r.liu.seqCounter = s.liu.seqCounter := congrArg Still.seqCounter hstill
    have hrefused : r.ownLanded.fru.counters.takeRefused = s.fru.counters.takeRefused := congrArg Still.takeRefused hstill
    refine ⟨settle_failCount _ (by rw [hliu]; exact hcount), ?_⟩
    rw [houtcome, hsent, hstill, hquorum, hown, hseq, hrefused] <;> rfl

end Sys2Proof.Proofs

namespace Sys2Proof.Machine

/-! ### The reactions of an event that no RESTART is asked for in -/

section
variable (s : State)

theorem reactWork_leaveMark (h : s.memb.leaveMark ≠ .restart) : s.reactWork.memb.leaveMark ≠ .restart := by
  have hframe : (s.outletPhase.contactPhase.holdPhase.stagePhase.framePhase).memb.leaveMark = s.memb.leaveMark := by
    rw [framePhase_leaveMark, State.stagePhase_memb, State.holdPhase_memb, contactPhase_leaveMark, State.outletPhase_memb]
  rw [← hframe] at h
  unfold State.reactWork
  revert h
  generalize s.outletPhase.contactPhase.holdPhase.stagePhase.framePhase = t
  intro h
  unfold orphanEndStep
  split
  · unfold State.endOrphan
    split
    · rw [enterSyncing_memb]; exact LeaveMark.noConfusion
    · rw [enterHalted_memb]; exact h
  · exact h

/-- A round of reactions is no full reset. -/
theorem react_reacts (h : s.memb.leaveMark ≠ .restart) : Reacts s s.react := by
  cases hlive : s.live with
  | false => rw [react_of_not_live s hlive]; exact .refl s
  | true =>
    rw [react_of_live s hlive]
    refine (reactWork_reacts s).trans ?_
    have hmark := reactWork_leaveMark s h
    generalize s.reactWork = t at hmark ⊢
    refine .ite (fun hend => ?_) fun _ => .refl t
    rw [endWithdrawal_eq, if_neg (by simpa using hmark)]
    refine .aside (leaveLine_aside t ?_)
    simp only [Bool.and_eq_true, beq_iff_eq] at hend
    rw [← State.station, hend.1.1]
    exact Station.noConfusion

theorem settle_reacts (h : s.memb.leaveMark ≠ .restart) : Reacts s s.settle := by
  have h1 := react_leaveMark s h
  have h2 := react_leaveMark _ h1
  have h3 := react_leaveMark _ h2
  exact ((((react_reacts s h).trans (react_reacts _ h1)).trans (react_reacts _ h2)).trans (react_reacts _ h3)).trans (rest_reacts _)

end

/-! ### The transmit queue of a waiting state -/

section
variable (s : State)

theorem classStep_liu (v : Svc) (k : Cls) : (classStep v k s).liu = s.liu := by
  have keeps : ∀ t : State, (t.presentKeep v k).liu = t.liu := by
    intro t; unfold State.presentKeep; dsimp only; split <;> rfl
  have cut : ∀ t : State, (t.cutIfOver v k).liu = t.liu := by
    intro t; unfold State.cutIfOver; split
    · rw [keeps, liu_of_apart (State.keepCut_apart t v k)]
    · rfl
  have pass : ∀ t : State, (t.passIfDue v k).liu = t.liu := by
    intro t; unfold State.passIfDue; split
    · exact liu_of_apart (State.servicePass_apart (t.clearPass v k) v k)
    · rfl
  have carry : ∀ t : State, (t.carry v k).liu = t.liu := by
    intro t; unfold State.carry; dsimp only; split <;> rfl
  rw [classStep, carry, pass, cut, keeps]

theorem stopSupplyTimers_liu : s.stopSupplyTimers.liu = s.liu := rfl

theorem waits_not_member (h : s.station.waits = true) : s.isMember = false := by
  revert h; unfold State.isMember; cases s.station <;> simp [Station.waits]

theorem waits_not_gives (h : s.station.waits = true) : s.station.gives = false := by
  revert h; cases s.station <;> simp [Station.waits, Station.gives]

theorem waits_not_disowns (h : s.station.waits = true) : s.station.disowns = false := by
  revert h; cases s.station <;> simp [Station.waits, Station.disowns]

theorem holdPhase_liu_of_waits (h : s.station.waits = true) : s.holdPhase.liu = s.liu := by
  have keeps : ∀ t : State, t.memb = s.memb ∧ t.liu = s.liu → t.isMember = false ∧ t.station.gives = false := by
    rintro t ⟨hm, -⟩
    have hw : t.station.waits = true := by rw [State.station, hm]; exact h
    exact ⟨waits_not_member t hw, waits_not_gives t hw⟩
  have start : (forEach services keepPhase s).memb = s.memb ∧ (forEach services keepPhase s).liu = s.liu :=
    ⟨forEach_keeps State.memb _ keepPhase (fun v t => forEach_keeps State.memb _ _ (fun k u => classStep_memb u v k) t) s,
      forEach_keeps State.liu _ keepPhase (fun v t => forEach_keeps State.liu _ _ (fun k u => classStep_liu u v k) t) s⟩
  have steps : ∀ {α : Type} (l : List α) (f : α → State → State) (t : State),
      (∀ a u, u.memb = s.memb ∧ u.liu = s.liu → (f a u).memb = s.memb ∧ (f a u).liu = s.liu) →
      t.memb = s.memb ∧ t.liu = s.liu → (forEach l f t).memb = s.memb ∧ (forEach l f t).liu = s.liu :=
    fun l f t hf ht => forEach_inv (fun u => u.memb = s.memb ∧ u.liu = s.liu) l f hf t ht
  have reclaim := steps services reclaimStep _ (fun v u hu => hu) start
  have give := steps serviceClasses (fun p => giveStep p.1 p.2) _
    (fun p u hu => by unfold giveStep; dsimp only; rw [(keeps u hu).2, Bool.false_and]; exact hu) reclaim
  have take := steps services takeStep _
    (fun v u hu => by unfold takeStep; rw [(keeps u hu).1, Bool.false_and]; exact hu) give
  have want := steps services wantStep _ (fun v u hu => by unfold wantStep; rw [(keeps u hu).1]; exact hu) take
  exact want.2

theorem framePhase_liu_of_waits (h : s.station.waits = true) (hl : s.memb.lapseSelfRequested = false) :
    s.framePhase.liu = s.liu := by
  have hself : selfStep s = s := by
    rw [selfStep, State.lapsesSelf, waits_not_leaves h]
    rfl
  have hkey : lapseKeyStep s = s := by
    unfold lapseKeyStep
    rw [hl, waits_not_disowns s h]
    split
    · rfl
    · simp only [Bool.false_eq_true, if_false]
      split <;> rfl
  unfold State.framePhase
  rw [waits_not_member s h, if_neg Bool.false_ne_true, hself, hkey, refreshStep, waits_not_member s h]
  rfl

/-- The reactions of a waiting state place no frame and discard none. -/
theorem react_liu_of_waits (h : s.station.waits = true) (hl : s.memb.lapseSelfRequested = false) : s.react.liu = s.liu := by
  cases hlive : s.live with
  | false => rw [react_of_not_live s hlive]
  | true =>
    have waits_of : ∀ t : State, t.memb = s.memb → t.station.waits = true := fun t e => by rw [State.station, e]; exact h
    have hcontact : s.outletPhase.contactPhase = s.outletPhase := by
      rw [State.contactPhase, waits_not_member _ (waits_of _ s.outletPhase_memb)]
      rfl
    have hhold : s.outletPhase.holdPhase.memb = s.memb ∧ s.outletPhase.holdPhase.liu = s.liu :=
      ⟨by rw [State.holdPhase_memb, State.outletPhase_memb],
        by rw [holdPhase_liu_of_waits _ (waits_of _ s.outletPhase_memb), liu_of_apart s.outletPhase_apart]⟩
    have hstage : s.outletPhase.holdPhase.stagePhase.memb = s.memb ∧ s.outletPhase.holdPhase.stagePhase.liu = s.liu := by
      refine ⟨by rw [State.stagePhase_memb, hhold.1], ?_⟩
      rw [State.stagePhase, waits_not_member _ (waits_of _ hhold.1), if_neg Bool.false_ne_true, stopSupplyTimers_liu]
      exact hhold.2
    have hframe := (framePhase_liu_of_waits _ (waits_of _ hstage.1) (by rw [hstage.1]; exact hl)).trans hstage.2
    have hmemb := (framePhase_memb_of_waits _ (waits_of _ hstage.1) (by rw [hstage.1]; exact hl)).trans hstage.1
    rw [react_of_live s hlive, State.reactWork, hcontact]
    generalize s.outletPhase.holdPhase.stagePhase.framePhase = t at hframe hmemb
    have hstation := waits_of t hmemb
    have ho : orphanEndStep t = t := by
      have : (t.station == .orphan) = false := by revert hstation; cases t.station <;> simp [Station.waits]
      rw [orphanEndStep, this]; rfl
    have hw : withdrawalEndStep t = t := by
      have : (t.station == .halted false) = false := by revert hstation; cases t.station <;> simp [Station.waits]
      rw [withdrawalEndStep, this]; rfl
    rw [ho, hw, hframe]

theorem rest_liu : s.rest.liu = s.liu := by
  have shed : ∀ v (t : State), (shedShortStep v t).liu = t.liu := by
    intro v t; unfold shedShortStep; dsimp only; split <;> rfl
  have spare : s.sparePhase.liu = s.liu := forEach_keeps State.liu serviceClasses (fun p => spareStep p.1 p.2) (fun _ _ => rfl) s
  have h : (if s.live then (forEach services shedShortStep s.sparePhase).observe else s).liu = s.liu := by
    split
    · exact (forEach_keeps State.liu services shedShortStep shed _).trans spare
    · rfl
  exact h

theorem settle_liu_of_waits (h : s.station.waits = true) (hl : s.memb.lapseSelfRequested = false) : s.settle.liu = s.liu := by
  have r : ∀ t : State, t.memb = s.memb ∧ t.liu = s.liu → t.react.memb = s.memb ∧ t.react.liu = s.liu := by
    rintro t ⟨hm, hq⟩
    have hw : t.station.waits = true := by rw [State.station, hm]; exact h
    have ht : t.memb.lapseSelfRequested = false := by rw [hm]; exact hl
    exact ⟨(react_memb_of_waits t hw ht).trans hm, (react_liu_of_waits t hw ht).trans hq⟩
  unfold State.settle
  rw [rest_liu, (r _ (r _ (r _ (r _ ⟨rfl, rfl⟩)))).2]

end

/-! ### Frames that are not applied -/

section
variable {s : State}

theorem modLiu_mark_still (s : State) (m : Mark) :
    (s.modLiu fun l => { l with mark := m, turns := 0 }).still = { s.still with mark := m } := rfl

/-- A frame that does not land is marked by the receiver's judgement (R39, R40). -/
theorem notLanded_eq {bits : List Bool}
    (h : s.station ≠ .syncing ∨ ∀ f, receive bits = some f → Frame.profileAlone s.own s.profile f = false) :
    s.notLanded bits = s.modLiu fun l => { l with mark := judge s.own s.profile bits, turns := 0 } := by
  unfold State.notLanded judge
  cases hr : receive bits with
  | none => rfl
  | some f =>
    dsimp only
    split
    · rfl
    · refine if_neg ?_
      rintro ⟨hstation, hprofile⟩
      rcases h with h | h
      · exact h hstation
      · rw [h f hr] at hprofile; cases hprofile

end

/-! ### The candidates after a landed frame -/

section
variable {s : State} {f : Frame}

theorem mem_addCandidate (target : Stn) (seq : BitVec 8) (l : List (Stn × BitVec 8)) :
    (target, seq) ∈ addCandidate target seq l := by
  induction l with
  | nil => exact List.mem_singleton_self _
  | cons p rest ih =>
    unfold addCandidate
    split
    · exact List.mem_cons_of_mem _ ih
    · split <;> exact List.mem_cons_self ..

theorem mem_candidatesAfter {p : Stn × BitVec 8} {l : List (Stn × BitVec 8)} (h : p ∈ candidatesAfter f l) :
    p ∈ l ∧ p.1 ≠ f.sender := by
  have drop : ∀ {n : Stn} {l : List (Stn × BitVec 8)}, p ∈ dropCandidate n l → p ∈ l ∧ p.1 ≠ n := by
    intro n l hp
    rw [dropCandidate, List.mem_filter] at hp
    exact ⟨hp.1, by simpa using hp.2⟩
  unfold candidatesAfter at h
  dsimp only at h
  split at h
  case h_1 => exact drop (drop h).1
  all_goals exact drop h

theorem mustDisown_iff : s.mustDisown f = true ↔
    s.station.disowns = true ∧ f.sender ≠ s.own ∧ (s.entry f.sender).isMember = false ∧ Body.disownable f.body = true := by
  simp only [State.mustDisown, Bool.and_eq_true, bne_iff_ne, Bool.not_eq_true', and_assoc]

/-- A disowned sender is a candidate, or the waiting LAPSE names its sequence (R26, R49). -/
theorem disown_names (t : State) : (t.disown f).ledger.candidates.any (fun p => p == (f.sender, f.seq)) = true ∨
    (t.disown f).liu.queue.lapse.any (fun l => l.target == f.sender && l.targetSeq == f.seq) = true := by
  unfold State.disown
  split
  · next h =>
    refine .inr ?_
    show (t.liu.queue.lapse.map fun l => { l with targetSeq := f.seq }).any _ = true
    cases hl : t.liu.queue.lapse with
    | none => rw [hl] at h; exact h
    | some l => rw [hl] at h; simpa using h
  · refine .inl (List.any_eq_true.mpr ⟨_, mem_addCandidate f.sender f.seq t.ledger.candidates, beq_self_eq_true _⟩)

theorem landed_other_queue (h : f.sender ≠ s.own) : (s.landed f).liu.queue = (s.judged f).liu.queue := by
  rw [landed_other h, ← received_liu, State.modLiu_liu]

/-- The own HAIL's landing in JOINING makes the station MEMBER (R21, R58). -/
theorem landed_hail {w : BitVec 6} {p : BitVec 16} (hbody : f.body = .hail w p) (hown : f.sender = s.own)
    (hstation : s.station = .joining) :
    (s.landed f).station = .member ∧ (s.landed f).memb.ownLanding = some 0 ∧
      (s.landed f).memb.leaveMark = s.memb.leaveMark ∧ (s.landed f).ownEntry.isMember = true ∧ (s.landed f).liu.tx = none := by
  obtain ⟨hmemb, hloader, hcopy, -, -⟩ := received_leaves s f
  rw [landed_own hown, hbody]
  generalize s.received f = r at *
  obtain ⟨app, -, happ⟩ := enterMember_eq r.ownLanded
  have hjoin : r.ownLanded.station = .joining := (congrArg Membership.station hmemb).trans hstation
  have hself : r.own = s.own := (congrArg (fun l => ({ s with loader := l } : State).own) hloader :)
  rw [State.ownOutcome, if_pos hjoin, happ]
  have hentry : ∀ n : Stn, n = s.own → (r.ledger.copy[n]).isMember = true := by
    rintro n rfl
    rw [hcopy, applyFrame, hbody, applyBody, hown, recordSeq_set, copy_set_self]
    rfl
  exact ⟨rfl, rfl, (congrArg Membership.leaveMark hmemb :), hentry r.own hself, rfl⟩

end

end Sys2Proof.Machine

namespace Sys2Proof.Proofs

open Sys2Proof.Machine Sys2Proof.Claims

/-- Settles O17. -/
theorem noLandingNoChange : Obligations.NoLandingNoChange := by
  refine ⟨fun s bits turns hheard hstay hkeep => ⟨_, by rw [exec, execFrameNotLanded, event_of_taken hheard], ?_⟩,
    fun s bits f turns hheard => ⟨?_, ?_⟩, fun s f turns hheard hpart hcan hstay => ⟨s.landedLate.settle, ?_, ?_⟩, fun s => rfl⟩
  · dsimp only
    rw [notLanded_eq hkeep]
    exact (settle_still _ (by exact hstay)).trans (modLiu_mark_still s _)
  · rw [exec, execFrameNotLanded, event_of_not_taken hheard]
  · rw [exec_landing, receiveLanded, event_of_not_taken hheard]
  · rw [exec_landing, receiveLanded, event_of_taken hheard, hcan, hpart]
    rfl
  · exact settle_still s.landedLate hstay

/-- Settles O28. -/
theorem strangersAreDisowned : Obligations.StrangersAreDisowned := by
  intro s turns f h
  refine ⟨by rw [exec_landing, receiveLanded_of_lands h], fun hstation hother hvacant hbody => ?_, fun hkeep => ?_⟩
  · have hmust : s.mustDisown f = true := by
      refine mustDisown_iff.mpr ⟨?_, hother, hvacant, hbody⟩
      rcases hstation with e | e <;> rw [e] <;> rfl
    rw [landed_leaves.1, landed_other_queue hother, State.judged, if_pos hmust]
    exact disown_names _
  · have hmust : s.mustDisown f = false := by
      refine eq_false_of_ne_true fun hm => ?_
      obtain ⟨h1, h2, h3, h4⟩ := mustDisown_iff.mp hm
      simp only [h1, h2, h3, h4, Bool.true_eq_false, Bool.false_eq_true, or_self] at hkeep
    intro p hp
    obtain ⟨q, hq⟩ := dropWaitingLapse_eq (s.applyLanded f) f.body
    rw [landed_leaves.1, State.judged, if_neg (by rw [hmust]; exact Bool.false_ne_true), hq] at hp
    exact mem_candidatesAfter hp

theorem syncingWindowLeadsToJoining : SyncingWindowLeadsToJoining := by
  intro s hline hstation hwindow hself hstay
  refine ⟨s.enterJoining.settle, ?_, ?_, ?_, ?_⟩
  · rw [exec, execSyncingWindowExpires, event_of_taken (by rw [hline, hstation, hwindow]; rfl)]
  · exact settle_memb_of_waits _ rfl hself
  · rw [settle_liu_of_waits s.enterJoining rfl hself]
    rfl
  · rw [settle_still s.enterJoining hstay]
    rfl

theorem ownHailMakesMember : OwnHailMakesMember := by
  intro s turns seq w p hheard hstation hsent
  let f : Frame := ⟨s.own, seq, .hail w p⟩
  have hown : f.sender = s.own := rfl
  have hcan : s.canLand f = true := by rw [State.canLand, if_pos (beq_iff_eq.mpr hown)]; exact hsent
  have hpart : s.participates = true := by rw [State.participates, hstation]; rfl
  refine ⟨s.landed f, ?_, landed_hail rfl hown hstation⟩
  rw [Acts, exec, execHail, receiveLanded, event_of_taken hheard, hcan, hpart]
  rfl

/-- Settles O29. -/
theorem joiningLeadsToMember : Obligations.JoiningLeadsToMember := ⟨syncingWindowLeadsToJoining, ownHailMakesMember⟩

end Sys2Proof.Proofs

namespace Sys2Proof.Machine

/-! ### What a change of an entry does to the derived quantities -/

section
variable (e : Entry) (v : Svc)

@[simp] theorem Entry.setHolding_isMember (k : Cls) (n : Nat) : (e.setHolding v k n).isMember = e.isMember := rfl

@[simp] theorem Entry.setOffer_isMember (n : Nat) : (e.setOffer v n).isMember = e.isMember := rfl

@[simp] theorem Entry.setHolding_offer (k : Cls) (n : Nat) (w : Svc) : (e.setHolding v k n).offer w = e.offer w := by
  by_cases h : v = w
  · subst h
    simp [Entry.offer, Entry.setHolding, Entry.modShares]
  · simp only [Entry.offer, Entry.setHolding, Entry.modShares, Per2.get_set_of_ne _ _ h]

@[simp] theorem Entry.setOffer_total (n : Nat) (w : Svc) : (e.setOffer v n).total w = e.total w := by
  by_cases h : v = w
  · subst h
    simp [Entry.total, Entry.setOffer, Entry.modShares]
  · simp only [Entry.total, Entry.setOffer, Entry.modShares, Per2.get_set_of_ne _ _ h]

theorem Entry.setHolding_total_of_ne (k : Cls) (n : Nat) {w : Svc} (h : v ≠ w) : (e.setHolding v k n).total w = e.total w := by
  simp only [Entry.total, Entry.setHolding, Entry.modShares, Per2.get_set_of_ne _ _ h]

theorem Per4.sum_set (p : Per4 Nat) (k : Cls) (n : Nat) : (p.set k n).sum + p.get k = p.sum + n := by
  cases k <;> simp only [Per4.sum, Per4.set, Per4.get] <;> omega

theorem Entry.setHolding_total (k : Cls) (n : Nat) : (e.setHolding v k n).total v + e.holding v k = e.total v + n := by
  simp only [Entry.total, Entry.holding, Entry.setHolding, Entry.modShares, Per2.get_set_self]
  exact Per4.sum_set _ k n

@[simp] theorem Entry.setOffer_offer (n : Nat) : (e.setOffer v n).offer v = n := by
  simp [Entry.offer, Entry.setOffer, Entry.modShares]

theorem Entry.setOffer_offer_of_ne (n : Nat) {w : Svc} (h : v ≠ w) : (e.setOffer v n).offer w = e.offer w := by
  simp only [Entry.offer, Entry.setOffer, Entry.modShares, Per2.get_set_of_ne _ _ h]

theorem heardAs_part (seq : BitVec 8) (f : Entry → Nat) (hf : ∀ e : Entry, f { e with lastSeq := seq } = f e) :
    (Claims.heardAs seq e).part f = e.part f := by
  unfold Claims.heardAs
  split
  · exact congrArg (fun n => if e.isMember then n else 0) (hf e)
  · rfl

end

section
variable (copy : Copy) (s : Stn)

/-- One entry changed with its part of the sum unchanged. -/
theorem sumMembers_set_of_part {e : Entry} {f : Entry → Nat} (h : e.part f = (copy[s]).part f) :
    sumMembers (copy.set s e) f = sumMembers copy f := by
  have := sumMembers_set copy s e f
  omega

/-- The recorded sequence counts for nothing in the free capacity. -/
theorem free_recordSeq (seq : BitVec 8) (w : Svc) : free (recordSeq copy s seq) w = free copy w := by
  have offers := sumMembers_set_of_part copy s (heardAs_part copy[s] seq (fun e => e.offer w) fun _ => rfl)
  have totals := sumMembers_set_of_part copy s (heardAs_part copy[s] seq (fun e => e.total w) fun _ => rfl)
  rw [recordSeq_eq, free, free, capacity, capacity, held, held, offers, totals]

variable {copy s} (hmember : (copy[s]).isMember = true)
include hmember

theorem held_setHolding (v : Svc) (k : Cls) (n : Nat) :
    held (copy.set s ((copy[s]).setHolding v k ((copy[s]).holding v k + n))) v = held copy v + n := by
  have h := sumMembers_set copy s ((copy[s]).setHolding v k ((copy[s]).holding v k + n)) fun e => e.total v
  rw [Entry.part_of_member hmember, Entry.part_of_member (by exact hmember)] at h
  have ht := (copy[s]).setHolding_total v k ((copy[s]).holding v k + n)
  unfold held
  omega

theorem held_setHolding_of_ne {v w : Svc} (hne : v ≠ w) (k : Cls) (n : Nat) :
    held (copy.set s ((copy[s]).setHolding v k n)) w = held copy w :=
  sumMembers_set_of_part copy s (by
    rw [Entry.part_of_member hmember, Entry.part_of_member (by exact hmember), Entry.setHolding_total_of_ne _ _ _ _ hne])

theorem capacity_setHolding (v w : Svc) (k : Cls) (n : Nat) :
    capacity (copy.set s ((copy[s]).setHolding v k n)) w = capacity copy w := by
  rw [capacity, capacity, sumMembers_set_of_part copy s (by
    rw [Entry.part_of_member hmember, Entry.part_of_member (by exact hmember), Entry.setHolding_offer])]

theorem held_setOffer (v w : Svc) (n : Nat) : held (copy.set s ((copy[s]).setOffer v n)) w = held copy w :=
  sumMembers_set_of_part copy s (by
    rw [Entry.part_of_member hmember, Entry.part_of_member (by exact hmember), Entry.setOffer_total])

theorem capacity_setOffer_of_ne {v w : Svc} (hne : v ≠ w) (n : Nat) :
    capacity (copy.set s ((copy[s]).setOffer v n)) w = capacity copy w := by
  rw [capacity, capacity, sumMembers_set_of_part copy s (by
    rw [Entry.part_of_member hmember, Entry.part_of_member (by exact hmember), Entry.setOffer_offer_of_ne _ _ _ hne])]

theorem capacity_le_setOffer {v : Svc} {n : Nat} (hn : (copy[s]).offer v ≤ n) :
    capacity copy v ≤ capacity (copy.set s ((copy[s]).setOffer v n)) v := by
  have h := sumMembers_set copy s ((copy[s]).setOffer v n) fun e => e.offer v
  rw [Entry.part_of_member hmember, Entry.part_of_member (by exact hmember), Entry.setOffer_offer] at h
  unfold capacity
  omega

end

/-- Free capacity is kept from falling below 0, and from falling where it is below. -/
def FreeKept (before after : Int) : Prop := (0 ≤ before → 0 ≤ after) ∧ (before < 0 → before ≤ after)

theorem FreeKept.refl (x : Int) : FreeKept x x := ⟨id, fun _ => Int.le_refl _⟩

section
variable {recv : Station} {quorum : Nat} {copy : Copy} {s : Stn}

theorem applyBody_take_freeKept (v w : Svc) (k : Cls) (n : BitVec 12) :
    FreeKept (free copy w) (free (applyBody recv quorum copy s (.take v k n)) w) := by
  unfold applyBody
  dsimp only
  split
  · next h =>
    obtain ⟨hmember, hone, hfree, -, -⟩ := (takeAccepted_iff _ _ _ _ _).mp h
    by_cases hv : v = w
    · subst hv
      unfold FreeKept free at *
      rw [capacity_setHolding hmember, held_setHolding hmember]
      omega
    · unfold free
      rw [capacity_setHolding hmember, held_setHolding_of_ne hmember hv]
      exact .refl _
  · exact .refl _

theorem applyBody_offer_freeKept (v w : Svc) (n : BitVec 12) :
    FreeKept (free copy w) (free (applyBody recv quorum copy s (.offer v false n)) w) := by
  unfold applyBody
  dsimp only
  split
  · next h =>
    obtain ⟨hmember, hcase⟩ := (offerAccepted_iff _ _ _ _ _).mp h
    by_cases hv : v = w
    · subst hv
      unfold FreeKept free
      rw [held_setOffer hmember]
      rcases hcase with hforced | hrise | hfits
      · cases hforced
      · have := capacity_le_setOffer hmember hrise
        omega
      · omega
    · unfold free
      rw [capacity_setOffer_of_ne hmember hv, held_setOffer hmember]
      exact .refl _
  · exact .refl _

end

/-! ### Sums over the stations -/

theorem sum_stations_filter (chosen : Stn → Bool) (f : Stn → Nat) :
    ((stations.filter chosen).map f).sum = (stations.map fun n => if chosen n then f n else 0).sum := by
  induction stations with
  | nil => rfl
  | cons n rest ih =>
    rw [List.filter_cons, List.map_cons, List.sum_cons, ← ih]
    split
    · rw [List.map_cons, List.sum_cons]
    · rw [Nat.zero_add]

section
variable (copy : Copy) (v : Svc)

theorem activeWeight_eq_stations :
    activeWeight copy v = (stations.map fun n => if (copy[n]).active v then (copy[n]).weight else 0).sum := by
  rw [activeWeight_eq_sum, sum_stations_filter]

/-- The weights of the active set with a station counted as active (R7). -/
theorem activeWeight_counting (s : Stn) :
    ((stations.filter fun n => n = s ∨ (copy[n]).active v = true).map fun n => (copy[n]).weight).sum =
      if (copy[s]).active v then activeWeight copy v else activeWeight copy v + (copy[s]).weight := by
  rw [sum_stations_filter, activeWeight_eq_stations]
  have hone := sum_map_of_one (f := fun n : Stn => if decide (n = s ∨ (copy[n]).active v = true) = true then (copy[n]).weight else 0)
    (g := fun n : Stn => if (copy[n]).active v then (copy[n]).weight else 0) stations_nodup (mem_stations s) fun n hn => by
      by_cases h : (copy[n]).active v = true
      · rw [if_pos h, if_pos (decide_eq_true (.inr h))]
      · rw [if_neg h, if_neg fun e => (of_decide_eq_true e).elim hn h]
  rw [if_pos (decide_eq_true (.inl rfl))] at hone
  split
  · next hs => rw [if_pos hs] at hone; exact Nat.add_right_cancel hone
  · next hs => rwa [if_neg hs, Nat.add_zero] at hone

theorem weight_le_activeWeight {s : Stn} (hactive : (copy[s]).active v = true) : (copy[s]).weight ≤ activeWeight copy v := by
  have h := le_sumMembers (f := fun e => if e.active v then e.weight else 0) (((copy[s]).active_iff v).mp hactive).1
  rwa [if_pos hactive] at h

theorem fairShare_le_capacity (s : Stn) : fairShare copy v s ≤ capacity copy v := by
  unfold fairShare
  refine Nat.div_le_of_le_mul ?_
  rw [Nat.mul_comm]
  refine Nat.mul_le_mul_right _ ?_
  split
  · next h => exact weight_le_activeWeight copy v h
  · exact Nat.le_add_left _ _

/-- Over the active set the fair shares never exceed the capacity (R7). -/
theorem sum_fairShare_le : ((stations.filter fun s => (copy[s]).active v).map (fairShare copy v)).sum ≤ capacity copy v := by
  rw [sum_stations_filter]
  rcases Nat.eq_zero_or_pos (activeWeight copy v) with h0 | hpos
  · refine Nat.le_trans (Nat.le_of_eq (sum_map_eq_zero fun n _ => ?_)) (Nat.zero_le _)
    split
    · next h => rw [fairShare_of_active h, h0, Nat.div_zero]
    · rfl
  · refine Nat.le_of_mul_le_mul_left ?_ hpos
    rw [← sum_map_mul]
    calc (stations.map fun n => activeWeight copy v * if (copy[n]).active v = true then fairShare copy v n else 0).sum
        ≤ (stations.map fun n => capacity copy v * if (copy[n]).active v = true then (copy[n]).weight else 0).sum := by
          refine sum_map_le fun n _ => ?_
          split
          · next h => rw [fairShare_of_active h]; exact Nat.mul_div_le _ _
          · exact Nat.le_of_eq (by rw [Nat.mul_zero, Nat.mul_zero])
      _ = activeWeight copy v * capacity copy v := by rw [sum_map_mul, ← activeWeight_eq_stations, Nat.mul_comm]

/-! ### Shortage and reclaim duties -/

theorem ceilDiv_zero (a : Nat) : ceilDiv a 0 = 0 := Nat.div_zero _

theorem zero_ceilDiv (b : Nat) : ceilDiv 0 b = 0 := by
  rcases Nat.eq_zero_or_pos b with rfl | hb
  · rfl
  · exact Nat.div_eq_of_lt (by omega)

theorem ceilDiv_of_pos {b : Nat} (a : Nat) (hb : 0 < b) : ceilDiv a b = (a + b - 1) / b := by
  rw [ceilDiv, Nat.add_sub_assoc hb]

theorem le_ceilDiv_mul {b : Nat} (a : Nat) (hb : 0 < b) : a ≤ ceilDiv a b * b := by
  have h := Nat.div_add_mod (a + (b - 1)) b
  have hlt := Nat.mod_lt (a + (b - 1)) hb
  unfold ceilDiv
  rw [Nat.mul_comm]
  omega

theorem ceilDiv_le {a b c : Nat} (h : a ≤ c * b) : ceilDiv a b ≤ c := by
  rcases Nat.eq_zero_or_pos b with rfl | hb
  · exact Nat.le_trans (Nat.le_of_eq (ceilDiv_zero a)) (Nat.zero_le c)
  · refine Nat.le_of_lt_succ ((Nat.div_lt_iff_lt_mul hb).mpr ?_)
    rw [Nat.succ_mul]
    omega

theorem sumClassHeld_eq (k : Cls) : sumClassHeld copy v k = (stations.map fun n => (copy[n]).part fun e => e.holding v k).sum :=
  sumMembers_eq copy _

/-- What all members hold is the sum of what they hold in each class. -/
theorem held_eq_classes : held copy v =
    sumClassHeld copy v .c0 + sumClassHeld copy v .c1 + sumClassHeld copy v .c2 + sumClassHeld copy v .c3 := by
  simp only [held, sumMembers_eq, sumClassHeld_eq, ← sum_map_add]
  refine congrArg List.sum (List.map_congr_left fun n _ => ?_)
  unfold Entry.part
  split
  · exact Entry.total_eq_holdings _ v
  · rfl

theorem shortageParts_sum : (shortageParts copy v).sum = (-free copy v).toNat := by
  have hheld := held_eq_classes copy v
  have hshort : (-free copy v).toNat ≤ held copy v := by
    unfold free
    omega
  simp only [shortageParts, Per4.sum]
  omega

/-- A class bears no more of a shortage than its members hold (R27). -/
theorem shortageParts_le (k : Cls) : (shortageParts copy v).get k ≤ sumClassHeld copy v k := by
  cases k <;> exact Nat.min_le_right _ _

theorem shortageParts_of_free (h : 0 ≤ free copy v) (k : Cls) : (shortageParts copy v).get k = 0 := by
  have h0 : (-free copy v).toNat = 0 := by omega
  cases k <;> simp [shortageParts, Per4.get, h0]

theorem shortageDuty_of_member {s : Stn} (hs : (copy[s]).isMember = true) (k : Cls) : shortageDuty copy v s k =
    ceilDiv ((shortageParts copy v).get k * (copy[s]).holding v k) (sumClassHeld copy v k) := if_pos hs

theorem shortageDuty_of_vacant {s : Stn} (hs : ¬(copy[s]).isMember = true) (k : Cls) : shortageDuty copy v s k = 0 := if_neg hs

theorem shortageDuty_le_holding (s : Stn) (k : Cls) : shortageDuty copy v s k ≤ (copy[s]).holding v k := by
  by_cases hs : (copy[s]).isMember = true
  · rw [shortageDuty_of_member copy v hs]
    refine ceilDiv_le ?_
    rw [Nat.mul_comm]
    exact Nat.mul_le_mul_left _ (shortageParts_le copy v k)
  · rw [shortageDuty_of_vacant copy v hs]
    exact Nat.zero_le _

/-- The duties of a class cover its part of the shortage (R28). -/
theorem shortageParts_le_duties (k : Cls) :
    (shortageParts copy v).get k ≤ (stations.map fun s => shortageDuty copy v s k).sum := by
  rcases Nat.eq_zero_or_pos (sumClassHeld copy v k) with h0 | hpos
  · exact Nat.le_trans (h0 ▸ shortageParts_le copy v k) (Nat.zero_le _)
  · refine Nat.le_of_mul_le_mul_left ?_ hpos
    rw [← sum_map_mul, Nat.mul_comm]
    calc (shortageParts copy v).get k * sumClassHeld copy v k
        = (stations.map fun n => (shortageParts copy v).get k * (copy[n]).part fun e => e.holding v k).sum := by
          rw [sumClassHeld_eq, sum_map_mul]
      _ ≤ (stations.map fun n => sumClassHeld copy v k * shortageDuty copy v n k).sum := by
          refine sum_map_le fun n _ => ?_
          rw [Nat.mul_comm (sumClassHeld copy v k)]
          by_cases hn : (copy[n]).isMember = true
          · rw [shortageDuty_of_member copy v hn, Entry.part_of_member hn]
            exact le_ceilDiv_mul _ hpos
          · rw [Entry.part, if_neg hn]
            exact Nat.zero_le _

theorem reclaimDuties_sum (s : Stn) : (reclaimDuties copy v s).sum =
    min (reclaimAmount copy v s) ((copy[s]).holding v .c1 + (copy[s]).holding v .c2 + (copy[s]).holding v .c3) := by
  simp only [reclaimDuties, Per4.sum]
  omega

theorem reclaimDuties_le (s : Stn) (k : Cls) : (reclaimDuties copy v s).get k ≤ (copy[s]).holding v k := by
  cases k
  case c0 => exact Nat.zero_le _
  all_goals exact Nat.min_le_right _ _

end

end Sys2Proof.Machine

namespace Sys2Proof.Proofs

open Sys2Proof.Machine Sys2Proof.Claims

/-- Settles O26. -/
theorem freeCapacityStaysFree : Obligations.FreeCapacityStaysFree := by
  intro recv quorum copy f w h
  show FreeKept (free copy w) (free (applyFrame recv quorum copy f) w)
  rw [applyFrame, free_recordSeq]
  rcases h with ⟨v, k, n, e⟩ | ⟨v, n, e⟩ <;> rw [e]
  · exact applyBody_take_freeKept v w k n
  · exact applyBody_offer_freeKept v w n

theorem fairSharesFitTheCapacity : FairSharesFitTheCapacity := fun copy v =>
  ⟨fun s _ => by rw [activeWeight_counting]; rfl, fairShare_le_capacity copy v, sum_fairShare_le copy v⟩

theorem dutiesGoByClass : DutiesGoByClass := by
  intro copy v
  refine ⟨⟨rfl, rfl, rfl, rfl⟩, fun s k => ⟨fun hs hpos => ?_, fun h => ?_⟩, fun s => ⟨rfl, rfl, rfl, rfl⟩⟩
  · rw [shortageDuty_of_member copy v hs]
    exact ceilDiv_of_pos _ hpos
  · by_cases hs : (copy[s]).isMember = true
    · have h0 : sumClassHeld copy v k = 0 := h.resolve_left (by rw [hs]; exact Bool.noConfusion)
      rw [shortageDuty_of_member copy v hs, h0]
      exact ceilDiv_zero _
    · exact shortageDuty_of_vacant copy v hs k

theorem dutiesCoverAndFit : DutiesCoverAndFit := by
  intro copy v
  refine ⟨shortageParts_sum copy v, shortageParts_le_duties copy v, shortageDuty_le_holding copy v, fun h s k => ?_, fun s =>
    ⟨reclaimDuties_sum copy v s, reclaimDuties_le copy v s, rfl⟩⟩
  by_cases hs : (copy[s]).isMember = true
  · rw [shortageDuty_of_member copy v hs, shortageParts_of_free copy v h, Nat.zero_mul]
    exact zero_ceilDiv _
  · exact shortageDuty_of_vacant copy v hs k

/-- Settles O27. -/
theorem sharesAndDutiesFit : Obligations.SharesAndDutiesFit :=
  ⟨fairSharesFitTheCapacity, dutiesGoByClass, dutiesCoverAndFit⟩

end Sys2Proof.Proofs

namespace Sys2Proof.Machine

/-! ### The fields of a valid image -/

theorem inRange_iff {lo hi n : Nat} : inRange lo hi n = true ↔ lo ≤ n ∧ n ≤ hi := by
  simp only [inRange, Bool.and_eq_true, decide_eq_true_eq]

/-- An image without a failed check passes the checks of its fields (R201). -/
structure FieldsRight (b : List Byte) : Prop where
  station : stationRight b = true
  services : ∀ v, serviceRight (readService b v) = true
  options : optionsRight b = true
  channel : ∀ ch, channelRight b ch = true
  stroke : ∀ ch, strokeRight b ch = true

/-- A check that names itself when it fails has passed where nothing is named. -/
theorem passed_of_code {passed : Bool} {code rest : Nat} (hcode : code ≠ 0) (h : (if !passed then code else rest) = 0) :
    passed = true ∧ rest = 0 := by
  cases passed with
  | true => exact ⟨rfl, h⟩
  | false => exact absurd h hcode

theorem fieldsRight_of_failedCheck {b : List Byte} (h : failedCheck b = 0) : FieldsRight b := by
  unfold failedCheck at h
  obtain ⟨-, h⟩ := passed_of_code (by decide) h
  obtain ⟨-, h⟩ := passed_of_code (by decide) h
  obtain ⟨h4, h⟩ := passed_of_code (by decide) h
  obtain ⟨h5, h⟩ := passed_of_code (by decide) h
  obtain ⟨h6, h⟩ := passed_of_code (by decide) h
  obtain ⟨h7, h⟩ := passed_of_code (by decide) h
  obtain ⟨h8, -⟩ := passed_of_code (by decide) h
  obtain ⟨hhw, hst⟩ := Bool.and_eq_true_iff.mp h5
  have hservices : ∀ v, serviceRight (readService b v) = true := by
    intro v
    cases v with
    | hw => exact hhw
    | st => exact hst
  exact {
    station := h4
    services := hservices
    options := h6
    channel := fun ch => List.all_eq_true.mp h7 ch (mem_channels ch)
    stroke := fun ch => List.all_eq_true.mp h8 ch (mem_channels ch) }

theorem readImage_channel (b : List Byte) (ch : Chan) : (readImage b).channels[ch] = readChannel b ch := Vector.getElem_ofFn _

section
variable {b : List Byte} {ch : Chan}

/-- The kind byte of an OUTLET channel, and what its record is read as (R200). -/
theorem readChannel_outlet {c : OutletCfg} (h : readChannel b ch = .outlet c) :
    ∃ kind, c = readOutletCfg b (channelOffset ch) kind ∧
      ((byteAt b (channelOffset ch) = 1 ∧ kind = .modulating (readValve b (channelOffset ch))
          ⟨wordAt b (channelOffset ch + 10), byteAt b (channelOffset ch + 13), bitOf (byteAt b (channelOffset ch + 4)) 3,
            bitOf (byteAt b (channelOffset ch + 4)) 4, byteAt b (channelOffset ch + 14), wordAt b (channelOffset ch + 15),
            wordAt b (channelOffset ch + 17)⟩) ∨
        (byteAt b (channelOffset ch) = 2 ∧ kind = .batch (readValve b (channelOffset ch))
          ⟨wordAt b (channelOffset ch + 10), wordAt b (channelOffset ch + 13), wordAt b (channelOffset ch + 15),
            wordAt b (channelOffset ch + 17)⟩) ∨
        (byteAt b (channelOffset ch) = 3 ∧ kind = .monitor (wordAt b (channelOffset ch + 8)))) := by
  unfold readChannel at h
  dsimp only at h
  split at h
  · next e => cases h; exact ⟨_, rfl, .inl ⟨e, rfl⟩⟩
  · next e => cases h; exact ⟨_, rfl, .inr (.inl ⟨e, rfl⟩)⟩
  · next e => cases h; exact ⟨_, rfl, .inr (.inr ⟨e, rfl⟩)⟩
  · cases h
  · cases h

theorem readChannel_stage {c : StageCfg} (h : readChannel b ch = .stage c) :
    byteAt b (channelOffset ch) = 4 ∧ c.rating = wordAt b (channelOffset ch + 2) ∧
      c.callOrder = byteAt b (channelOffset ch + 4) ∧ c.warmUpLimit = wordAt b (channelOffset ch + 6) ∧
      c.lockoutTime = wordAt b (channelOffset ch + 8) := by
  unfold readChannel at h
  dsimp only at h
  split at h
  case h_4 e => cases h; exact ⟨e, rfl, rfl, rfl, rfl⟩
  all_goals cases h

theorem stationInRange_of_right (h : FieldsRight b) : Claims.StationInRange b (readImage b) := by
  have hs := h.station
  have ho := h.options
  simp only [stationRight, optionsRight, Bool.and_eq_true, inRange_iff, decide_eq_true_eq] at hs ho
  have hown : (readImage b).own.val = (byteAt b 3 - 1) % 32 := rfl
  refine ⟨by omega, ?_⟩
  simp only [readImage]
  omega

theorem serviceInRange_of_right (h : FieldsRight b) (v : Svc) : Claims.ServiceInRange ((readImage b).services.get v) := by
  have hs := h.services v
  simp only [serviceRight, Bool.and_eq_true, inRange_iff, decide_eq_true_eq] at hs
  have hv : (readImage b).services.get v = readService b v := by cases v <;> rfl
  rw [hv]
  unfold Claims.ServiceInRange
  omega

theorem outletInRange_of_right (h : FieldsRight b) {c : OutletCfg} (hc : readChannel b ch = .outlet c) :
    Claims.OutletInRange (readImage b) c := by
  have hright := h.channel ch
  have hstroke := h.stroke ch
  have hmax : (readImage b).tStrokeMax = byteAt b 7 := rfl
  obtain ⟨kind, rfl, hkind⟩ := readChannel_outlet hc
  simp only [channelRight, strokeRight] at hright hstroke
  rcases hkind with ⟨e, rfl⟩ | ⟨e, rfl⟩ | ⟨e, rfl⟩ <;>
    simp only [e, outletCommonRight, Bool.and_eq_true, inRange_iff, decide_eq_true_eq, beq_self_eq_true, Bool.true_or,
      Bool.or_true, if_true] at hright hstroke <;>
    simp only [Claims.OutletInRange, readOutletCfg, OutletCfg.valve?, OutletCfg.modulating?, OutletCfg.batch?, reduceCtorEq,
      false_implies, implies_true, Option.some.injEq, forall_eq', OutletKind.monitor.injEq, and_true, true_and, readValve, hmax] <;>
    omega

theorem stageInRange_of_right (h : FieldsRight b) {c : StageCfg} (hc : readChannel b ch = .stage c) :
    Claims.StageInRange c := by
  have hright := h.channel ch
  obtain ⟨e, h1, h2, h3, h4⟩ := readChannel_stage hc
  simp only [channelRight, e, Bool.and_eq_true, inRange_iff, decide_eq_true_eq] at hright
  simp only [Claims.StageInRange, h1, h2, h3, h4]
  omega

end

end Sys2Proof.Machine

namespace Sys2Proof.Proofs

open Sys2Proof.Machine Sys2Proof.Claims

/-- Settles O12. -/
theorem validImageIsInRange : Obligations.ValidImageIsInRange := by
  intro b hb
  have h := fieldsRight_of_failedCheck hb
  refine ⟨stationInRange_of_right h, serviceInRange_of_right h, fun ch c hc => ?_, fun ch c hc => ?_⟩
  · exact outletInRange_of_right h ((readImage_channel b ch).symm.trans hc)
  · exact stageInRange_of_right h ((readImage_channel b ch).symm.trans hc)

end Sys2Proof.Proofs

namespace Sys2Proof.Machine

/-! ### A grant of 0 outside MEMBER -/

section
variable {s t : State} {ch : Chan}

/-- Outside MEMBER no reaction raises a grant from 0, and to leave MEMBER puts it to 0 (R67, R71, R124). -/
theorem Reacts.grant_zero (h : Reacts s t) (hc : (s.outletCfg? ch).isSome = true)
    (hs : s.isMember = true ∨ (s.outlet ch).grant = 0) : t.isMember = true ∨ (t.outlet ch).grant = 0 := by
  induction h with
  | refl s => exact hs
  | trans h1 _ ih1 ih2 => exact ih2 (by rwa [h1.outletCfg]) (ih1 hc hs)
  | @works s t h =>
    cases hm : s.isMember with
    | true => exact .inl (h.isMember.trans hm)
    | false =>
      rw [hm, eq_false Bool.false_ne_true] at h
      exact .inr (h.grant_zero (hs.resolve_left (by rw [hm]; exact Bool.false_ne_true)))
  | @aside s t h =>
    refine hs.imp (fun hm => ?_) fun hg => by rwa [outlet_of_outlets h.outlets]
    rw [isMember_iff] at hm ⊢
    exact (h.station.resolve_right fun hn => hn hm).trans hm
  | zero s st _ => exact .inr (zeroAll_grant (s.enter st) hc)
  | observe s =>
    refine hs.imp_right fun hg => ?_
    rw [State.outlet, State.observe_outlets, mapAt_get]
    split <;> exact hg

end

/-! ### Contact lost -/

section
variable (s : State)

theorem selfStep_station : (selfStep s).station = s.station := by unfold selfStep; split <;> rfl

theorem lapseKeyStep_station : (lapseKeyStep s).station = s.station := by
  unfold lapseKeyStep
  split
  · rfl
  · split
    · rfl
    · split
      · split <;> rfl
      · rfl

theorem framePhase_station : s.framePhase.station = s.station := by
  have refresh : ∀ t : State, (refreshStep t).station = t.station := by intro t; unfold refreshStep; split <;> rfl
  have expiry : (if s.isMember then forEach stations expiryStep s else s).station = s.station := by
    split
    · exact forEach_keeps State.station _ expiryStep (fun n t => by unfold expiryStep; split <;> rfl) s
    · rfl
  rw [State.framePhase, refresh, lapseKeyStep_station, selfStep_station, expiry]

/-- What follows the contact watch in one round of reactions. -/
def State.afterContact (s : State) : State := s.holdPhase.stagePhase.framePhase

theorem afterContact_station : s.afterContact.station = s.station := by
  rw [State.afterContact, framePhase_station, State.station, State.stagePhase_memb, State.holdPhase_memb, State.station]

theorem afterContact_reacts : Reacts s s.afterContact :=
  ((holdPhase_reacts s).trans (.aside (stagePhase_aside _))).trans (.aside (framePhase_aside _))

theorem react_eq (h : s.live = true) : s.react = s.outletPhase.contactPhase.afterContact.leavePhase := by
  rw [State.react, if_pos h]; rfl

variable {s} in
theorem Reacts.ownEntry {t : State} (h : Reacts s t) : t.ownEntry = s.ownEntry := by
  have hown : t.own = s.own := by rw [State.own, h.loader]; rfl
  rw [State.ownEntry, State.entry, h.copy, hown]; rfl

theorem leavePhase_of_orphan (h : s.station = .orphan) (hown : s.ownEntry.isMember = true) : s.leavePhase = s := by
  have horphan : orphanEndStep s = s := by
    rw [orphanEndStep, hown, Bool.not_true, Bool.and_false, Bool.false_and]; rfl
  have hend : withdrawalEndStep s = s := by
    rw [withdrawalEndStep, h]; rfl
  rw [State.leavePhase, horphan, hend]

theorem leavePhase_of_member (h : s.station = .member) : s.leavePhase = s := by
  have horphan : orphanEndStep s = s := by rw [orphanEndStep, h]; rfl
  have hend : withdrawalEndStep s = s := by rw [withdrawalEndStep, h]; rfl
  rw [State.leavePhase, horphan, hend]

theorem isMember_of_station {st : Station} (h : s.station = st) : s.isMember = (st == .member) := by rw [State.isMember, h]

theorem outletPhase_station : s.outletPhase.station = s.station := by rw [State.station, State.outletPhase_memb, State.station]

/-- ORPHAN is not left while the own entry is MEMBER (R69). -/
theorem react_of_orphan (h : s.station = .orphan) (hown : s.ownEntry.isMember = true) :
    s.react.station = .orphan ∧ Reacts s s.react := by
  cases hlive : s.live with
  | false => rw [react_of_not_live s hlive]; exact ⟨h, .refl s⟩
  | true =>
    have hst : s.outletPhase.station = .orphan := (outletPhase_station s).trans h
    have hcontact : s.outletPhase.contactPhase = s.outletPhase := by
      rw [State.contactPhase, isMember_of_station _ hst]; rfl
    have hreacts : Reacts s s.outletPhase.afterContact := (outletPhase_reacts s).trans (afterContact_reacts _)
    have hstation : s.outletPhase.afterContact.station = .orphan := (afterContact_station _).trans hst
    rw [react_eq s hlive, hcontact, leavePhase_of_orphan _ hstation (by rw [hreacts.ownEntry]; exact hown)]
    exact ⟨hstation, hreacts⟩

/-- ORPHAN entered and then not left in a round. -/
def Orphaned (s t : State) : Prop := t.station = .orphan ∧ ∃ u : State, Reacts s u ∧ Reacts u.enterOrphan t

variable {s} in
theorem Orphaned.react {t : State} (h : Orphaned s t) (hown : s.ownEntry.isMember = true) : Orphaned s t.react := by
  obtain ⟨hst, u, hu, ht⟩ := h
  have hentry : t.ownEntry = s.ownEntry := ((hu.trans (enterOrphan_reacts u)).trans ht).ownEntry
  obtain ⟨hst', hr⟩ := react_of_orphan t hst (by rw [hentry]; exact hown)
  exact ⟨hst', u, hu, ht.trans hr⟩

/-- Lost contact leads from MEMBER to ORPHAN in the first round (R64 to R67). -/
theorem react_orphans (hlive : s.live = true) (hm : s.isMember = true) (hown : s.ownEntry.isMember = true)
    (hlost : s.outletPhase.contactLost = true) : Orphaned s s.react := by
  have hmember : s.outletPhase.isMember = true := (outletPhase_works (up := True) s).isMember.trans hm
  have hcontact : s.outletPhase.contactPhase = s.outletPhase.enterOrphan := by
    rw [State.contactPhase, hmember, hlost]; rfl
  have hst : s.outletPhase.enterOrphan.station = .orphan := by rw [State.station, enterOrphan_memb]
  have hreacts := afterContact_reacts s.outletPhase.enterOrphan
  have hentry := (((outletPhase_reacts s).trans (enterOrphan_reacts _)).trans hreacts).ownEntry
  have hstation : s.outletPhase.enterOrphan.afterContact.station = .orphan := (afterContact_station _).trans hst
  rw [react_eq s hlive, hcontact, leavePhase_of_orphan _ hstation (by rw [hentry]; exact hown)]
  exact ⟨hstation, _, outletPhase_reacts s, hreacts⟩

theorem rest_station : s.rest.station = s.station := by rw [State.station, rest_memb, State.station]

variable {s} in
theorem Orphaned.settled {t : State} (h : Orphaned s t) : Orphaned s t.rest := by
  obtain ⟨hst, u, hu, ht⟩ := h
  exact ⟨(rest_station t).trans hst, u, hu, ht.trans (rest_reacts t)⟩

theorem enterOrphan_leaves :
    s.enterOrphan.fru.flags = ((s.enter .orphan).setFlag .orphaned).fru.flags ∧
    s.enterOrphan.outlets = ((s.enter .orphan).setFlag .orphaned).zeroAll.outlets := by
  rw [← flags_of_apart (State.zeroAll_apart ((s.enter .orphan).setFlag .orphaned))]
  obtain ⟨hold, e⟩ := prune_eq ((s.enter .orphan).setFlag .orphaned).zeroAll .orphan
  unfold State.enterOrphan
  dsimp only
  rw [e]
  generalize ((s.enter .orphan).setFlag .orphaned).zeroAll = z
  exact ⟨rfl, rfl⟩

variable {s} in
theorem Orphaned.flag {t : State} (h : Orphaned s t) : t.flagSet .orphaned = true := by
  obtain ⟨-, u, -, ht⟩ := h
  refine ht.flags _ ?_
  refine flagSet_of_flags (enterOrphan_leaves u).1 _ ?_
  rw [setFlag_flagSet, decide_eq_true rfl, Bool.or_true]

variable {s} in
theorem Orphaned.grant {t : State} (h : Orphaned s t) {ch : Chan} (hc : (t.outletCfg? ch).isSome = true) :
    (t.outlet ch).grant = 0 := by
  obtain ⟨hst, u, -, ht⟩ := h
  have hcu : (u.enterOrphan.outletCfg? ch).isSome = true := by rwa [← ht.outletCfg]
  have hzero : (u.enterOrphan.outlet ch).grant = 0 := by
    rw [outlet_of_outlets (enterOrphan_leaves u).2]
    have hcfg : u.enterOrphan.outletCfg? ch = ((u.enter .orphan).setFlag .orphaned).outletCfg? ch :=
      outletCfg_of_image (congrArg Loader.image (enterOrphan_reacts u).loader)
    exact zeroAll_grant _ ((congrArg Option.isSome hcfg).symm.trans hcu)
  refine (ht.grant_zero hcu (.inr hzero)).resolve_left ?_
  rw [isMember_of_station t hst]
  exact Bool.false_ne_true

/-- Lost contact leads from MEMBER to ORPHAN in an event (R64 to R67). -/
theorem settle_orphans (hlive : s.live = true) (hm : s.isMember = true) (hown : s.ownEntry.isMember = true)
    (hlost : s.outletPhase.contactLost = true) : Orphaned s s.settle :=
  ((((react_orphans s hlive hm hown hlost).react hown).react hown).react hown).settled

theorem live_of_onLine (h : s.onLine = true) : s.live = true := by
  simp only [State.onLine, Bool.and_eq_true, State.participates] at h
  have hlive : s.station.live = true := by
    have := h.2
    revert this
    cases s.station <;> simp [Station.participates, Station.live]
  rw [State.live, h.1.2, hlive]; rfl

theorem outletPhase_limit (f : Image → Nat) : s.outletPhase.limit f = s.limit f := by
  rw [State.limit, (outletPhase_works (up := True) s).loader]; rfl

theorem outletPhase_heardCount : s.outletPhase.heardCount = s.heardCount := by
  have hw := outletPhase_works (up := True) s
  have hself : s.outletPhase.own = s.own := by rw [State.own, hw.loader]; rfl
  have hpeer : s.outletPhase.peerHeard = s.peerHeard := by
    funext n
    simp only [State.peerHeard, State.entry, hself, outletPhase_limit, hw.memb, ledger_of_apart hw.apart]
  rw [State.heardCount, hpeer]; rfl

theorem Timer.atLeast_self (n : Nat) : Timer.atLeast n (some n) = true := by simp [Timer.atLeast]

/-- An own landing T_self ago loses contact (R64). -/
theorem contactLost_of_ownSilence (h : Timer.atLeast (s.limit Image.tSelf) s.memb.ownLanding = true) :
    s.outletPhase.contactLost = true := by
  rw [State.contactLost, outletPhase_limit, State.outletPhase_memb, h]; rfl

/-- A lost quorum loses contact while the station holds anything (R65). -/
theorem contactLost_of_quorum (hquorum : s.heardCount < s.quorum) (hholds : s.holdsAny = true) :
    s.outletPhase.contactLost = true := by
  have hw := outletPhase_works (up := True) s
  have hq : s.outletPhase.quorum = s.quorum := by rw [State.quorum, hw.loader]; rfl
  have hh : s.outletPhase.holdsAny = s.holdsAny := by rw [State.holdsAny, (outletPhase_reacts s).ownEntry]; rfl
  rw [State.contactLost, outletPhase_heardCount, hq, hh, hholds, decide_eq_true hquorum]
  simp

end

end Sys2Proof.Machine

namespace Sys2Proof.Proofs

open Sys2Proof.Machine Sys2Proof.Claims

theorem ownSilenceOrphans : OwnSilenceOrphans := by
  intro s hline hstation hown hstay hbelow
  have h : Orphaned (s.setOwnLanding (some (s.limit Image.tSelf))) (s.setOwnLanding (some (s.limit Image.tSelf))).settle :=
    settle_orphans (s.setOwnLanding (some (s.limit Image.tSelf))) (live_of_onLine s hline) (isMember_of_station s hstation) hown
      (contactLost_of_ownSilence (s.setOwnLanding (some (s.limit Image.tSelf))) (Timer.atLeast_self _))
  refine ⟨_, ?_, h.1, h.flag, settle_still (s.setOwnLanding (some (s.limit Image.tSelf))) hstay, fun ch hc => h.grant hc⟩
  rw [exec, execOwnLandingTimerTSelf, event_of_taken (by rw [hline, hbelow]; rfl)]

theorem lostQuorumOrphans : LostQuorumOrphans := by
  intro s peer hline hpeer hbelow u
  have hact : Acts (.silenceTimerTSelf peer) s u := by
    rw [Acts, exec, execSilenceTimerTSelf, event_of_taken (by rw [hline, hbelow, bne_iff_ne.mpr hpeer]; rfl)]
    rfl
  refine ⟨hact, fun hstation hown hstay hquorum hholds => ?_⟩
  have hany : u.holdsAny = true := by
    have hu : u.ownEntry.total .hw ≠ 0 ∨ u.ownEntry.total .st ≠ 0 := hholds
    simpa only [State.holdsAny, Bool.or_eq_true, bne_iff_ne] using hu
  have h : Orphaned u u.settle := settle_orphans u (live_of_onLine s hline) (isMember_of_station s hstation) hown
    (contactLost_of_quorum u hquorum hany)
  exact ⟨_, hact, h.1, h.flag, settle_still u hstay⟩

/-- Settles O30. -/
theorem lostContactOrphans : Obligations.LostContactOrphans := ⟨ownSilenceOrphans, lostQuorumOrphans⟩

end Sys2Proof.Proofs

namespace Sys2Proof.Machine

/-- An operation applied for each of a list reaches what one of them establishes and none of them undoes, under an invariant of
them all. -/
theorem forEach_reaches {α : Type} {I P : State → Prop} {l : List α} {f : α → State → State} {a : α} (ha : a ∈ l)
    (hI : ∀ b t, I t → I (f b t)) (hP : ∀ b t, I t → P t → P (f b t)) (h : ∀ t, I t → P (f a t)) {s : State} (hs : I s) :
    P (forEach l f s) := by
  induction l generalizing s with
  | nil => cases ha
  | cons b rest ih =>
    rcases List.mem_cons.mp ha with rfl | hrest
    · exact (forEach_inv (fun t => I t ∧ P t) rest f (fun b t ht => ⟨hI b t ht.1, hP b t ht.1 ht.2⟩) _ ⟨hI _ s hs, h s hs⟩).2
    · exact ih hrest (hI b s hs)

/-! ### A round of reactions in MEMBER -/

section
variable (s : State)

/-- The frame phase before the refresh is judged. -/
def State.beforeRefresh (s : State) : State :=
  lapseKeyStep (selfStep (if s.isMember then forEach stations expiryStep s else s))

theorem framePhase_eq : s.framePhase = refreshStep s.beforeRefresh := rfl

theorem selfStep_leaves : (selfStep s).ledger = s.ledger ∧ (selfStep s).liu = s.liu ∧ (selfStep s).loader = s.loader ∧
    (selfStep s).memb.ownLanding = s.memb.ownLanding := by
  unfold selfStep; split <;> exact ⟨rfl, rfl, rfl, rfl⟩

theorem lapseKeyStep_leaves : (lapseKeyStep s).ledger.silence = s.ledger.silence ∧ (lapseKeyStep s).ledger.copy = s.ledger.copy ∧
    (lapseKeyStep s).loader = s.loader ∧ (lapseKeyStep s).memb.ownLanding = s.memb.ownLanding := by
  unfold lapseKeyStep
  split
  · exact ⟨rfl, rfl, rfl, rfl⟩
  · split
    · exact ⟨rfl, rfl, rfl, rfl⟩
    · split
      · split <;> exact ⟨rfl, rfl, rfl, rfl⟩
      · exact ⟨rfl, rfl, rfl, rfl⟩

theorem expiryStep_leaves (n : Stn) : (expiryStep n s).ledger.silence = s.ledger.silence ∧
    (expiryStep n s).ledger.copy = s.ledger.copy ∧ (expiryStep n s).loader = s.loader ∧ (expiryStep n s).memb = s.memb ∧
    (expiryStep n s).liu = s.liu := by
  unfold expiryStep; split <;> exact ⟨rfl, rfl, rfl, rfl, rfl⟩

theorem refreshStep_leaves : (refreshStep s).ledger = s.ledger ∧ (refreshStep s).loader = s.loader ∧
    (refreshStep s).memb = s.memb := by
  unfold refreshStep; split <;> exact ⟨rfl, rfl, rfl⟩

/-- What no step before the contact leaves moves: the copy, the silence timers, the settings and the own-landing timer. -/
structure Watched (s t : State) : Prop where
  silence : t.ledger.silence = s.ledger.silence
  copy : t.ledger.copy = s.ledger.copy
  loader : t.loader = s.loader
  ownLanding : t.memb.ownLanding = s.memb.ownLanding

theorem Watched.refl : Watched s s := ⟨rfl, rfl, rfl, rfl⟩

variable {s} in
theorem Watched.trans {t u : State} (h1 : Watched s t) (h2 : Watched t u) : Watched s u :=
  ⟨h2.silence.trans h1.silence, h2.copy.trans h1.copy, h2.loader.trans h1.loader, h2.ownLanding.trans h1.ownLanding⟩

theorem expiryStep_watched (n : Stn) : Watched s (expiryStep n s) := by
  obtain ⟨h1, h2, h3, h4, -⟩ := expiryStep_leaves s n
  exact ⟨h1, h2, h3, by rw [h4]⟩

theorem expiries_watched : Watched s (if s.isMember then forEach stations expiryStep s else s) := by
  split
  · exact forEach_inv (Watched s) _ expiryStep (fun n t ht => ht.trans (expiryStep_watched t n)) s (.refl s)
  · exact .refl s

theorem beforeRefresh_watched : Watched s s.beforeRefresh := by
  obtain ⟨h1, -, h3, h4⟩ := selfStep_leaves (if s.isMember then forEach stations expiryStep s else s)
  obtain ⟨k1, k2, k3, k4⟩ := lapseKeyStep_leaves (selfStep (if s.isMember then forEach stations expiryStep s else s))
  exact (expiries_watched s).trans ⟨k1.trans (by rw [h1]), k2.trans (by rw [h1]), k3.trans h3, k4.trans h4⟩

theorem framePhase_watched : Watched s s.framePhase := by
  obtain ⟨h1, h2, h3⟩ := refreshStep_leaves s.beforeRefresh
  exact (beforeRefresh_watched s).trans ⟨by rw [framePhase_eq, h1], by rw [framePhase_eq, h1], h2, by rw [framePhase_eq, h3]⟩

variable {s} in
theorem Watched.limit {t : State} (h : Watched s t) (f : Image → Nat) : t.limit f = s.limit f := by
  rw [State.limit, h.loader]; rfl

variable {s} in
theorem Watched.own {t : State} (h : Watched s t) : t.own = s.own := by
  rw [State.own, h.loader]; rfl

variable {s} in
theorem Watched.entry {t : State} (h : Watched s t) (n : Stn) : t.entry n = s.entry n := by
  rw [State.entry, h.copy]; rfl

theorem beforeRefresh_station : s.beforeRefresh.station = s.station := by
  have expiry : (if s.isMember then forEach stations expiryStep s else s).station = s.station := by
    split
    · exact forEach_keeps State.station _ expiryStep (fun n t => by unfold expiryStep; split <;> rfl) s
    · rfl
  rw [State.beforeRefresh, lapseKeyStep_station, selfStep_station, expiry]

/-! ### The refresh -/

theorem refreshStep_busy (hm : s.isMember = true) (h : Timer.atLeast (s.limit Image.tKeep) s.memb.ownLanding = true) :
    (refreshStep s).refreshBusy = true := by
  unfold refreshStep
  rw [hm, h]
  cases hb : s.refreshBusy with
  | true => exact hb
  | false => rfl

/-- A silence of T_keep leaves a KEEP or a HAIL under way (R60). -/
theorem framePhase_refreshes (hm : s.station = .member) (h : Timer.atLeast (s.limit Image.tKeep) s.memb.ownLanding = true) :
    s.framePhase.refreshBusy = true := by
  have hw := beforeRefresh_watched s
  refine refreshStep_busy s.beforeRefresh (isMember_of_station _ ((beforeRefresh_station s).trans hm)) ?_
  rwa [hw.limit, hw.ownLanding]

/-! ### The lapse candidates -/

/-- The station is a lapse candidate or named by a LAPSE under way. -/
def State.lapsing (s : State) (n : Stn) : Prop :=
  s.lapseNames n = true ∨ s.ledger.candidates.any (fun p => p.1 == n) = true

variable {s} in
theorem lapsing_of_eq {t : State} {n : Stn} (hl : t.liu = s.liu) (hc : t.ledger.candidates = s.ledger.candidates)
    (h : s.lapsing n) : t.lapsing n := by
  unfold State.lapsing State.lapseNames State.txLapse at *
  rwa [hl, hc]

theorem any_addCandidate {n m : Stn} {q : BitVec 8} {l : List (Stn × BitVec 8)} (h : l.any (fun p => p.1 == n) = true) :
    (addCandidate m q l).any (fun p => p.1 == n) = true := by
  induction l with
  | nil => exact absurd h Bool.false_ne_true
  | cons p rest ih =>
    rw [List.any_cons, Bool.or_eq_true] at h
    unfold addCandidate
    split
    · rw [List.any_cons, Bool.or_eq_true]
      exact h.imp_right ih
    · split
      · next hp =>
        rw [List.any_cons, Bool.or_eq_true, ← hp]
        exact h
      · rw [List.any_cons, Bool.or_eq_true, List.any_cons, Bool.or_eq_true]
        exact .inr h

theorem expiryStep_lapsing {n : Stn} (m : Stn) (h : s.lapsing n) : (expiryStep m s).lapsing n := by
  unfold expiryStep
  split
  · exact h.imp id any_addCandidate
  · exact h

/-- A peer silent for T_exp (R62). -/
def State.silent (s : State) (n : Stn) : Prop :=
  n ≠ s.own ∧ (s.entry n).isMember = true ∧ Timer.atLeast (s.limit Image.tExp) s.ledger.silence[n] = true

variable {s} in
theorem Watched.silent {t : State} {n : Stn} (h : Watched s t) (hn : s.silent n) : t.silent n := by
  unfold State.silent at *
  rwa [h.own, h.entry, h.limit, h.silence]

theorem expiryStep_names {n : Stn} (h : s.silent n) : (expiryStep n s).lapsing n := by
  obtain ⟨hown, hmember, hsilent⟩ := h
  have hexpired : s.expired n = (!(s.ledger.candidates.any fun p => p.1 == n) && !s.lapseNames n) := by
    rw [State.expired, bne_iff_ne.mpr hown, hmember, hsilent]; rfl
  unfold expiryStep
  split
  · exact .inr (List.any_eq_true.mpr ⟨_, mem_addCandidate n _ _, beq_self_eq_true n⟩)
  · next hno =>
    rw [hexpired, Bool.and_eq_true, Bool.not_eq_true', Bool.not_eq_true'] at hno
    by_cases hn : s.lapseNames n = true
    · exact .inl hn
    · refine .inr (eq_true_of_ne_false fun hc => hno ⟨hc, eq_false_of_ne_true hn⟩)

theorem keyBusy_of_lapseNames {n : Stn} (h : s.lapseNames n = true) : s.keyBusy .lapse = true := by
  simp only [State.lapseNames, Bool.or_eq_true] at h
  simp only [State.keyBusy, Bool.or_eq_true]
  rcases h with h | h
  · refine .inl ?_
    cases hl : s.liu.queue.lapse with
    | none => rw [hl] at h; cases h
    | some l => simp [TxQueue.waitsAt, TxQueue.ageAt, hl]
  · refine .inr ?_
    unfold State.txLapse at h
    unfold State.txKey
    cases htx : s.liu.tx with
    | none => rw [htx] at h; cases h
    | some x =>
      rw [htx] at h
      dsimp only at h
      cases hb : x.body with
      | lapse target q => simp [Body.key, hb]
      | _ => rw [hb] at h; cases h

/-- The LAPSE key's turn takes a candidate out only to name it (R49, R63). -/
theorem lapseKeyStep_lapsing {n : Stn} (h : s.lapsing n) : (lapseKeyStep s).lapsing n := by
  unfold lapseKeyStep
  split
  · exact h
  · next hbusy =>
    have hcand : s.ledger.candidates.any (fun p => p.1 == n) = true :=
      h.resolve_left fun hn => hbusy (keyBusy_of_lapseNames s hn)
    split
    · exact .inr hcand
    · split
      · next p rest hrest =>
        split
        · rw [hrest, List.any_cons, Bool.or_eq_true] at hcand
          refine hcand.imp (fun hp => ?_) id
          simp [State.lapseNames, State.placeLapse, hp]
        · exact h
      · exact h

theorem selfStep_lapsing {n : Stn} (h : s.lapsing n) : (selfStep s).lapsing n := by
  obtain ⟨h1, h2, -⟩ := selfStep_leaves s
  exact lapsing_of_eq h2 (by rw [h1]) h

theorem refreshStep_lapsing {n : Stn} (h : s.lapsing n) : (refreshStep s).lapsing n := by
  unfold refreshStep
  split
  · exact h
  · exact h

/-- The frame phase of a MEMBER leaves every peer silent for T_exp a candidate or named (R62, R63). -/
theorem framePhase_lapsing {n : Stn} (hm : s.isMember = true) (h : s.silent n) : s.framePhase.lapsing n := by
  have hexpiry : (forEach stations expiryStep s).lapsing n :=
    forEach_reaches (I := fun t => Watched s t) (mem_stations n) (fun m t ht => ht.trans (expiryStep_watched t m))
      (fun m t _ ht => expiryStep_lapsing t m ht) (fun t ht => expiryStep_names t (ht.silent h)) (.refl s)
  rw [framePhase_eq, State.beforeRefresh, if_pos hm]
  exact refreshStep_lapsing _ (lapseKeyStep_lapsing _ (selfStep_lapsing _ hexpiry))

/-! ### What the holdings and stages leave of the ledger -/

theorem classStep_ledger (v : Svc) (k : Cls) : (classStep v k s).ledger = s.ledger := by
  have keeps : ∀ t : State, (t.presentKeep v k).ledger = t.ledger := by
    intro t; unfold State.presentKeep; dsimp only; split <;> rfl
  have cut : ∀ t : State, (t.cutIfOver v k).ledger = t.ledger := by
    intro t; unfold State.cutIfOver; split
    · rw [keeps, ledger_of_apart (State.keepCut_apart t v k)]
    · rfl
  have pass : ∀ t : State, (t.passIfDue v k).ledger = t.ledger := by
    intro t; unfold State.passIfDue; split
    · exact ledger_of_apart (State.servicePass_apart (t.clearPass v k) v k)
    · rfl
  have carry : ∀ t : State, (t.carry v k).ledger = t.ledger := by
    intro t; unfold State.carry; dsimp only; split <;> rfl
  rw [classStep, carry, pass, cut, keeps]

theorem holdPhase_ledger : s.holdPhase.ledger = s.ledger := by
  have want : ∀ v t, (wantStep v t).ledger = t.ledger := by
    intro v t; unfold wantStep
    split
    · dsimp only; split <;> rfl
    · rfl
  have take : ∀ v t, (takeStep v t).ledger = t.ledger := by
    intro v t; unfold takeStep
    split
    · split
      · dsimp only; split <;> rfl
      · rfl
    · rfl
  have give : ∀ (p : Svc × Cls) t, (giveStep p.1 p.2 t).ledger = t.ledger := by
    intro p t; unfold giveStep; dsimp only; split <;> rfl
  unfold State.holdPhase
  dsimp only
  rw [forEach_keeps State.ledger _ _ want, forEach_keeps State.ledger _ _ take, forEach_keeps State.ledger _ _ give,
    forEach_keeps State.ledger _ reclaimStep fun _ _ => rfl,
    forEach_keeps State.ledger _ keepPhase fun v t => forEach_keeps State.ledger _ _ (fun k u => classStep_ledger u v k) t]

theorem stagePhase_ledger : s.stagePhase.ledger = s.ledger := by
  have call : ∀ v t, (callStep v t).ledger = t.ledger := by
    intro v t; unfold callStep; dsimp only; split
    · split <;> rfl
    · rfl
  unfold State.stagePhase
  split
  · dsimp only
    rw [forEach_keeps State.ledger _ dropStep fun _ _ => rfl,
      forEach_keeps State.ledger _ offerStep fun _ t => by unfold offerStep; split <;> rfl,
      forEach_keeps State.ledger _ _ call,
      forEach_keeps State.ledger _ alwaysStep fun _ t => by unfold alwaysStep; split <;> rfl]
  · rfl

theorem shares_watched : Watched s s.holdPhase.stagePhase := by
  have hl : s.holdPhase.stagePhase.ledger = s.ledger := (stagePhase_ledger _).trans (holdPhase_ledger s)
  refine ⟨by rw [hl], by rw [hl], ((holdPhase_reacts s).trans (.aside (stagePhase_aside _))).loader, ?_⟩
  rw [State.stagePhase_memb, State.holdPhase_memb]

theorem outletPhase_watched : Watched s s.outletPhase := by
  have hw := outletPhase_works (up := True) s
  exact ⟨by rw [ledger_of_apart hw.apart], by rw [ledger_of_apart hw.apart], hw.loader, by rw [hw.memb]⟩

/-- A round of reactions that keeps a MEMBER in MEMBER. -/
structure StaysMember (s t : State) : Prop where
  station : t.station = .member
  reacts : Reacts s t
  watched : Watched s t
  refresh : Timer.atLeast (s.limit Image.tKeep) s.memb.ownLanding = true → t.refreshBusy = true
  lapsing : ∀ n, s.silent n → t.lapsing n

/-- A round of reactions leads from MEMBER to ORPHAN or stays in MEMBER (R64 to R67). -/
theorem react_of_member (hlive : s.live = true) (hst : s.station = .member) (hown : s.ownEntry.isMember = true) :
    Orphaned s s.react ∨ StaysMember s s.react := by
  have hm := isMember_of_station s hst
  cases hlost : s.outletPhase.contactLost with
  | true => exact .inl (react_orphans s hlive hm hown hlost)
  | false =>
    have hcontact : s.outletPhase.contactPhase = s.outletPhase := by
      rw [State.contactPhase, hlost, Bool.and_false, if_neg Bool.false_ne_true]
    have hshares := (outletPhase_watched s).trans (shares_watched s.outletPhase)
    have hframe : s.outletPhase.holdPhase.stagePhase.station = .member := by
      rw [State.station, State.stagePhase_memb, State.holdPhase_memb, State.outletPhase_memb]; exact hst
    have hstation := (framePhase_station _).trans hframe
    rw [react_eq s hlive, hcontact, State.afterContact, leavePhase_of_member _ hstation]
    refine .inr ⟨hstation, (outletPhase_reacts s).trans (afterContact_reacts _), hshares.trans (framePhase_watched _), fun h => ?_, fun n h => ?_⟩
    · refine framePhase_refreshes _ hframe ?_
      rwa [hshares.limit, hshares.ownLanding]
    · exact framePhase_lapsing _ (isMember_of_station _ hframe) (hshares.silent h)

theorem live_of_member {t : State} (h : t.station = .member) (himage : t.loader.image.isSome = true) : t.live = true := by
  rw [State.live, h, himage]; rfl

variable {s} in
theorem StaysMember.react {t : State} (h : StaysMember s t) (himage : s.loader.image.isSome = true)
    (hown : s.ownEntry.isMember = true) : Orphaned s t.react ∨ StaysMember s t.react := by
  have hl : t.live = true := live_of_member h.station (by rw [h.watched.loader]; exact himage)
  have ho : t.ownEntry.isMember = true := by rw [State.ownEntry, h.watched.entry, h.watched.own]; exact hown
  rcases react_of_member t hl h.station ho with horphan | hstays
  · obtain ⟨hst, u, hu, ht⟩ := horphan
    exact .inl ⟨hst, u, h.reacts.trans hu, ht⟩
  · refine .inr ⟨hstays.station, h.reacts.trans hstays.reacts, h.watched.trans hstays.watched, fun hr => hstays.refresh ?_, fun n hn =>
      hstays.lapsing n (h.watched.silent hn)⟩
    rwa [h.watched.limit, h.watched.ownLanding]

theorem rest_ledger : s.rest.ledger = s.ledger := by
  have shed : ∀ v (t : State), (shedShortStep v t).ledger = t.ledger := by
    intro v t; unfold shedShortStep; dsimp only; split <;> rfl
  have spare : s.sparePhase.ledger = s.ledger :=
    forEach_keeps State.ledger serviceClasses (fun p => spareStep p.1 p.2) (fun _ _ => rfl) s
  have h : (if s.live then (forEach services shedShortStep s.sparePhase).observe else s).ledger = s.ledger := by
    split
    · exact (forEach_keeps State.ledger services shedShortStep shed _).trans spare
    · rfl
  exact h

variable {s} in
theorem StaysMember.settled {t : State} (h : StaysMember s t) : StaysMember s t.rest := by
  have hl : t.rest.liu = t.liu := rest_liu t
  refine ⟨(rest_station t).trans h.station, h.reacts.trans (rest_reacts t),
    h.watched.trans ⟨by rw [rest_ledger], by rw [rest_ledger], (rest_reacts t).loader, by rw [rest_memb]⟩, fun hr => ?_,
    fun n hn => lapsing_of_eq hl (by rw [rest_ledger]) (h.lapsing n hn)⟩
  have hbusy := h.refresh hr
  unfold State.refreshBusy State.keyBusy State.txKey at *
  rwa [hl]

/-- An event leads from MEMBER to ORPHAN or leaves the station in MEMBER, while the own entry is MEMBER. -/
theorem settle_of_member (hlive : s.live = true) (hst : s.station = .member) (hown : s.ownEntry.isMember = true) :
    Orphaned s s.settle ∨ StaysMember s s.settle := by
  have himage : s.loader.image.isSome = true := by
    rw [State.live, Bool.and_eq_true] at hlive; exact hlive.1
  have more : ∀ t : State, Orphaned s t ∨ StaysMember s t → Orphaned s t.react ∨ StaysMember s t.react := by
    rintro t (h | h)
    · exact .inl (h.react hown)
    · exact h.react himage hown
  exact (more _ (more _ (more _ (react_of_member s hlive hst hown)))).imp Orphaned.settled StaysMember.settled

end

/-! ### The answer to RESTART -/

section
variable (s : State)

theorem enterHalted_leaves : s.enterHalted.liu.queue = Prune.halted.keeps s.liu.queue ∧ s.enterHalted.ledger.candidates = [] := by
  have hz := liu_of_apart (State.zeroAll_apart (s.enter (.halted false)))
  obtain ⟨hold, e⟩ := prune_eq (s.enter (.halted false)).zeroAll .halted
  unfold State.enterHalted
  dsimp only
  rw [e]
  generalize (s.enter (.halted false)).zeroAll = z at *
  exact ⟨congrArg (fun l : Liu => Prune.halted.keeps l.queue) hz, rfl⟩

theorem restart_eq (h : Claims.Free s) : exec .restart s = .next (Claims.answered s .done []).requestRestart.settle := by
  rw [exec, execRestart, serve_of_free h.1 h.2]; rfl

end

end Sys2Proof.Machine

namespace Sys2Proof.Proofs

open Sys2Proof.Machine Sys2Proof.Claims

theorem refreshFallsDue : RefreshFallsDue := by
  intro s hline hstation hown hstay hbelow
  refine ⟨(s.setOwnLanding (some (s.limit Image.tKeep))).settle, ?_, settle_still (s.setOwnLanding _) hstay, ?_⟩
  · rw [exec, execOwnLandingTimerTKeep, event_of_taken (by rw [hline, hbelow]; rfl)]
  · exact (settle_of_member (s.setOwnLanding (some (s.limit Image.tKeep))) (live_of_onLine s hline) hstation hown).imp
      (fun h => h.1) fun h => ⟨h.station, h.refresh (Timer.atLeast_self _)⟩

theorem silentPeerIsToBeLapsed : SilentPeerIsToBeLapsed := by
  intro s peer hline hpeer hstation hown hstay hmember hbelow
  refine ⟨(s.setSilence peer (some (s.limit Image.tExp))).settle, ?_, settle_still (s.setSilence peer _) hstay, ?_⟩
  · rw [exec, execSilenceTimerTExp, event_of_taken (by rw [hline, hbelow, bne_iff_ne.mpr hpeer]; rfl)]
  · refine (settle_of_member (s.setSilence peer (some (s.limit Image.tExp))) (live_of_onLine s hline) hstation hown).imp
      (fun h => h.1) fun h => ⟨h.station, h.lapsing peer ⟨hpeer, hmember, ?_⟩⟩
    show Timer.atLeast _ (s.ledger.silence.set peer (some (s.limit Image.tExp)))[peer] = true
    rw [Fin.getElem_fin, Vector.getElem_set_self]
    exact Timer.atLeast_self _

/-- Settles O31. -/
theorem silenceIsAnswered : Obligations.SilenceIsAnswered := ⟨refreshFallsDue, silentPeerIsToBeLapsed⟩

/-- Settles O32. -/
theorem restartByState : Obligations.RestartByState := by
  intro s hfree a
  have hrestart : ∀ st : Station, s.station = st → a.station = st := fun _ h => h
  refine ⟨fun h => ?_, fun h => ?_, fun h => ?_⟩
  · rw [Acts, restart_eq s hfree]
    rcases h with h | h | h <;> rw [State.requestRestart, hrestart _ h] <;> rfl
  · rw [Acts, restart_eq s hfree]
    rcases h with h | h <;> rw [State.requestRestart, hrestart _ h] <;> rfl
  · obtain ⟨hqueue, hcand⟩ := enterHalted_leaves (a.setLeave .restart)
    have hmemb := enterHalted_memb (a.setLeave .restart)
    intro u
    refine ⟨?_, congrArg Membership.station hmemb, congrArg Membership.leaveMark hmemb, State.enterHalted_still _, ?_⟩
    · rw [Acts, restart_eq s hfree]
      rcases h with h | h | h <;> rw [State.requestRestart, hrestart _ h]
    · have hu : u.liu.queue = Prune.halted.keeps s.liu.queue := hqueue
      rw [hu]
      exact ⟨rfl, rfl, rfl, rfl, rfl, rfl, hcand⟩

end Sys2Proof.Proofs

namespace Sys2Proof.Machine

/-! ### The spare timers and releasing marks through an event -/

/-- The spare timer of a class and its releasing mark (R86). -/
def State.spareOf (s : State) (v : Svc) (k : Cls) : Timer × Bool := ((s.classHold v k).spareTimer, (s.classHold v k).releasing)

/-- Every spare timer and releasing mark is as it was. -/
def SparesStand (s t : State) : Prop := ∀ v k, t.spareOf v k = s.spareOf v k

section
variable {s t u : State}

theorem SparesStand.refl (s : State) : SparesStand s s := fun _ _ => rfl

theorem SparesStand.trans (h1 : SparesStand s t) (h2 : SparesStand t u) : SparesStand s u := fun v k =>
  (h2 v k).trans (h1 v k)

theorem SparesStand.of_hold (h : t.hold = s.hold) : SparesStand s t := fun v k => by
  simp only [State.spareOf, State.classHold, h]

theorem SparesStand.forEach {α : Type} (l : List α) (f : α → State → State) (h : ∀ a t, SparesStand t (f a t)) (s : State) :
    SparesStand s (forEach l f s) :=
  forEach_inv (SparesStand s) l f (fun a t ht => ht.trans (h a t)) s (.refl s)

theorem SparesStand.ite {a b : State} {p : Prop} [Decidable p] (ha : p → SparesStand s a) (hb : ¬p → SparesStand s b) :
    SparesStand s (if p then a else b) := by
  split
  · next h => exact ha h
  · next h => exact hb h

end

section
variable (s : State)

theorem modHold_sparesStand {v : Svc} {f : ServiceHold → ServiceHold}
    (hf : (f (s.hold.get v)).classes = (s.hold.get v).classes) : SparesStand s (s.modHold v f) := by
  intro w k
  by_cases h : v = w
  · subst h
    simp only [State.spareOf, State.classHold, State.modHold, Per2.get_set_self, hf]
  · simp only [State.spareOf, State.classHold, State.modHold, Per2.get_set_of_ne _ _ h]

theorem modClass_classHold_self (v : Svc) (k : Cls) (f : ClassHold → ClassHold) :
    (s.modClass v k f).classHold v k = f (s.classHold v k) := by
  simp only [State.classHold, State.modClass, State.modHold, Per2.get_set_self, Per4.get_set_self]

theorem modClass_classHold_of_ne {v w : Svc} {k j : Cls} (f : ClassHold → ClassHold) (h : v ≠ w ∨ k ≠ j) :
    (s.modClass v k f).classHold w j = s.classHold w j := by
  by_cases hv : v = w
  · subst hv
    simp only [State.classHold, State.modClass, State.modHold, Per2.get_set_self,
      Per4.get_set_of_ne _ _ (h.resolve_left fun hn => hn rfl)]
  · simp only [State.classHold, State.modClass, State.modHold, Per2.get_set_of_ne _ _ hv]

theorem modClass_sparesStand {v : Svc} {k : Cls} {f : ClassHold → ClassHold}
    (hf : ∀ c, (f c).spareTimer = c.spareTimer ∧ (f c).releasing = c.releasing) : SparesStand s (s.modClass v k f) := by
  intro w j
  by_cases h : v = w ∧ k = j
  · obtain ⟨rfl, rfl⟩ := h
    simp only [State.spareOf, modClass_classHold_self, hf]
  · simp only [State.spareOf, modClass_classHold_of_ne s f (Classical.not_and_iff_not_or_not.mp h)]

theorem presentKeep_sparesStand (v : Svc) (k : Cls) : SparesStand s (s.presentKeep v k) := by
  have take : ∀ keeps normal shortage reclaim, SparesStand s (s.modClass v k (ClassHold.take keeps normal shortage reclaim)) :=
    fun keeps normal shortage reclaim => modClass_sparesStand s fun c => by unfold ClassHold.take; split <;> exact ⟨rfl, rfl⟩
  unfold State.presentKeep
  exact .ite (fun _ => (take _ _ _ _).trans (.of_hold rfl)) fun _ => take _ _ _ _

theorem carry_sparesStand (v : Svc) (k : Cls) : SparesStand s (s.carry v k) := by
  unfold State.carry
  dsimp only
  split
  · exact modClass_sparesStand s fun _ => ⟨rfl, rfl⟩
  · exact modClass_sparesStand s fun _ => ⟨rfl, rfl⟩
  · refine SparesStand.trans (t := s.modClass v .c0 _) ?_ (modHold_sparesStand _ rfl)
    exact modClass_sparesStand s fun _ => ⟨rfl, rfl⟩
  · exact modHold_sparesStand s rfl

theorem classStep_sparesStand (v : Svc) (k : Cls) : SparesStand s (classStep v k s) := by
  have cut : ∀ t : State, SparesStand t (t.cutIfOver v k) := fun t =>
    .ite (fun _ => (SparesStand.of_hold (hold_of_apart (State.keepCut_apart t v k))).trans (presentKeep_sparesStand _ v k))
      fun _ => .refl t
  have pass : ∀ t : State, SparesStand t (t.passIfDue v k) := fun t =>
    .ite (fun _ => .of_hold (hold_of_apart (State.servicePass_apart (t.clearPass v k) v k))) fun _ => .refl t
  exact (((presentKeep_sparesStand s v k).trans (cut _)).trans (pass _)).trans (carry_sparesStand _ v k)

theorem holdPhase_sparesStand : SparesStand s s.holdPhase := by
  unfold State.holdPhase
  refine ((((SparesStand.forEach services keepPhase ?_ s).trans (.forEach services _ ?_ _)).trans
    (.forEach serviceClasses _ ?_ _)).trans (.forEach services _ ?_ _)).trans (.forEach services _ ?_ _)
  · exact fun v t => .forEach _ _ (fun k u => classStep_sparesStand u v k) t
  · exact fun v t => modHold_sparesStand t rfl
  · exact fun p t => .ite (fun _ => .of_hold rfl) fun _ => .refl t
  · intro v t
    unfold takeStep
    refine .ite (fun _ => ?_) fun _ => .refl t
    split
    · exact .ite (fun _ => SparesStand.trans (t := t.placeTake v _ _) (.of_hold rfl) (modHold_sparesStand _ rfl)) fun _ => .refl t
    · exact .refl t
  · intro v t
    unfold wantStep
    refine .ite (fun _ => ?_) fun _ => .refl t
    have hmark : ∀ mark, SparesStand t (t.modHold v fun h => { h with wantMark := mark }) := fun mark => modHold_sparesStand t rfl
    exact .ite (fun _ => (hmark _).trans (.of_hold rfl)) fun _ => hmark _

theorem stagePhase_hold : s.stagePhase.hold = s.hold := by
  have call : ∀ v t, (callStep v t).hold = t.hold := by
    intro v t; unfold callStep; dsimp only; split
    · split <;> rfl
    · rfl
  unfold State.stagePhase
  split
  · dsimp only
    rw [forEach_keeps State.hold _ dropStep fun _ _ => rfl,
      forEach_keeps State.hold _ offerStep fun _ t => by unfold offerStep; split <;> rfl,
      forEach_keeps State.hold _ _ call,
      forEach_keeps State.hold _ alwaysStep fun _ t => by unfold alwaysStep; split <;> rfl]
  · rfl

theorem framePhase_hold : s.framePhase.hold = s.hold := by
  have refresh : ∀ t : State, (refreshStep t).hold = t.hold := by intro t; unfold refreshStep; split <;> rfl
  have self : ∀ t : State, (selfStep t).hold = t.hold := by intro t; unfold selfStep; split <;> rfl
  have key : ∀ t : State, (lapseKeyStep t).hold = t.hold := by
    intro t; unfold lapseKeyStep
    split
    · rfl
    · split
      · rfl
      · split
        · split <;> rfl
        · rfl
  rw [State.framePhase, refresh, key, self]
  split
  · exact forEach_keeps State.hold _ expiryStep (fun n t => by unfold expiryStep; split <;> rfl) s
  · rfl

theorem prune_sparesStand (p : Prune) : SparesStand s (s.prune p) := by
  have ends : SparesStand s (forEach services (fun v t => if (t.liu.queue.take.get v).isSome then t.endTake v else t) s) :=
    .forEach services _ (fun v t => .ite (fun _ => modHold_sparesStand t rfl) fun _ => .refl t) s
  exact ends.trans (.of_hold rfl)

theorem enterOrphan_sparesStand : SparesStand s s.enterOrphan := by
  have hz : SparesStand s ((s.enter .orphan).setFlag .orphaned).zeroAll :=
    .of_hold ((hold_of_apart (State.zeroAll_apart ((s.enter .orphan).setFlag .orphaned))).trans rfl)
  have hp := hz.trans (prune_sparesStand _ .orphan)
  unfold State.enterOrphan
  dsimp only
  generalize State.prune .orphan _ = u at hp
  exact hp.trans (.of_hold rfl)

theorem enterHalted_sparesStand : SparesStand s s.enterHalted := by
  have hz : SparesStand s (s.enter (.halted false)).zeroAll :=
    .of_hold ((hold_of_apart (State.zeroAll_apart (s.enter (.halted false)))).trans rfl)
  have hp := hz.trans (prune_sparesStand _ .halted)
  unfold State.enterHalted
  dsimp only
  generalize State.prune .halted _ = u at hp
  exact hp.trans (.of_hold rfl)

theorem endPause_sparesStand : SparesStand s s.endPause := by
  unfold State.endPause
  exact .ite (fun _ => .of_hold rfl) fun _ => .refl s

theorem leaveLine_hold : s.leaveLine.hold = (s.prune .all).endPause.hold := by
  simp only [State.leaveLine, State.turnLine, State.modLiu, State.modLedger, State.modMemb, State.clearLeaving]

theorem leaveLine_sparesStand : SparesStand s s.leaveLine :=
  ((prune_sparesStand s .all).trans (endPause_sparesStand _)).trans (.of_hold (leaveLine_hold s))

/-- The end of a withdrawal keeps every spare timer and releasing mark, or is a full reset (R72). -/
theorem withdrawalEndStep_spares : (SparesStand s (withdrawalEndStep s) ∧ (s.station = .syncing → (withdrawalEndStep s) = s)) ∨
    (withdrawalEndStep s).live = false := by
  unfold withdrawalEndStep
  split
  · next h =>
    have hst : s.station ≠ .syncing := by
      simp only [Bool.and_eq_true, beq_iff_eq] at h
      rw [h.1.1]; exact Station.noConfusion
    have hleave := leaveLine_sparesStand s
    rw [endWithdrawal_eq]
    generalize s.leaveLine = u at hleave
    split
    · split
      · exact .inl ⟨hleave.trans (.of_hold rfl), fun e => absurd e hst⟩
      · exact .inr (live_fullReset u)
    · exact .inl ⟨hleave, fun e => absurd e hst⟩
  · exact .inl ⟨.refl s, fun _ => rfl⟩

theorem contactPhase_sparesStand : SparesStand s s.contactPhase := .ite (fun _ => enterOrphan_sparesStand s) fun _ => .refl s

/-! ### Which station state follows which -/

theorem enterSyncing_station : s.enterSyncing.station = .syncing := by rw [State.station, enterSyncing_memb]

/-- A round of reactions keeps every spare timer and releasing mark, or enters SYNCING from another state, or is a full reset; and it
does not lead out of SYNCING. -/
theorem react_spares : (SparesStand s s.react ∧ (s.station = .syncing → s.react.station = .syncing)) ∨
    (s.react.station = .syncing ∧ s.station ≠ .syncing) ∨ s.react.live = false := by
  cases hlive : s.live with
  | false => rw [react_of_not_live s hlive]; exact .inl ⟨.refl s, id⟩
  | true =>
    have hstand : SparesStand s s.outletPhase.contactPhase.afterContact :=
      (((SparesStand.of_hold (hold_of_apart s.outletPhase_apart)).trans (contactPhase_sparesStand _)).trans
        (holdPhase_sparesStand _)).trans ((SparesStand.of_hold (stagePhase_hold _)).trans (.of_hold (framePhase_hold _)))
    have hsync : s.station = .syncing → s.outletPhase.contactPhase.afterContact.station = .syncing := by
      intro h
      have ho : s.outletPhase.station = .syncing := (outletPhase_station s).trans h
      rw [afterContact_station, State.contactPhase, isMember_of_station _ ho]
      exact ho
    rw [react_eq s hlive]
    generalize s.outletPhase.contactPhase.afterContact = u at hstand hsync
    rw [State.leavePhase, orphanEndStep]
    by_cases horphan : (u.station == .orphan && !u.ownEntry.isMember && u.boundsZero) = true
    · have hst : u.station = .orphan := by
        simp only [Bool.and_eq_true, beq_iff_eq] at horphan; exact horphan.1.1
      have hns : s.station ≠ .syncing := fun h => by rw [hsync h] at hst; cases hst
      rw [if_pos horphan, State.endOrphan]
      by_cases hmark : u.memb.leaveMark = .none
      · rw [if_pos hmark, withdrawalEndStep, enterSyncing_station]
        exact .inr (.inl ⟨enterSyncing_station u, hns⟩)
      · rw [if_neg hmark]
        rcases withdrawalEndStep_spares u.enterHalted with ⟨h, -⟩ | h
        · exact .inl ⟨(hstand.trans (enterHalted_sparesStand u)).trans h, fun e => absurd e hns⟩
        · exact .inr (.inr h)
    · rw [if_neg horphan]
      rcases withdrawalEndStep_spares u with ⟨h, hkeep⟩ | h
      · exact .inl ⟨hstand.trans h, fun e => by rw [hkeep (hsync e)]; exact hsync e⟩
      · exact .inr (.inr h)

/-- The four rounds of an event that stays live and does not enter SYNCING keep the spare timers and releasing marks. -/
theorem rounds_sparesStand (hlive : s.react.react.react.react.live = true)
    (hst : s.react.react.react.react.station = .syncing → s.station = .syncing) : SparesStand s s.react.react.react.react := by
  have more : ∀ t : State,
      ((SparesStand s t ∧ (s.station = .syncing → t.station = .syncing)) ∨ (t.station = .syncing ∧ s.station ≠ .syncing) ∨
        t.live = false) →
      ((SparesStand s t.react ∧ (s.station = .syncing → t.react.station = .syncing)) ∨
        (t.react.station = .syncing ∧ s.station ≠ .syncing) ∨ t.react.live = false) := by
    rintro t (⟨h, hkeep⟩ | ⟨h, hns⟩ | h)
    · rcases react_spares t with ⟨h', hkeep'⟩ | ⟨h', hns'⟩ | h'
      · exact .inl ⟨h.trans h', fun e => hkeep' (hkeep e)⟩
      · exact .inr (.inl ⟨h', fun e => hns' (hkeep e)⟩)
      · exact .inr (.inr h')
    · rcases react_spares t with ⟨-, hkeep'⟩ | ⟨-, hns'⟩ | h'
      · exact .inr (.inl ⟨hkeep' h, hns⟩)
      · exact absurd h hns'
      · exact .inr (.inr h')
    · rw [react_of_not_live t h]
      exact .inr (.inr h)
  rcases more _ (more _ (more _ (more s (.inl ⟨.refl s, id⟩)))) with ⟨h, -⟩ | ⟨h, hns⟩ | h
  · exact h
  · exact absurd (hst h) hns
  · rw [hlive] at h; cases h

/-! ### The spares judged at the end of an event -/

variable {s}

/-- What a spare is judged by is as it was (R86). -/
structure SpareBasis (s t : State) : Prop where
  memb : t.memb = s.memb
  loader : t.loader = s.loader
  copy : t.ledger.copy = s.ledger.copy
  bands : ∀ v, t.bandsOf v = s.bandsOf v
  outlets : ∀ ch, (t.outlet ch).state = (s.outlet ch).state ∧ (t.outlet ch).desired = (s.outlet ch).desired

theorem SpareBasis.refl (s : State) : SpareBasis s s := ⟨rfl, rfl, rfl, fun _ => rfl, fun _ => ⟨rfl, rfl⟩⟩

theorem SpareBasis.trans {t u : State} (h1 : SpareBasis s t) (h2 : SpareBasis t u) : SpareBasis s u where
  memb := h2.memb.trans h1.memb
  loader := h2.loader.trans h1.loader
  copy := h2.copy.trans h1.copy
  bands v := (h2.bands v).trans (h1.bands v)
  outlets ch := ⟨(h2.outlets ch).1.trans (h1.outlets ch).1, (h2.outlets ch).2.trans (h1.outlets ch).2⟩

theorem Aside.spareBasis {t : State} (h : Aside s t) (hm : t.memb = s.memb) : SpareBasis s t where
  memb := hm
  loader := h.loader
  copy := h.copy
  bands := h.bands
  outlets ch := by rw [outlet_of_outlets h.outlets]; exact ⟨rfl, rfl⟩

theorem bandLimit_of_bandsOf {t : State} {v : Svc} (h : t.bandsOf v = s.bandsOf v) (k : Cls) :
    (t.classHold v k).effBound = (s.classHold v k).effBound ∧ (t.classHold v k).bandLimit = (s.classHold v k).bandLimit := by
  have hk := congrArg (fun p : Per4 (Nat × Nat) => p.get k) h
  simp only [State.bandsOf, Per4.get_map, Prod.mk.injEq] at hk
  exact hk

theorem classChannels_of_loader {t : State} (h : t.loader = s.loader) (v : Svc) (k : Cls) :
    t.classChannels v k = s.classChannels v k := by
  have hin : t.inClass v k = s.inClass v k := funext fun ch => inClass_of_image (by rw [h])
  rw [State.classChannels, hin]; rfl

theorem SpareBasis.ownHolding {t : State} (h : SpareBasis s t) (v : Svc) (k : Cls) : t.ownHolding v k = s.ownHolding v k := by
  have hown : t.own = s.own := by rw [State.own, h.loader]; rfl
  rw [State.ownHolding, State.ownEntry, State.entry, h.copy, hown]; rfl

theorem SpareBasis.target {t : State} (h : SpareBasis s t) (v : Svc) (k : Cls) : t.target v k = s.target v k := by
  have hdemand : t.demand v k = s.demand v k := by
    rw [State.demand, State.sumClass, classChannels_of_loader h.loader, State.demand, State.sumClass]
    simp only [(h.outlets _).1, (h.outlets _).2]
  rw [State.target, hdemand, (bandLimit_of_bandsOf (h.bands v) k).2]; rfl

theorem SpareBasis.svcSetting {t : State} (h : SpareBasis s t) (v : Svc) (f : ServiceCfg → Nat) :
    t.svcSetting v f = s.svcSetting v f := by rw [State.svcSetting, h.loader]; rfl

theorem SpareBasis.spareStands {t : State} (h : SpareBasis s t) (v : Svc) (k : Cls) : t.spareStands v k = s.spareStands v k := by
  rw [State.spareStands, State.station, h.memb, h.target, h.svcSetting, h.ownHolding]; rfl

/-- The spare timer and releasing mark of a class, judged on whether its spare stands (R86). -/
def judgedSpare (stands : Bool) (c : Timer × Bool) : Timer × Bool := (Timer.follow stands c.1, c.2 && stands)

theorem judgedSpare_idem (stands : Bool) (c : Timer × Bool) : judgedSpare stands (judgedSpare stands c) = judgedSpare stands c := by
  cases stands <;> simp [judgedSpare, Timer.follow]

theorem spareStep_spareBasis (v : Svc) (k : Cls) : SpareBasis s (spareStep v k s) := (spareStep_aside s v k).spareBasis rfl

theorem spareStep_self (v : Svc) (k : Cls) : (spareStep v k s).spareOf v k = judgedSpare (s.spareStands v k) (s.spareOf v k) := by
  rw [State.spareOf, spareStep, modClass_classHold_self]; rfl

theorem spareStep_of_ne {v w : Svc} {k j : Cls} (h : v ≠ w ∨ k ≠ j) : (spareStep v k s).spareOf w j = s.spareOf w j := by
  rw [State.spareOf, spareStep, modClass_classHold_of_ne s _ h]; rfl

theorem sparePhase_spareBasis (s : State) : SpareBasis s s.sparePhase :=
  forEach_inv (SpareBasis s) serviceClasses (fun p => spareStep p.1 p.2) (fun _ _ h => h.trans (spareStep_spareBasis _ _)) s (.refl s)

theorem sparePhase_spareOf (s : State) (v : Svc) (k : Cls) :
    s.sparePhase.spareOf v k = judgedSpare (s.spareStands v k) (s.spareOf v k) := by
  let judged := judgedSpare (s.spareStands v k) (s.spareOf v k)
  have hstep : ∀ (p : Svc × Cls) (t : State), SpareBasis s t → (t.spareOf v k = s.spareOf v k ∨ t.spareOf v k = judged) →
      (p = (v, k) → (spareStep p.1 p.2 t).spareOf v k = judged) ∧
      (p ≠ (v, k) → (spareStep p.1 p.2 t).spareOf v k = t.spareOf v k) := by
    refine fun p t hb ht => ⟨?_, fun hne => spareStep_of_ne ?_⟩
    · rintro rfl
      rw [spareStep_self, hb.spareStands]
      rcases ht with e | e <;> rw [e]
      exact judgedSpare_idem _ _
    · exact Classical.not_and_iff_not_or_not.mp fun h => hne (Prod.ext h.1 h.2)
  refine forEach_reaches (P := fun t => t.spareOf v k = judged)
    (I := fun t => SpareBasis s t ∧ (t.spareOf v k = s.spareOf v k ∨ t.spareOf v k = judged))
    (f := fun p : Svc × Cls => spareStep p.1 p.2) (mem_serviceClasses v k) ?_ ?_ ?_ ⟨.refl s, .inl rfl⟩
  · rintro p t ⟨hb, ht⟩
    refine ⟨hb.trans (spareStep_spareBasis _ _), ?_⟩
    by_cases hp : p = (v, k)
    · exact .inr ((hstep p t hb ht).1 hp)
    · rw [(hstep p t hb ht).2 hp]; exact ht
  · rintro p t ⟨hb, ht⟩ hP
    by_cases hp : p = (v, k)
    · exact (hstep p t hb ht).1 hp
    · rw [(hstep p t hb ht).2 hp]; exact hP
  · exact fun t ⟨hb, ht⟩ => (hstep (v, k) t hb ht).1 rfl

end

end Sys2Proof.Machine

namespace Sys2Proof.Machine

/-! ### What an outlet's change leaves of `State.still` -/

theorem modifyAt_map_set {α β : Type} {n : Nat} (g : α → β) (i : Fin n) (f : α → α) (v : Vector α n) :
    (modifyAt i f v).map g = (v.map g).set i (g (f v[i])) := Vector.map_set

theorem modOutlet_still_set (s : State) (ch : Chan) (f : Outlet → Outlet) :
    (s.modOutlet ch f).still = { s.still with outlets := s.still.outlets.set ch (f (s.outlet ch)).still } := by
  simp only [State.still, State.modOutlet, modifyAt_map_set, State.outlet]

/-- A flag that no reaction sets shows in `State.still` when an event sets it. -/
theorem setFlag_still {f : Flag} (s : State) (h : f.bit &&& ~~~reactionFlags = f.bit) :
    (s.setFlag f).still = { s.still with otherFlags := s.still.otherFlags ||| f.bit } := by
  have hmask : (s.fru.flags ||| f.bit) &&& ~~~reactionFlags = s.fru.flags &&& ~~~reactionFlags ||| f.bit := by
    rw [BitVec.and_or_distrib_right, h]
  simp only [State.still, State.setFlag, State.modFru, hmask]

/-! ### The spares at the end of an event -/

section
variable (s : State) (v : Svc) (k : Cls)

theorem shedShortStep_spareBasis (w : Svc) : SpareBasis s (shedShortStep w s) := by
  refine (shedShortStep_aside s w).spareBasis ?_
  unfold shedShortStep
  dsimp only
  split <;> rfl

theorem shedShortStep_sparesStand (w : Svc) : SparesStand s (shedShortStep w s) := by
  have marks : ∀ unplaced overrun, SparesStand s (s.modHold w fun h => { h with unplacedTrue := unplaced, overrunTrue := overrun }) :=
    fun _ _ => modHold_sparesStand s rfl
  exact .ite (fun _ => (marks _ _).trans (.of_hold rfl)) fun _ => marks _ _

theorem observe_spareBasis : SpareBasis s s.observe where
  memb := rfl
  loader := rfl
  copy := rfl
  bands _ := rfl
  outlets ch := by
    rw [State.outlet, State.observe_outlets, mapAt_get]
    split <;> exact ⟨rfl, rfl⟩

theorem rest_of_live (hlive : s.live = true) :
    ∃ u, SpareBasis s.sparePhase u ∧ SparesStand s.sparePhase u ∧ s.rest.memb = u.memb ∧ s.rest.loader = u.loader ∧
      s.rest.ledger = u.ledger ∧ s.rest.hold = u.hold ∧ s.rest.outlets = u.outlets := by
  have hshed : SpareBasis s.sparePhase (forEach services shedShortStep s.sparePhase) :=
    forEach_inv (SpareBasis s.sparePhase) _ _ (fun w t h => h.trans (shedShortStep_spareBasis t w)) _ (.refl _)
  have hstand : SparesStand s.sparePhase (forEach services shedShortStep s.sparePhase) :=
    .forEach _ _ (fun w t => shedShortStep_sparesStand t w) _
  have hobserve : ∀ t : State, t.observe.hold = t.hold := fun t => by simp only [State.observe]
  refine ⟨(forEach services shedShortStep s.sparePhase).observe, hshed.trans (observe_spareBasis _),
    hstand.trans (.of_hold (hobserve _)), ?_⟩
  unfold State.rest
  rw [if_pos hlive]
  generalize (forEach services shedShortStep s.sparePhase).observe = u
  exact ⟨rfl, rfl, rfl, rfl, rfl⟩

/-- The end of an event after the spares are judged (R93, R104). -/
theorem rest_judges (hlive : s.live = true) : SpareBasis s.sparePhase s.rest ∧ SparesStand s.sparePhase s.rest := by
  obtain ⟨u, hbasis, hstand, hmemb, hloader, hledger, hhold, houtlets⟩ := rest_of_live s hlive
  refine ⟨hbasis.trans ⟨hmemb, hloader, by rw [hledger], ?_, ?_⟩, hstand.trans (.of_hold hhold)⟩
  · exact fun w => by simp only [State.bandsOf, hhold]
  · exact fun ch => by simp only [State.outlet, houtlets, and_self]

/-- An event that stays live and does not enter SYNCING judges the spares on what it leaves (R76, R86). -/
theorem settle_spareOf (hlive : s.settle.live = true) (hst : s.settle.station = .syncing → s.station = .syncing) :
    s.settle.spareOf v k = judgedSpare (s.settle.spareStands v k) (s.spareOf v k) := by
  have hliveRest : s.settle.live = s.react.react.react.react.live := by
    have hloader : ∀ t : State, t.rest.loader = t.loader := fun t => (rest_reacts t).loader
    rw [State.live, State.live, State.settle, rest_station, hloader]
  have hstation : s.settle.station = s.react.react.react.react.station := rest_station _
  rw [hliveRest] at hlive
  have hround : SparesStand s s.react.react.react.react := rounds_sparesStand s hlive (by rwa [hstation] at hst)
  unfold State.settle
  generalize s.react.react.react.react = u at hlive hround
  obtain ⟨hbasis, hstand⟩ := rest_judges u hlive
  rw [hstand v k, sparePhase_spareOf, ((sparePhase_spareBasis u).trans hbasis).spareStands, hround v k]

end

/-- The blocker of a queue deferred: it stands at the tail, and the deferral is counted (R129). -/
theorem deferBlocker_still (s : State) (v : Svc) (k : Cls) (ch : Chan) :
    (s.deferBlocker v k ch).still = { s.still with
      deferrals := countUp s.fru.counters.deferrals
      outlets := s.still.outlets.set ch { (s.outlet ch).still with deferrals := countUp (s.outlet ch).deferrals } } := by
  have hdefer : ∀ t : State, ((t.countDeferral).markPass v k).still =
      { t.still with deferrals := countUp t.fru.counters.deferrals } := fun _ => rfl
  have houtlet : ∀ f, (s.modQueue v k f).outlet ch = s.outlet ch := fun _ => rfl
  rw [State.deferBlocker, hdefer, modOutlet_still_set, State.modQueue_still, State.modOutlet_fru, State.modQueue_fru, houtlet]
  rfl

end Sys2Proof.Machine

namespace Sys2Proof.Claims

open Machine

theorem holdingTimersExpire : HoldingTimersExpire := by
  intro s v k hacts
  have hreclaim : Timer.below (s.limit Image.tReclaim) (s.hold.get v).reclaimTimer = true →
      Acts (.reclaimTimerExpires v) s
        ((s.modHold v fun h => { h with reclaimTimer := some (s.limit Image.tReclaim) }).setFlag .reclaimLate) := by
    intro h
    rw [Acts, exec, execReclaimTimerExpires, event_of_taken (by rw [hacts, h]; rfl)]
  refine ⟨fun h => ?_, fun h => ⟨hreclaim h, fun hstay => ⟨_, hreclaim h, ?_, ?_⟩⟩⟩
  · rw [Acts, exec, execSpareTimerExpires, event_of_taken (by rw [hacts, h]; rfl)]
  · refine Reacts.flags (settle_reacts (State.setFlag .reclaimLate _) (by exact hstay)) .reclaimLate ?_
    rw [setFlag_flagSet, decide_eq_true rfl, Bool.or_true]
  · refine (settle_still _ (by exact hstay)).trans ?_
    rw [setFlag_still _ (by decide), State.modHold_still]

theorem sparesAreJudged : SparesAreJudged := by
  intro s v k t hlive hstation
  have hjudged : t.spareOf v k = judgedSpare (t.spareStands v k) (s.spareOf v k) := by
    refine settle_spareOf s v k hlive fun e => ?_
    rcases hstation with h | ⟨-, h⟩
    · exact h.symm.trans e
    · exact absurd (h.symm.trans e) Station.noConfusion
  obtain ⟨htimer, hreleasing⟩ := Prod.mk.inj hjudged
  have hstands : t.spareStands v k = true ↔
      t.station.holdsSpares = true ∧ t.target v k + t.svcSetting v ServiceCfg.giveThreshold ≤ t.ownHolding v k := by
    rw [State.spareStands, Bool.and_eq_true, decide_eq_true_eq]
  rw [htimer, hreleasing]
  by_cases h : t.spareStands v k = true
  · rw [if_pos (hstands.mp h), h]
    exact ⟨rfl, Bool.and_true _⟩
  · rw [if_neg fun hn => h (hstands.mpr hn), eq_false_of_ne_true h]
    exact ⟨rfl, Bool.and_false _⟩

theorem blockedRunIsDeferred : BlockedRunIsDeferred := by
  intro s v k ch hacts hblocker htimer
  have hact : Acts (.blockTimerExpires v k) s (s.deferBlocker v k ch) := by
    rw [Acts, exec, execBlockTimerExpires, hblocker]
    exact event_of_taken (by rw [hacts, htimer]; rfl)
  refine ⟨⟨_, hact, ?_, ?_, ?_⟩, fun hstay => ⟨_, hact, ?_⟩⟩
  · exact Per8.get_set_self _ _ _ _
  · exact Per8.get_set_self _ _ _ _
  · have houtlet : (s.deferBlocker v k ch).outlet ch = { s.outlet ch with deferrals := countUp (s.outlet ch).deferrals } :=
      State.modOutlet_outlet_self (s.modQueue v k fun q => ⟨dropChan ch q.members ++ [ch], none, none⟩) ch _
    rw [houtlet]
  · exact (settle_still _ (by exact hstay)).trans (deferBlocker_still s v k ch)

end Sys2Proof.Claims

namespace Sys2Proof.Proofs

open Machine Claims

/-- Settles O33: the spares are judged by the last values of the event, which keeps the timers and marks in its rounds. -/
theorem shareTimersExpire : Obligations.ShareTimersExpire := ⟨holdingTimersExpire, sparesAreJudged, blockedRunIsDeferred⟩

end Sys2Proof.Proofs

namespace Sys2Proof.Machine

theorem OutletCfg.kind_of_modulating {c : OutletCfg} {m : ModulatingCfg} (h : c.modulating? = some m) :
    ∃ w, c.kind = .modulating w m := by
  cases e : c.kind with
  | modulating w m' =>
    rw [OutletCfg.modulating?, e] at h
    obtain rfl := Option.some.inj h
    exact ⟨w, rfl⟩
  | batch w b => rw [OutletCfg.modulating?, e] at h; cases h
  | monitor r => rw [OutletCfg.modulating?, e] at h; cases h

theorem OutletCfg.kind_of_batch {c : OutletCfg} {b : BatchCfg} (h : c.batch? = some b) : ∃ w, c.kind = .batch w b := by
  cases e : c.kind with
  | modulating w m => rw [OutletCfg.batch?, e] at h; cases h
  | batch w b' =>
    rw [OutletCfg.batch?, e] at h
    obtain rfl := Option.some.inj h
    exact ⟨w, rfl⟩
  | monitor r => rw [OutletCfg.batch?, e] at h; cases h

theorem OutletCfg.settleState_of_modulating {c : OutletCfg} {m : ModulatingCfg} (h : c.modulating? = some m) (o : Outlet) :
    OutletCfg.settleState c o = o.settlePulse m := by
  obtain ⟨w, hk⟩ := OutletCfg.kind_of_modulating h
  simp only [OutletCfg.settleState, hk]

theorem OutletCfg.settleState_of_batch {c : OutletCfg} {b : BatchCfg} (h : c.batch? = some b) (o : Outlet) :
    OutletCfg.settleState c o = o.settleRun b := by
  obtain ⟨w, hk⟩ := OutletCfg.kind_of_batch h
  simp only [OutletCfg.settleState, hk]

theorem Outlet.settlePulse_state (m : ModulatingCfg) (o : Outlet) : (o.settlePulse m).state = o.state := by
  unfold Outlet.settlePulse
  split
  · split <;> rfl
  · split <;> rfl
  all_goals rfl

/-- What follows the end of a run: a pending disable, a repeat, or rest (R170). -/
def Outlet.endRun (b : BatchCfg) (o : Outlet) : Outlet :=
  if o.disablePending then { o with endOfRun := false, state := .off, disablePending := false, repeatFlag := false }
  else if o.repeatFlag then Outlet.beginRun b { o with endOfRun := false }
  else { o with endOfRun := false }

theorem Outlet.settleRun_of_end (b : BatchCfg) {o : Outlet} (h : o.state = .idle ∧ o.endOfRun = true) :
    o.settleRun b = o.endRun b :=
  if_pos h

theorem Outlet.endRun_leads (b : BatchCfg) (o : Outlet) :
    (o.endRun b).endOfRun = false ∧
    (o.disablePending = true → (o.endRun b).state = .off) ∧
    (o.disablePending = false → o.repeatFlag = true →
      (o.endRun b).state = .waiting ∧ (o.endRun b).runRemaining = 2 * b.runLength) ∧
    (o.disablePending = false → o.repeatFlag = false → (o.endRun b).state = o.state) := by
  cases hoff : o.disablePending <;> cases hrepeat : o.repeatFlag <;> simp [Outlet.endRun, Outlet.beginRun, hoff, hrepeat]

/-- A settling of the outlet's state leaves the valve's timers, command and overrun mark to the valve's own record. -/
theorem OutletCfg.settleState_leaves (c : OutletCfg) (o : Outlet) :
    (OutletCfg.settleState c o).command = o.command ∧ (OutletCfg.settleState c o).drift = o.drift ∧
      (OutletCfg.settleState c o).stroke = o.stroke ∧ (OutletCfg.settleState c o).overrun = o.overrun := by
  unfold OutletCfg.settleState
  split
  · unfold Outlet.settlePulse; repeat' split
    all_goals exact ⟨rfl, rfl, rfl, rfl⟩
  · unfold Outlet.settleRun; dsimp only; repeat' split
    all_goals exact ⟨rfl, rfl, rfl, rfl⟩
  · exact ⟨rfl, rfl, rfl, rfl⟩

end Sys2Proof.Machine

namespace Sys2Proof.Proofs

open Machine Claims

/-- Settles O36: a changed grant leaves the record that `OutletCfg.granted` gives. -/
theorem grantChangeStartsAStroke : Obligations.GrantChangeStartsAStroke := by
  intro s ch c g hc hne o o'
  have ho' : o' = OutletCfg.granted c s.pins.inPosition[ch] g o := setGrant_outlet_self s hc hne
  rw [ho']
  refine ⟨OutletCfg.granted_grant c _ g o, fun p hp => setGrant_outlet_of_ne s hp, fun w hw hrated => ?_, fun hnone => ?_⟩
  · intro command
    have hdraw : command = drawCommand w.ratedDraw g := by
      rw [drawCommand, ceilDiv, ← Nat.add_sub_assoc hrated]
    clear_value command
    subst hdraw
    intro seen
    have hg : OutletCfg.granted c s.pins.inPosition[ch] g o =
        if w.feedback && seen && s.pins.inPosition[ch] then
          OutletCfg.settleState c (o.strokeTo w.ratedDraw s.pins.inPosition[ch] g).settleRecord
        else o.strokeTo w.ratedDraw s.pins.inPosition[ch] g := by
      rw [OutletCfg.granted, hw]
      rfl
    rw [hg]
    obtain ⟨hcommand, hdrift, -, -⟩ := OutletCfg.settleState_leaves c (o.strokeTo w.ratedDraw s.pins.inPosition[ch] g).settleRecord
    cases hsettles : w.feedback && seen && s.pins.inPosition[ch] with
    | false =>
      rw [if_neg Bool.false_ne_true]
      exact ⟨rfl, rfl, fun _ => rfl, fun h => by cases h⟩
    | true =>
      rw [if_pos rfl]
      obtain ⟨hgrant, hpeak, hmoving⟩ := OutletCfg.settleState_valve c (o.strokeTo w.ratedDraw s.pins.inPosition[ch] g).settleRecord
      exact ⟨hcommand, hdrift, fun h => absurd h.symm Bool.false_ne_true, fun _ => ⟨hmoving, hpeak⟩⟩
  · rw [OutletCfg.granted, hnone]
    rfl

/-- What a settling does to the valve, whatever the kind of the outlet (R132, R137). -/
theorem settleState_settles (c : OutletCfg) (o : Outlet) :
    let o' := OutletCfg.settleState c o.settleRecord
    o'.moving = false ∧ o'.stroke = none ∧ o'.overrun = false ∧ o'.peak = o.grant ∧ o'.grant = o.grant := by
  obtain ⟨hgrant, hpeak, hmoving⟩ := OutletCfg.settleState_valve c o.settleRecord
  obtain ⟨-, -, hstroke, hoverrun⟩ := OutletCfg.settleState_leaves c o.settleRecord
  exact ⟨hmoving, hstroke, hoverrun, hpeak, hgrant⟩

/-- Settles O37: a settling by the kind of the outlet. -/
theorem settlingSetsTheBound : Obligations.SettlingSetsTheBound := by
  intro s ch c hc o o'
  have ho' : o' = OutletCfg.settleState c o.settleRecord := settleValve_outlet_self s hc
  rw [ho']
  obtain ⟨hmoving, hstroke, hoverrun, hpeak, hgrant⟩ := settleState_settles c o
  refine ⟨hmoving, hstroke, hoverrun, hpeak, hgrant, fun m hm => ?_, fun b hb hidle hend => ?_, fun p hp =>
    settleValve_outlet_of_ne s hp⟩
  · rw [OutletCfg.settleState_of_modulating hm]
    refine ⟨Outlet.settlePulse_state m o.settleRecord, fun hphase hdraw => ?_, fun hphase hzero => ?_⟩
    · have h : o.settleRecord.settlePulse m = { o.settleRecord with pulsePhase := .held, pulseLength := some 0 } := by
        simp only [Outlet.settlePulse, Outlet.settleRecord, hphase, hdraw, if_true]
      rw [h]
      exact ⟨rfl, rfl⟩
    · have h : o.settleRecord.settlePulse m = { o.settleRecord with pulsePhase := .none } := by
        simp only [Outlet.settlePulse, Outlet.settleRecord, hphase, hzero, if_true]
      rw [h]
  · have hrun : OutletCfg.settleState c o.settleRecord = o.settleRecord.endRun b := by
      rw [OutletCfg.settleState_of_batch hb, Outlet.settleRun_of_end b (o := o.settleRecord) ⟨hidle, hend⟩]
    rw [hrun]
    obtain ⟨hmark, hoff, hagain, hrest⟩ := Outlet.endRun_leads b o.settleRecord
    exact ⟨hmark, hoff, hagain, fun h h' => (hrest h h').trans hidle⟩

end Sys2Proof.Proofs

namespace Sys2Proof.Machine

/-! ### What a keep cut does to the records -/

/-- What a keep cut may do to a record: its grant falls, and it comes into no pulse, no ACTIVE and no RUNNING (R146 to R150). -/
structure Outlet.Falls (o o' : Outlet) : Prop where
  grant : o'.grant ≤ o.grant
  pulse : o'.pulsePhase = .opening ∨ o'.pulsePhase = .held → o.pulsePhase = .opening ∨ o.pulsePhase = .held
  active : o'.state = .active → o.state = .active
  running : o'.state = .running → o.state = .running

theorem Outlet.Falls.refl (o : Outlet) : o.Falls o := ⟨Nat.le_refl _, id, id, id⟩

theorem Outlet.Falls.trans {o o' o'' : Outlet} (h1 : o.Falls o') (h2 : o'.Falls o'') : o.Falls o'' :=
  ⟨Nat.le_trans h2.grant h1.grant, h1.pulse ∘ h2.pulse, h1.active ∘ h2.active, h1.running ∘ h2.running⟩

theorem OutletCfg.settleState_falls (c : OutletCfg) (o : Outlet) : o.Falls (OutletCfg.settleState c o) := by
  have held : ∀ m, o.Falls (o.settlePulse m) := by
    intro m
    unfold Outlet.settlePulse
    split
    · next h =>
      split
      · exact ⟨Nat.le_refl _, fun _ => .inl h, id, id⟩
      · exact .refl o
    · split
      · exact ⟨Nat.le_refl _, fun h => (by rcases h with h | h <;> cases h), id, id⟩
      · exact .refl o
    all_goals exact .refl o
  have ended : ∀ b, o.Falls (o.settleRun b) := by
    intro b
    by_cases h : o.state = .idle ∧ o.endOfRun = true
    · rw [Outlet.settleRun_of_end b h, Outlet.endRun]
      split
      · exact ⟨Nat.le_refl _, id, fun e => (by cases e), fun e => (by cases e)⟩
      · split
        · exact ⟨Nat.le_refl _, id, fun e => (by cases e), fun e => (by cases e)⟩
        · exact ⟨Nat.le_refl _, id, id, id⟩
    · rw [Outlet.settleRun, if_neg h]; exact .refl o
  unfold OutletCfg.settleState
  split
  · exact held _
  · exact ended _
  · exact .refl o

theorem OutletCfg.granted_falls (c : OutletCfg) (pin : Bool) {g : Nat} {o : Outlet} (hg : g ≤ o.grant) :
    o.Falls (OutletCfg.granted c pin g o) := by
  unfold OutletCfg.granted
  split
  · dsimp only
    split
    · exact Outlet.Falls.trans (o' := (o.strokeTo _ pin g).settleRecord) ⟨hg, id, id, id⟩ (OutletCfg.settleState_falls c _)
    · exact ⟨hg, id, id, id⟩
  · exact ⟨hg, id, id, id⟩

/-- What a keep cut and its steps do: records fall, and no order gains a channel (R147 to R150). -/
structure Cuts (s t : State) : Prop where
  apart : t.apart = s.apart
  guard : t.app.guard = s.app.guard
  falls : ∀ ch, (s.outlet ch).Falls (t.outlet ch)
  raise : ∀ v k, ∀ ch ∈ t.app.raiseOrder.get v k, ch ∈ s.app.raiseOrder.get v k
  start : ∀ v k, ∀ ch ∈ t.app.startOrder.get v k, ch ∈ s.app.startOrder.get v k

theorem Cuts.refl (s : State) : Cuts s s := ⟨rfl, rfl, fun _ => .refl _, fun _ _ _ => id, fun _ _ _ => id⟩

theorem Cuts.trans {s t u : State} (h1 : Cuts s t) (h2 : Cuts t u) : Cuts s u where
  apart := h2.apart.trans h1.apart
  guard := h2.guard.trans h1.guard
  falls ch := (h1.falls ch).trans (h2.falls ch)
  raise v k ch := h1.raise v k ch ∘ h2.raise v k ch
  start v k ch := h1.start v k ch ∘ h2.start v k ch

theorem Cuts.forEach {α : Type} (l : List α) (f : α → State → State) (h : ∀ a t, Cuts t (f a t)) (s : State) :
    Cuts s (forEach l f s) :=
  forEach_inv (Cuts s) l f (fun a t ht => ht.trans (h a t)) s (.refl s)

theorem Cuts.ite {s a b : State} {p : Prop} [Decidable p] (ha : p → Cuts s a) (hb : ¬p → Cuts s b) :
    Cuts s (if p then a else b) := by
  split
  · next h => exact ha h
  · next h => exact hb h

section
variable {s : State}

theorem Cuts.loader {t : State} (h : Cuts s t) : t.loader = s.loader := loader_of_apart h.apart

theorem Cuts.outletCfg {t : State} (h : Cuts s t) (ch : Chan) : t.outletCfg? ch = s.outletCfg? ch :=
  outletCfg_of_image (by rw [h.loader])

theorem Cuts.guarded {t : State} (h : Cuts s t) (ch : Chan) : t.guarded ch = s.guarded ch := by
  simp only [State.guarded, h.outletCfg, h.guard]

theorem Cuts.classHold {t : State} (h : Cuts s t) (v : Svc) (k : Cls) : t.classHold v k = s.classHold v k := by
  simp only [State.classHold, hold_of_apart h.apart]

theorem Cuts.sumGrants {t : State} (h : Cuts s t) (v : Svc) (k : Cls) : t.sumGrants v k ≤ s.sumGrants v k := by
  rw [State.sumGrants, State.sumGrants, State.sumClass, State.sumClass, classChannels_of_loader h.loader]
  exact sum_map_le fun ch _ => (h.falls ch).grant

theorem Cuts.isOver {t : State} (h : Cuts s t) {v : Svc} {k : Cls} (ht : t.isOver v k = true) : s.isOver v k = true := by
  simp only [State.isOver, decide_eq_true_eq, h.classHold] at ht ⊢
  exact Nat.lt_of_lt_of_le ht (h.sumGrants v k)

theorem Cuts.reverseOrder {t : State} (h : Cuts s t) {v : Svc} {k : Cls} {ch : Chan} (ht : ch ∈ t.reverseOrder v k) :
    ch ∈ s.reverseOrder v k := by
  have hrot : t.rotating = s.rotating := by simp only [State.rotating, h.loader]
  rw [State.reverseOrder, hrot, classChannels_of_loader h.loader] at ht
  rw [State.reverseOrder]
  split
  · next hr => rw [if_pos hr] at ht; exact List.mem_reverse.mpr (h.raise v k ch (List.mem_reverse.mp ht))
  · next hr => rwa [if_neg hr] at ht

theorem Cuts.trimmable {t : State} (h : Cuts s t) {ch : Chan} (ht : t.trimmable ch = true) : s.trimmable ch = true := by
  unfold State.trimmable at ht ⊢
  rw [h.outletCfg] at ht
  cases hc : s.outletCfg? ch with
  | none => rw [hc] at ht; exact ht
  | some c =>
    rw [hc] at ht
    dsimp only at ht ⊢
    cases hk : c.kind with
    | modulating w m =>
      rw [hk] at ht
      exact beq_iff_eq.mpr ((h.falls ch).active (beq_iff_eq.mp ht))
    | batch w b => rw [hk] at ht; exact ht
    | monitor r => rfl

end

section
variable (s : State)

theorem modOutlet_cuts {ch : Chan} {f : Outlet → Outlet} (h : (s.outlet ch).Falls (f (s.outlet ch))) : Cuts s (s.modOutlet ch f) where
  apart := rfl
  guard := rfl
  falls p := by
    by_cases hp : ch = p
    · subst hp; rw [State.modOutlet_outlet_self]; exact h
    · rw [State.modOutlet_outlet_of_ne _ _ hp]; exact .refl _
  raise _ _ _ := id
  start _ _ _ := id

/-- What reaches no record and takes channels out of the orders alone. -/
theorem Cuts.quiet {t : State} (hapart : t.apart = s.apart) (hout : t.outlets = s.outlets) (hguard : t.app.guard = s.app.guard)
    (hraise : ∀ v k, ∀ ch ∈ t.app.raiseOrder.get v k, ch ∈ s.app.raiseOrder.get v k)
    (hstart : ∀ v k, ∀ ch ∈ t.app.startOrder.get v k, ch ∈ s.app.startOrder.get v k) : Cuts s t where
  apart := hapart
  guard := hguard
  falls ch := by rw [outlet_of_outlets hout]; exact .refl _
  raise := hraise
  start := hstart

theorem markPass_cuts (v : Svc) (k : Cls) : Cuts s (s.markPass v k) := .quiet s rfl rfl rfl (fun _ _ _ => id) fun _ _ _ => id

theorem modQueue_cuts (v : Svc) (k : Cls) (f : WaitQueue → WaitQueue) : Cuts s (s.modQueue v k f) :=
  .quiet s rfl rfl rfl (fun _ _ _ => id) fun _ _ _ => id

theorem modRaiseOrder_cuts (v : Svc) (k : Cls) {f : List Chan → List Chan} (hf : ∀ l, ∀ ch ∈ f l, ch ∈ l) :
    Cuts s (s.modRaiseOrder v k f) := by
  refine .quiet s rfl rfl rfl (fun w j ch h => ?_) fun _ _ _ => id
  rcases Per8.mem_set h with h | ⟨rfl, rfl, hnew⟩
  · exact h
  · exact hf _ ch hnew

theorem leaveStartOrder_cuts (ch : Chan) : Cuts s (s.leaveStartOrder ch) := by
  unfold State.leaveStartOrder
  split
  · refine .quiet s rfl rfl rfl (fun _ _ _ => id) fun w j p h => ?_
    rcases Per8.mem_set h with h | ⟨rfl, rfl, hnew⟩
    · exact h
    · exact mem_of_mem_dropChan hnew
  · exact .refl s

theorem settleValve_cuts (ch : Chan) : Cuts s (s.settleValve ch) := by
  unfold State.settleValve
  split
  · next c _ =>
    have h : Cuts s (s.modOutlet ch fun o => OutletCfg.settleState c o.settleRecord) :=
      modOutlet_cuts s (.trans (o' := (s.outlet ch).settleRecord) ⟨Nat.le_refl _, id, id, id⟩ (OutletCfg.settleState_falls c _))
    exact .ite (fun _ => h.trans (markPass_cuts _ _ _)) fun _ => h
  · exact .refl s

theorem raiseOrderAfter_sub {ch p : Chan} {g g' : Nat} (hg : g' ≤ g) {l : List Chan} (h : p ∈ raiseOrderAfter ch g g' l) : p ∈ l := by
  unfold raiseOrderAfter at h
  split at h
  · exact mem_of_mem_dropChan h
  · rwa [if_neg (Nat.not_lt.mpr hg)] at h

theorem beforeGrant_cuts (c : OutletCfg) {ch : Chan} {g : Nat} (hg : g ≤ (s.outlet ch).grant) : Cuts s (s.beforeGrant c ch g) := by
  have hraise : Cuts s (if s.rotating then s.modRaiseOrder c.svc c.cls (raiseOrderAfter ch (s.outlet ch).grant g) else s) :=
    .ite (fun _ => modRaiseOrder_cuts s _ _ fun _ _ => raiseOrderAfter_sub hg) fun _ => .refl s
  exact .ite (fun _ => hraise.trans (markPass_cuts _ _ _)) fun _ => hraise

/-- Lowering a grant is a cut. -/
theorem setGrant_cuts {ch : Chan} {g : Nat} (hg : g ≤ (s.outlet ch).grant) : Cuts s (s.setGrant ch g) := by
  by_cases h : (s.outlet ch).grant = g
  · rw [setGrant_of_eq s h]; exact .refl s
  · cases hc : s.outletCfg? ch with
    | none => rw [setGrant_of_none s hc]; exact .refl s
    | some c =>
      have hbefore := beforeGrant_cuts s c hg
      have hout := outlet_of_outlets (ch := ch) (beforeGrant_leaves s c ch g).1
      rw [setGrant_of_ne s hc h]
      split
      · next w _ =>
        have hstroke := hbefore.trans (modOutlet_cuts _ (ch := ch) (f := Outlet.strokeTo w.ratedDraw s.pins.inPosition[ch] g)
          (by rw [hout]; exact ⟨hg, id, id, id⟩))
        exact .ite (fun _ => hstroke.trans (settleValve_cuts _ ch)) fun _ => hstroke
      · exact hbefore.trans (modOutlet_cuts _ (ch := ch) (f := Outlet.reserve g) (by rw [hout]; exact ⟨hg, id, id, id⟩))

theorem setGrant_zero_cuts (ch : Chan) : Cuts s (s.setGrant ch 0) := setGrant_cuts s (Nat.zero_le _)

theorem requeue_cuts (v : Svc) (k : Cls) : Cuts s (s.requeue v k) :=
  .ite (fun _ => (modQueue_cuts s _ _ _).trans (markPass_cuts _ _ _)) fun _ => modQueue_cuts s _ _ _

theorem cutPulse_cuts (ch : Chan) : Cuts s (s.cutPulse ch) := by
  have h : Cuts s (s.modOutlet ch fun o => { o with pulsePhase := .closing, pulseLength := none, desired := 0 }) :=
    modOutlet_cuts s ⟨Nat.le_refl _, fun e => (by rcases e with e | e <;> cases e), id, id⟩
  exact (h.trans (setGrant_zero_cuts _ ch)).trans (.quiet _ rfl rfl rfl (fun _ _ _ => id) fun _ _ _ => id)

theorem suspendRun_cuts (ch : Chan) : Cuts s (s.suspendRun ch) := by
  refine .ite (fun _ => ?_) fun _ => ?_
  · have h : Cuts s (s.modOutlet ch (Outlet.discardRun .off)) :=
      modOutlet_cuts s ⟨Nat.le_refl _, id, fun e => (by cases e), fun e => (by cases e)⟩
    exact (h.trans (setGrant_zero_cuts _ ch)).trans (leaveStartOrder_cuts _ ch)
  · have h : Cuts s (s.modOutlet ch fun o => { o with state := .suspended, suspension := some 0 }) :=
      modOutlet_cuts s ⟨Nat.le_refl _, id, fun e => (by cases e), fun e => (by cases e)⟩
    exact h.trans (setGrant_zero_cuts _ ch)

section
variable (v : Svc) (k : Cls) (ch : Chan)

theorem cutPulseStep_cuts : Cuts s (cutPulseStep v k ch s) := .ite (fun _ => cutPulse_cuts s ch) fun _ => .refl s

theorem trimStep_cuts : Cuts s (trimStep v k ch s) := by
  unfold trimStep
  split
  · exact .ite (fun _ => setGrant_cuts s (Nat.min_le_left _ _)) fun _ => .refl s
  · exact .refl s

theorem closeStep_cuts : Cuts s (closeStep v k ch s) := .ite (fun _ => setGrant_zero_cuts s ch) fun _ => .refl s

theorem cutRunStep_cuts : Cuts s (cutRunStep v k ch s) := .ite (fun _ => suspendRun_cuts s ch) fun _ => .refl s

end

/-! ### The sweeps of a keep cut -/

/-- The station after the pulses are cut (R147). -/
def State.pulsesCut (s : State) (v : Svc) (k : Cls) : State := forEach (s.reverseOrder v k) (cutPulseStep v k) s

/-- The station after the two sweeps (R148). -/
def State.swept (s : State) (v : Svc) (k : Cls) : State :=
  forEach ((s.pulsesCut v k).reverseOrder v k) (closeStep v k)
    (forEach ((s.pulsesCut v k).reverseOrder v k) (trimStep v k) (s.pulsesCut v k))

/-- The station after the runs are cut (R150). -/
def State.runsCut (s : State) (v : Svc) (k : Cls) : State :=
  forEach ((s.swept v k).app.startOrder.get v k).reverse (cutRunStep v k) (s.swept v k)

theorem keepCut_eq (v : Svc) (k : Cls) : s.keepCut v k = (s.runsCut v k).requeue v k := rfl

theorem pulsesCut_cuts (v : Svc) (k : Cls) : Cuts s (s.pulsesCut v k) := .forEach _ _ (fun ch t => cutPulseStep_cuts t v k ch) s

theorem swept_cuts (v : Svc) (k : Cls) : Cuts (s.pulsesCut v k) (s.swept v k) :=
  (Cuts.forEach _ _ (fun ch t => trimStep_cuts t v k ch) _).trans (.forEach _ _ (fun ch t => closeStep_cuts t v k ch) _)

theorem runsCut_cuts (v : Svc) (k : Cls) : Cuts (s.swept v k) (s.runsCut v k) := .forEach _ _ (fun ch t => cutRunStep_cuts t v k ch) _

theorem keepCut_cuts (v : Svc) (k : Cls) : Cuts s (s.keepCut v k) := by
  rw [keepCut_eq]
  exact (((pulsesCut_cuts s v k).trans (swept_cuts s v k)).trans (runsCut_cuts s v k)).trans (requeue_cuts _ v k)

/-! ### What each sweep reaches -/

/-- A channel that a sweep of the cut has dealt with: the class is within its keep, or nothing is granted there that the cut may
take, or what the sweep lowers is not to be found there. -/
def State.Done (v : Svc) (k : Cls) (ch : Chan) (found : State → Prop) (t : State) : Prop :=
  t.isOver v k = false ∨ t.eligible v k ch = false ∨ ¬found t

variable {s} in
theorem Cuts.eligible {t : State} (h : Cuts s t) {v : Svc} {k : Cls} {ch : Chan} (ht : t.eligible v k ch = true) :
    s.eligible v k ch = true := by
  simp only [State.eligible, Bool.and_eq_true, decide_eq_true_eq, h.classHold, h.guarded] at ht ⊢
  exact ⟨Nat.lt_of_lt_of_le ht.1 (h.falls ch).grant, ht.2⟩

variable {s} in
theorem Cuts.done {t : State} {v : Svc} {k : Cls} {ch : Chan} {found : State → Prop} (h : Cuts s t) (hfound : found t → found s)
    (hs : s.Done v k ch found) : t.Done v k ch found := by
  rcases hs with hs | hs | hs
  · exact .inl (eq_false_of_ne_true fun e => by rw [h.isOver e] at hs; cases hs)
  · exact .inr (.inl (eq_false_of_ne_true fun e => by rw [h.eligible e] at hs; cases hs))
  · exact .inr (.inr (hs ∘ hfound))

/-- A sweep deals with each channel it names. -/
theorem forEach_done {v : Svc} {k : Cls} {found : State → Prop} {l : List Chan} {step : Chan → State → State} {ch : Chan}
    (hch : ch ∈ l) (hcuts : ∀ p t, Cuts t (step p t)) (hfound : ∀ {t u}, Cuts t u → found u → found t)
    (hdone : ∀ t, Cuts s t → (step ch t).Done v k ch found) : (forEach l step s).Done v k ch found :=
  forEach_reaches (P := State.Done v k ch found) (I := Cuts s) hch (fun p t ht => ht.trans (hcuts p t))
    (fun p t _ hP => (hcuts p t).done (hfound (hcuts p t)) hP) hdone (.refl s)

/-- A pulse in OPENING or HELD (R147). -/
def State.pulseOpen (ch : Chan) (t : State) : Prop := (t.outlet ch).pulsePhase = .opening ∨ (t.outlet ch).pulsePhase = .held

variable {s} in
theorem not_eligible_of_grant {v : Svc} {k : Cls} {ch : Chan} (h : (s.outlet ch).grant = 0) : s.eligible v k ch = false := by
  rw [State.eligible, h]; rfl

variable {v : Svc} {k : Cls} {ch : Chan}

theorem done_of_skipped {found : State → Prop} {b : Bool} (hb : b = true ↔ found s)
    (h : ¬(s.isOver v k && s.eligible v k ch && b) = true) : s.Done v k ch found := by
  simp only [Bool.and_eq_true, not_and] at h
  rcases Bool.eq_false_or_eq_true (s.isOver v k) with ho | ho
  · rcases Bool.eq_false_or_eq_true (s.eligible v k ch) with he | he
    · exact .inr (.inr fun hf => h ⟨ho, he⟩ (hb.mpr hf))
    · exact .inr (.inl he)
  · exact .inl ho

theorem cutPulseStep_done (hc : (s.outletCfg? ch).isSome = true) : (cutPulseStep v k ch s).Done v k ch (State.pulseOpen ch) := by
  unfold cutPulseStep
  split
  · refine .inr (.inl (not_eligible_of_grant ?_))
    exact setGrant_grant (s.modOutlet ch _) hc
  · next h => exact done_of_skipped s (by simp only [State.pulseOpen, Bool.or_eq_true, beq_iff_eq]) h

theorem closeStep_done (hc : (s.outletCfg? ch).isSome = true) :
    (closeStep v k ch s).Done v k ch (fun t => t.trimmable ch = true) := by
  unfold closeStep
  split
  · exact .inr (.inl (not_eligible_of_grant (setGrant_grant s hc)))
  · next h => exact done_of_skipped s Iff.rfl h

theorem cutRunStep_done (hc : (s.outletCfg? ch).isSome = true) :
    (cutRunStep v k ch s).Done v k ch (fun t => (t.outlet ch).state = .running) := by
  unfold cutRunStep
  split
  · refine .inr (.inl (not_eligible_of_grant ?_))
    unfold State.suspendRun
    split
    · rw [State.leaveStartOrder_outlet]; exact setGrant_grant (s.modOutlet ch _) hc
    · exact setGrant_grant (s.modOutlet ch _) hc
  · next h => exact done_of_skipped s beq_iff_eq h

end

end Sys2Proof.Machine

namespace Sys2Proof.Machine

/-! ### What a keep cut spares -/

section
variable (s : State)

theorem cutPulse_outlet_of_ne {ch p : Chan} (h : p ≠ ch) : (s.cutPulse ch).outlet p = s.outlet p := by
  have hgrant := setGrant_outlet_of_ne
    (s.modOutlet ch fun o => { o with pulsePhase := .closing, pulseLength := none, desired := 0 }) (g := 0) h
  exact hgrant.trans (State.modOutlet_outlet_of_ne s _ h.symm)

theorem suspendRun_outlet_of_ne {ch p : Chan} (h : p ≠ ch) : (s.suspendRun ch).outlet p = s.outlet p := by
  unfold State.suspendRun
  split
  · rw [State.leaveStartOrder_outlet, setGrant_outlet_of_ne _ h, State.modOutlet_outlet_of_ne _ _ h.symm]
  · rw [setGrant_outlet_of_ne _ h, State.modOutlet_outlet_of_ne _ _ h.symm]

@[simp] theorem requeue_outlet (v : Svc) (k : Cls) (p : Chan) : (s.requeue v k).outlet p = s.outlet p := by
  unfold State.requeue
  dsimp only
  split <;> rfl

end

/-- A step of a keep cut deals with its own channel, and with an eligible one of a class over its keep alone (R146, R147). -/
structure CutStep (v : Svc) (k : Cls) (step : Chan → State → State) : Prop where
  cuts (p : Chan) (t : State) : Cuts t (step p t)
  other {p ch : Chan} (t : State) : ch ≠ p → (step p t).outlet ch = t.outlet ch
  skips {p : Chan} {t : State} : (t.isOver v k && t.eligible v k p) = false → step p t = t

section
variable {v : Svc} {k : Cls}

theorem cutPulseStep_cutStep : CutStep v k (cutPulseStep v k) where
  cuts p t := cutPulseStep_cuts t v k p
  other t h := by
    unfold cutPulseStep
    split
    · exact cutPulse_outlet_of_ne t h
    · rfl
  skips h := by rw [cutPulseStep, h, Bool.false_and, if_neg Bool.false_ne_true]

theorem trimStep_cutStep : CutStep v k (trimStep v k) where
  cuts p t := trimStep_cuts t v k p
  other t h := by
    unfold trimStep
    split
    · split
      · exact setGrant_outlet_of_ne t h
      · rfl
    · rfl
  skips h := by
    unfold trimStep
    split
    · rw [h, Bool.false_and, if_neg Bool.false_ne_true]
    · rfl

theorem closeStep_cutStep : CutStep v k (closeStep v k) where
  cuts p t := closeStep_cuts t v k p
  other t h := by
    unfold closeStep
    split
    · exact setGrant_outlet_of_ne t h
    · rfl
  skips h := by rw [closeStep, h, Bool.false_and, if_neg Bool.false_ne_true]

theorem cutRunStep_cutStep : CutStep v k (cutRunStep v k) where
  cuts p t := cutRunStep_cuts t v k p
  other t h := by
    unfold cutRunStep
    split
    · exact suspendRun_outlet_of_ne t h
    · rfl
  skips h := by rw [cutRunStep, h, Bool.false_and, if_neg Bool.false_ne_true]

variable {s : State} {ch : Chan}

/-- The cut need not, or may not, take from the channel. -/
def State.spared (s : State) (v : Svc) (k : Cls) (ch : Chan) : Prop := (s.isOver v k && s.eligible v k ch) = false

theorem Cuts.spared {t : State} (h : Cuts s t) (hs : s.spared v k ch) : t.spared v k ch := by
  refine eq_false_of_ne_true fun ht => ?_
  rw [Bool.and_eq_true] at ht
  rw [State.spared, h.isOver ht.1, h.eligible ht.2] at hs
  cases hs

theorem CutStep.sweep_spares {step : Chan → State → State} (h : CutStep v k step) (l : List Chan) (hs : s.spared v k ch) :
    (forEach l step s).outlet ch = s.outlet ch := by
  refine (forEach_inv (fun t => Cuts s t ∧ t.outlet ch = s.outlet ch) l step (fun p t ht => ?_) s ⟨.refl s, rfl⟩).2
  refine ⟨ht.1.trans (h.cuts p t), ?_⟩
  by_cases hp : ch = p
  · subst hp; rw [h.skips (ht.1.spared hs)]; exact ht.2
  · rw [h.other t hp]; exact ht.2

theorem keepCut_spares (hs : s.spared v k ch) : (s.keepCut v k).outlet ch = s.outlet ch := by
  have hpulses := (pulsesCut_cuts s v k).spared hs
  have htrims := (Cuts.forEach ((s.pulsesCut v k).reverseOrder v k) (trimStep v k)
    (fun p t => trimStep_cuts t v k p) (s.pulsesCut v k)).spared hpulses
  have hswept := (swept_cuts s v k).spared hpulses
  calc (s.keepCut v k).outlet ch
      = (s.runsCut v k).outlet ch := requeue_outlet _ v k ch
    _ = (s.swept v k).outlet ch := cutRunStep_cutStep.sweep_spares _ hswept
    _ = (forEach ((s.pulsesCut v k).reverseOrder v k) (trimStep v k) (s.pulsesCut v k)).outlet ch :=
        closeStep_cutStep.sweep_spares _ htrims
    _ = (s.pulsesCut v k).outlet ch := trimStep_cutStep.sweep_spares _ hpulses
    _ = s.outlet ch := cutPulseStep_cutStep.sweep_spares _ hs

end

/-! ### What a keep cut reaches -/

section
variable (s : State) {v : Svc} {k : Cls} {ch : Chan}

theorem keepCut_pulses_done (hc : (s.outletCfg? ch).isSome = true) (hch : ch ∈ s.reverseOrder v k) :
    (s.pulsesCut v k).Done v k ch (State.pulseOpen ch) :=
  forEach_done s hch (fun p t => cutPulseStep_cuts t v k p) (fun h => (h.falls ch).pulse) fun t ht =>
    cutPulseStep_done t (by rwa [ht.outletCfg])

theorem keepCut_sweep_done (hc : (s.outletCfg? ch).isSome = true) (hch : ch ∈ (s.pulsesCut v k).reverseOrder v k) :
    (s.swept v k).Done v k ch (fun t => t.trimmable ch = true) := by
  have htrims := (pulsesCut_cuts s v k).trans (Cuts.forEach ((s.pulsesCut v k).reverseOrder v k) (trimStep v k)
    (fun p t => trimStep_cuts t v k p) (s.pulsesCut v k))
  exact forEach_done _ hch (fun p t => closeStep_cuts t v k p) (fun h => h.trimmable) fun t ht =>
    closeStep_done t (by rwa [(htrims.trans ht).outletCfg])

theorem keepCut_runs_done (hc : (s.outletCfg? ch).isSome = true) (hch : ch ∈ (s.swept v k).app.startOrder.get v k) :
    (s.runsCut v k).Done v k ch (fun t => (t.outlet ch).state = .running) := by
  have hswept := (pulsesCut_cuts s v k).trans (swept_cuts s v k)
  exact forEach_done _ (List.mem_reverse.mpr hch) (fun p t => cutRunStep_cuts t v k p) (fun h => (h.falls ch).running) fun t ht =>
    cutRunStep_done t (by rwa [(hswept.trans ht).outletCfg])

variable {s} in
/-- Where the class is over its keep and the cut may take from a channel, nothing a sweep lowers is left to be found there. -/
theorem State.Done.not_found {found : State → Prop} (h : s.Done v k ch found) (hover : s.isOver v k = true)
    (helig : s.eligible v k ch = true) : ¬found s := by
  rcases h with h | h | h
  · rw [hover] at h; cases h
  · rw [helig] at h; cases h
  · exact h

theorem not_trimmable {c : OutletCfg} (hc : s.outletCfg? ch = some c) (h : ¬s.trimmable ch = true) :
    (c.modulating?.isSome = true → (s.outlet ch).state ≠ .active) ∧ c.valve?.isSome = true := by
  unfold State.trimmable at h
  rw [hc] at h
  dsimp only at h
  cases hk : c.kind with
  | modulating w m =>
    rw [hk] at h
    exact ⟨fun _ e => h (beq_iff_eq.mpr e), by rw [OutletCfg.valve?, hk]; rfl⟩
  | batch w b =>
    refine ⟨fun hm => ?_, by rw [OutletCfg.valve?, hk]; rfl⟩
    rw [OutletCfg.modulating?, hk] at hm
    cases hm
  | monitor r => rw [hk] at h; exact absurd rfl h

end

end Sys2Proof.Machine

namespace Sys2Proof.Claims

open Machine

theorem cutLowersWhatItMay : CutLowersWhatItMay := by
  intro s v k ch
  refine ⟨((keepCut_cuts s v k).falls ch).grant, fun hduty hguarded => ?_, fun hkeep => ?_⟩
  · rw [keepCut_spares]
    rw [State.spared, State.eligible, hduty, hguarded, Bool.and_self, Bool.not_true, Bool.and_false, Bool.and_false]
  · rw [keepCut_spares]
    rw [State.spared, State.isOver, decide_eq_false (Nat.not_lt.mpr hkeep), Bool.false_and]

theorem cutReachesTheKeep : CutReachesTheKeep := by
  intro s v k
  have hcuts := keepCut_cuts s v k
  have hpulses := pulsesCut_cuts s v k
  have hswept := hpulses.trans (swept_cuts s v k)
  have hruns := hswept.trans (runsCut_cuts s v k)
  have hend := requeue_cuts (s.runsCut v k) v k
  refine Classical.or_iff_not_imp_left.mpr fun hover ch c hc hgrant hopen => ?_
  have hc' : s.outletCfg? ch = some c := (hcuts.outletCfg ch).symm.trans hc
  have hsome : (s.outletCfg? ch).isSome = true := by rw [hc']; rfl
  have hover' : (s.keepCut v k).isOver v k = true := by
    rw [State.isOver, hcuts.classHold]
    exact decide_eq_true (Nat.not_le.mp hover)
  have helig : (s.keepCut v k).eligible v k ch = true := by
    rw [State.eligible, hcuts.classHold, hcuts.guarded, decide_eq_true hgrant]
    rcases hopen with h | h <;> rw [h] <;> simp
  have hlast : Cuts (s.swept v k) (s.keepCut v k) := (runsCut_cuts s v k).trans hend
  refine ⟨fun hch => ?_, fun hch => ?_⟩
  · have hfirst : Cuts (s.pulsesCut v k) (s.keepCut v k) := (swept_cuts s v k).trans hlast
    have hpulse := (hfirst.done (hfirst.falls ch).pulse (keepCut_pulses_done s hsome (hcuts.reverseOrder hch))).not_found hover' helig
    have htrim := (hlast.done hlast.trimmable (keepCut_sweep_done s hsome (hfirst.reverseOrder hch))).not_found hover' helig
    obtain ⟨hactive, hvalve⟩ := not_trimmable _ hc htrim
    exact ⟨fun h => hpulse (.inl h), fun h => hpulse (.inr h), hactive, hvalve⟩
  · exact (hend.done (hend.falls ch).running (keepCut_runs_done s hsome (hlast.start v k ch hch))).not_found hover' helig

end Sys2Proof.Claims

namespace Sys2Proof.Proofs

open Machine Claims

/-- Settles O35: a keep cut takes from eligible outlets alone, and each sweep leaves nothing it may lower while the class is over
its keep. -/
theorem cutSparesTheGuarded : Obligations.CutSparesTheGuarded := ⟨cutLowersWhatItMay, cutReachesTheKeep⟩

end Sys2Proof.Proofs

namespace Sys2Proof.Machine

/-! ### The record after a change of grant -/

theorem OutletCfg.settleState_desired (c : OutletCfg) (o : Outlet) : (OutletCfg.settleState c o).desired = o.desired := by
  unfold OutletCfg.settleState
  split
  · unfold Outlet.settlePulse; repeat' split
    all_goals rfl
  · unfold Outlet.settleRun; dsimp only; repeat' split
    all_goals rfl
  · rfl

theorem OutletCfg.settleState_running (c : OutletCfg) {o : Outlet} (h : o.state = .running) :
    (OutletCfg.settleState c o).state = .running := by
  unfold OutletCfg.settleState
  split
  · rw [Outlet.settlePulse_state, h]
  · rw [Outlet.settleRun, if_neg (by rw [h]; exact fun e => OutletState.noConfusion e.1), h]
  · exact h

section
variable (s : State)

/-- A property of a record that a change of grant keeps, by the record that the change leaves. -/
theorem setGrant_outlet_ind {ch : Chan} {g : Nat} {P : Outlet → Prop} (hsame : P (s.outlet ch))
    (hchanged : ∀ c pin, P (OutletCfg.granted c pin g (s.outlet ch))) : P ((s.setGrant ch g).outlet ch) := by
  by_cases h : (s.outlet ch).grant = g
  · rwa [setGrant_of_eq s h]
  · cases hc : s.outletCfg? ch with
    | none => rwa [setGrant_of_none s hc]
    | some c => rw [setGrant_outlet_self s hc h]; exact hchanged c _

theorem OutletCfg.granted_ind {c : OutletCfg} {pin : Bool} {g : Nat} {o : Outlet} {P : Outlet → Prop}
    (hstroke : ∀ rated, P (o.strokeTo rated pin g)) (hsettle : ∀ rated, P (OutletCfg.settleState c (o.strokeTo rated pin g).settleRecord))
    (hreserve : P (o.reserve g)) : P (OutletCfg.granted c pin g o) := by
  unfold OutletCfg.granted
  split
  · dsimp only
    split
    · exact hsettle _
    · exact hstroke _
  · exact hreserve

theorem setGrant_desired (ch p : Chan) (g : Nat) : ((s.setGrant ch g).outlet p).desired = (s.outlet p).desired := by
  by_cases hp : p = ch
  · subst hp
    exact setGrant_outlet_ind s (P := fun o => o.desired = (s.outlet p).desired) rfl fun c _ =>
      OutletCfg.granted_ind (P := fun o => o.desired = (s.outlet p).desired) (fun _ => rfl)
        (fun _ => OutletCfg.settleState_desired c _) rfl
  · rw [setGrant_outlet_of_ne s hp]

theorem setGrant_peak_le (ch : Chan) (g : Nat) : ((s.setGrant ch g).outlet ch).peak ≤ max (s.outlet ch).peak g :=
  setGrant_outlet_ind s (P := fun o => o.peak ≤ max (s.outlet ch).peak g) (Nat.le_max_left _ _) fun c _ =>
    OutletCfg.granted_ind (P := fun o => o.peak ≤ max (s.outlet ch).peak g) (fun _ => Nat.le_refl _)
      (fun _ => by rw [(OutletCfg.settleState_valve c _).2.1]; exact Nat.le_max_right _ _) (Nat.le_max_right _ _)

theorem setGrant_running {ch : Chan} (g : Nat) (h : (s.outlet ch).state = .running) :
    ((s.setGrant ch g).outlet ch).state = .running :=
  setGrant_outlet_ind s (P := fun o => o.state = .running) h fun c _ =>
    OutletCfg.granted_ind (P := fun o => o.state = .running) (fun _ => h) (fun _ => OutletCfg.settleState_running c h) h

/-! ### A whole raise -/

/-- What a whole raise does before the grant: a run becomes RUNNING, a pulse OPENING (R109, R163, R167). -/
def State.beginRaise (ch : Chan) (s : State) : State :=
  match (s.outlet ch).state with
  | .waiting => (s.modOutlet ch fun o => { o with state := .running }).enterStartOrder ch
  | .suspended => s.modOutlet ch fun o => { o with state := .running, suspension := none }
  | .standby => s.modOutlet ch fun o => { o with pulsePhase := .opening }
  | .off => s
  | .idle => s
  | .active => s
  | .running => s
  | .fault => s

theorem raiseWhole_eq (ch : Chan) : s.raiseWhole ch = (s.beginRaise ch).setGrant ch (s.outlet ch).desired := by
  unfold State.raiseWhole State.beginRaise
  rfl

theorem beginRaise_outlet_of_ne {ch p : Chan} (h : p ≠ ch) : (s.beginRaise ch).outlet p = s.outlet p := by
  unfold State.beginRaise
  split
  · rw [State.enterStartOrder_outlet, State.modOutlet_outlet_of_ne _ _ h.symm]
  · rw [State.modOutlet_outlet_of_ne _ _ h.symm]
  · rw [State.modOutlet_outlet_of_ne _ _ h.symm]
  all_goals rfl

theorem beginRaise_leaves (ch : Chan) : ((s.beginRaise ch).outlet ch).grant = (s.outlet ch).grant ∧
    ((s.beginRaise ch).outlet ch).peak = (s.outlet ch).peak ∧ ((s.beginRaise ch).outlet ch).desired = (s.outlet ch).desired := by
  unfold State.beginRaise
  split
  · rw [State.enterStartOrder_outlet, State.modOutlet_outlet_self]; exact ⟨rfl, rfl, rfl⟩
  · rw [State.modOutlet_outlet_self]; exact ⟨rfl, rfl, rfl⟩
  · rw [State.modOutlet_outlet_self]; exact ⟨rfl, rfl, rfl⟩
  all_goals exact ⟨rfl, rfl, rfl⟩

theorem beginRaise_running {ch : Chan} (h : (s.outlet ch).state = .waiting ∨ (s.outlet ch).state = .suspended) :
    ((s.beginRaise ch).outlet ch).state = .running := by
  rcases h with h | h
  · simp only [State.beginRaise, h, State.enterStartOrder_outlet, State.modOutlet_outlet_self]
  · simp only [State.beginRaise, h, State.modOutlet_outlet_self]

theorem beginRaise_apart (ch : Chan) : (s.beginRaise ch).apart = s.apart := by
  unfold State.beginRaise
  split
  · rw [State.enterStartOrder_apart, State.modOutlet_apart]
  all_goals rfl

theorem beginRaise_outletCfg (ch p : Chan) : (s.beginRaise ch).outletCfg? p = s.outletCfg? p :=
  outletCfg_of_image (by rw [loader_of_apart (beginRaise_apart s ch)])

/-! ### One member of a service pass -/

@[simp] theorem replace_outlet (v : Svc) (k : Cls) (ch p : Chan) : (s.replace v k ch).outlet p = s.outlet p := by
  unfold State.replace
  split
  · split <;> rfl
  · rfl

/-- What one member of a pass comes to: nothing, or a raise of its grant to `g`, which is its desired draw or the largest grant that
the rooms allow (R126, R127). -/
inductive PassRaises (v : Svc) (k : Cls) (ch : Chan) (s t : State) : Prop where
  | none : t.outlets = s.outlets → PassRaises v k ch s t
  | raised (g : Nat) : (s.outletCfg? ch).isSome = true → (t.outlet ch).grant = g →
      (g : Int) - (s.outlet ch).grant ≤ s.keepRoom v k → max 0 ((g : Int) - (s.outlet ch).peak) ≤ s.holdingRoom v k →
      (g = (s.outlet ch).desired ∨ ((s.outlet ch).grant < g ∧ g ≤ (s.outlet ch).desired)) →
      (t.outlet ch).peak ≤ max (s.outlet ch).peak g → (t.outlet ch).desired = (s.outlet ch).desired →
      PassRaises v k ch s t

theorem outletCfg_of_request {ch : Chan} (h : s.request ch ≠ .nothing) : (s.outletCfg? ch).isSome = true := by
  unfold State.request at h
  cases hc : s.outletCfg? ch with
  | none => rw [hc] at h; exact absurd rfl h
  | some c => rfl

theorem largestRaise_rooms {rk rh : Int} {o : Outlet} (h : o.grant < largestRaise rk rh o) :
    ((largestRaise rk rh o : Nat) : Int) - o.grant ≤ rk ∧ max 0 (((largestRaise rk rh o : Nat) : Int) - o.peak) ≤ rh := by
  unfold largestRaise at h ⊢
  split
  · next hn => rw [if_pos hn] at h; omega
  · next hn => rw [if_neg hn] at h; omega

theorem raiseAllowed_iff {rk rh : Int} {g p g' : Nat} :
    raiseAllowed rk rh g p g' = true ↔ (g' : Int) - g ≤ rk ∧ max 0 ((g' : Int) - p) ≤ rh := by
  rw [raiseAllowed, Bool.and_eq_true, decide_eq_true_eq, decide_eq_true_eq]

theorem passMember_some (v : Svc) (k : Cls) (b ch : Chan) : passMember v k (s, some b) ch = (s, some b) := rfl

theorem passMember_raises (v : Svc) (k : Cls) (ch : Chan) : PassRaises v k ch s (passMember v k (s, none) ch).1 := by
  unfold passMember
  dsimp only
  split
  · next least hreq =>
    have hc := outletCfg_of_request s (ch := ch) (by rw [hreq]; exact Request.noConfusion)
    split
    · next h =>
      obtain ⟨hkeep, hhold⟩ := largestRaise_rooms h.1
      refine .raised _ hc ?_ hkeep hhold (.inr ⟨h.1, largestRaise_le_desired h.1⟩) ?_ ?_
      · rw [replace_outlet, setGrant_grant s hc]
      · rw [replace_outlet]; exact setGrant_peak_le s ch _
      · rw [replace_outlet, setGrant_desired]
    · exact .none rfl
  · next whole hreq =>
    have hc := outletCfg_of_request s (ch := ch) (by rw [hreq]; exact Request.noConfusion)
    split
    · next h =>
      obtain ⟨hkeep, hhold⟩ := raiseAllowed_iff.mp h
      obtain ⟨-, hpeak, hdesired⟩ := beginRaise_leaves s ch
      refine .raised _ hc ?_ hkeep hhold (.inl rfl) ?_ ?_
      · rw [replace_outlet, raiseWhole_eq, setGrant_grant _ (by rwa [beginRaise_outletCfg])]
      · rw [replace_outlet, raiseWhole_eq, ← hpeak]; exact setGrant_peak_le _ ch _
      · rw [replace_outlet, raiseWhole_eq, setGrant_desired, hdesired]
    · split <;> exact .none rfl
  · exact .none rfl

theorem passMember_outlet_of_ne (v : Svc) (k : Cls) {ch p : Chan} (stop : Option Chan) (h : p ≠ ch) :
    (passMember v k (s, stop) ch).1.outlet p = s.outlet p := by
  unfold passMember
  split
  · rfl
  · dsimp only
    split
    · split
      · rw [replace_outlet, setGrant_outlet_of_ne s h]
      · rfl
    · split
      · rw [replace_outlet, raiseWhole_eq, setGrant_outlet_of_ne _ h, beginRaise_outlet_of_ne s h]
      · split <;> rfl
    · rfl

end

end Sys2Proof.Machine

namespace Sys2Proof.Machine

/-! ### A service pass over its members -/

section
variable {s : State} {v : Svc} {k : Cls}

/-- A property that each member of a pass keeps, whether the pass has stopped or not, holds at its end. -/
theorem foldl_passMember_inv {P : State → Prop} (l : List Chan)
    (h : ∀ t ch, ch ∈ l → P t → P (passMember v k (t, none) ch).1) (stop : Option Chan) (hs : P s) :
    P (l.foldl (passMember v k) (s, stop)).1 := by
  induction l generalizing s stop with
  | nil => exact hs
  | cons ch rest ih =>
    have hstep : P (passMember v k (s, stop) ch).1 := by
      cases stop with
      | some b => exact hs
      | none => exact h s ch (List.mem_cons_self ..) hs
    exact ih (fun t p hp => h t p (List.mem_cons_of_mem ch hp)) _ hstep

theorem servicePass_outlet (s : State) (v : Svc) (k : Cls) (ch : Chan) :
    (s.servicePass v k).outlet ch = ((s.queue v k).members.foldl (passMember v k) (s, none)).1.outlet ch := rfl

theorem sum_map_le_of_one {l : List Chan} (hl : l.Nodup) {f g : Chan → Nat} {ch : Chan} {d : Nat}
    (hother : ∀ p, p ≠ ch → f p = g p) (hone : f ch ≤ g ch + d) : (l.map f).sum ≤ (l.map g).sum + d := by
  induction l with
  | nil => exact Nat.zero_le _
  | cons p rest ih =>
    obtain ⟨hp, hrest⟩ := List.nodup_cons.mp hl
    simp only [List.map_cons, List.sum_cons]
    by_cases h : p = ch
    · subst h
      have hsame : rest.map f = rest.map g := List.map_congr_left fun q hq => hother q fun e => hp (e ▸ hq)
      rw [hsame]; omega
    · rw [hother p h]
      have := ih hrest
      omega

theorem classChannels_nodup (s : State) (v : Svc) (k : Cls) : (s.classChannels v k).Nodup :=
  List.Pairwise.filter _ (by decide : channels.Nodup)

/-- Where one record alone changes, a sum over the class grows by no more than that record does. -/
theorem sumClass_le_of_one {t : State} {ch : Chan} {f : Outlet → Nat} {d : Nat} (hloader : t.loader = s.loader)
    (hother : ∀ p, p ≠ ch → t.outlet p = s.outlet p) (hone : f (t.outlet ch) ≤ f (s.outlet ch) + d) :
    t.sumClass v k f ≤ s.sumClass v k f + d := by
  rw [State.sumClass, State.sumClass, classChannels_of_loader hloader]
  exact sum_map_le_of_one (classChannels_nodup s v k) (fun p hp => by rw [hother p hp]) hone

theorem rooms_of_apart {t : State} (h : t.apart = s.apart) :
    t.keepRoom v k = (s.classHold v k).keep - (t.sumGrants v k : Int) ∧
    t.holdingRoom v k = (s.ownHolding v k : Int) - s.waitingGive v k - t.sumBounds v k := by
  have hown : t.own = s.own := by simp only [State.own, loader_of_apart h]
  refine ⟨by simp only [State.keepRoom, State.classHold, hold_of_apart h], ?_⟩
  simp only [State.holdingRoom, State.ownHolding, State.ownEntry, State.entry, hown, ledger_of_apart h, State.waitingGive,
    State.queuedGive, State.txGive, liu_of_apart h]

/-- No member of a pass takes a room below 0 (R125). -/
theorem passMember_rooms {ch : Chan} (hkeep : 0 ≤ s.keepRoom v k) (hhold : 0 ≤ s.holdingRoom v k) :
    0 ≤ (passMember v k (s, none) ch).1.keepRoom v k ∧ 0 ≤ (passMember v k (s, none) ch).1.holdingRoom v k := by
  have hapart : (passMember v k (s, none) ch).1.apart = s.apart := passMember_apart v k (s, none) ch
  have hother : ∀ p, p ≠ ch → (passMember v k (s, none) ch).1.outlet p = s.outlet p :=
    fun p hp => passMember_outlet_of_ne s v k none hp
  have hraises := passMember_raises s v k ch
  generalize (passMember v k (s, none) ch).1 = t at *
  have hloader := loader_of_apart hapart
  obtain ⟨hk, hh⟩ := rooms_of_apart (v := v) (k := k) hapart
  rw [hk, hh]
  cases hraises with
  | none houtlets =>
    have hsums : t.sumGrants v k = s.sumGrants v k ∧ t.sumBounds v k = s.sumBounds v k := by
      simp only [State.sumGrants, State.sumBounds, State.sumClass, classChannels_of_loader hloader, State.outlet, houtlets, and_self]
    rw [hsums.1, hsums.2]
    exact ⟨hkeep, hhold⟩
  | raised g hc hgrant hroom hbound hrange hpeak hdesired =>
    have hgrants : t.sumGrants v k ≤ s.sumGrants v k + (g - (s.outlet ch).grant) :=
      sumClass_le_of_one hloader hother (by omega)
    have hbounds : t.sumBounds v k ≤ s.sumBounds v k + (g - (s.outlet ch).peak) :=
      sumClass_le_of_one hloader hother (by omega)
    unfold State.keepRoom at hkeep hroom
    unfold State.holdingRoom at hhold hbound
    omega

theorem passMember_request (s : State) (v : Svc) (k : Cls) (ch : Chan) :
    passMember v k (s, none) ch =
      match s.request ch with
      | .partly least =>
        let g := largestRaise (s.keepRoom v k) (s.holdingRoom v k) (s.outlet ch)
        if (s.outlet ch).grant < g ∧ least ≤ g then ((s.setGrant ch g).replace v k ch, none) else (s, none)
      | .whole batch =>
        if raiseAllowed (s.keepRoom v k) (s.holdingRoom v k) (s.outlet ch).grant (s.outlet ch).peak (s.outlet ch).desired then
          ((s.raiseWhole ch).replace v k ch, none)
        else if batch && s.rotating then (s, some ch) else (s, none)
      | .nothing => (s, none) := rfl

theorem passMember_of_nothing {ch : Chan} (h : s.request ch = .nothing) : passMember v k (s, none) ch = (s, none) := by
  rw [passMember_request, h]

/-- A member raised partly (R126, R128). -/
theorem passMember_partly_grant {ch : Chan} {least : Nat} (h : s.request ch = .partly least) :
    ((passMember v k (s, none) ch).1.outlet ch).grant =
      if (s.outlet ch).grant < largestRaise (s.keepRoom v k) (s.holdingRoom v k) (s.outlet ch) ∧
          least ≤ largestRaise (s.keepRoom v k) (s.holdingRoom v k) (s.outlet ch) then
        largestRaise (s.keepRoom v k) (s.holdingRoom v k) (s.outlet ch)
      else (s.outlet ch).grant := by
  have hc := outletCfg_of_request s (ch := ch) (by rw [h]; exact Request.noConfusion)
  rw [passMember_request, h]
  dsimp only
  split
  · rw [replace_outlet, setGrant_grant s hc]
  · rfl

theorem largestRaise_best {rk rh : Int} (o : Outlet) (hk : 0 ≤ rk) (hh : 0 ≤ rh) :
    ((largestRaise rk rh o : Nat) : Int) = min (o.desired : Int) (min (o.grant + rk) (o.peak + rh)) := by
  rw [largestRaise, if_neg (by omega)]
  omega

/-- A member raised partly, with rooms for it (R125, R126). -/
theorem passMember_partly {ch : Chan} {least : Nat} (h : s.request ch = .partly least) (hkeep : 0 ≤ s.keepRoom v k)
    (hhold : 0 ≤ s.holdingRoom v k) :
    let o := s.outlet ch
    let best : Int := min (o.desired : Int) (min (o.grant + s.keepRoom v k) (o.peak + s.holdingRoom v k))
    (((passMember v k (s, none) ch).1.outlet ch).grant : Int) = if o.grant < best ∧ least ≤ best then best else o.grant := by
  intro o best
  have hbest := largestRaise_best o hkeep hhold
  rw [passMember_partly_grant h]
  change _ = best at hbest
  clear_value best
  subst hbest
  simp only [Int.ofNat_lt, Int.ofNat_le]
  split <;> rfl

/-- A member raised whole (R127). -/
theorem passMember_whole {ch : Chan} {batch : Bool} (h : s.request ch = .whole batch) :
    passMember v k (s, none) ch =
      if raiseAllowed (s.keepRoom v k) (s.holdingRoom v k) (s.outlet ch).grant (s.outlet ch).peak (s.outlet ch).desired then
        ((s.raiseWhole ch).replace v k ch, none)
      else if batch && s.rotating then (s, some ch) else (s, none) := by
  rw [passMember_request, h]

/-! ### The request of a member -/

variable {ch : Chan} {c : OutletCfg}

/-- A member that asks for the whole of its desired draw: a run that waits or is suspended, or a requested pulse (R127). -/
def State.asksWhole (s : State) (ch : Chan) (c : OutletCfg) : Prop :=
  (c.batch?.isSome = true ∧ ((s.outlet ch).state = .waiting ∨ (s.outlet ch).state = .suspended)) ∨
    (c.modulating?.isSome = true ∧ (s.outlet ch).state = .standby ∧ (s.outlet ch).pulsePhase = .requested)

theorem request_of_active (hc : s.outletCfg? ch = some c) {w : ValveCfg} {m : ModulatingCfg} (hk : c.kind = .modulating w m)
    (hst : (s.outlet ch).state = .active) : s.request ch = .partly (if (s.outlet ch).grant = 0 then m.minDraw else 0) := by
  simp only [State.request, hc, hk, hst]

theorem request_of_monitor (hc : s.outletCfg? ch = some c) {r : Nat} (hk : c.kind = .monitor r) : s.request ch = .partly 0 := by
  simp only [State.request, hc, hk]

theorem request_whole_iff (hc : s.outletCfg? ch = some c) :
    (s.asksWhole ch c → s.request ch = .whole c.batch?.isSome) ∧ (∀ b, s.request ch = .whole b → s.asksWhole ch c) := by
  cases hk : c.kind with
  | modulating w m =>
    have hbatch : c.batch? = none := by rw [OutletCfg.batch?, hk]
    have hmod : c.modulating? = some m := by rw [OutletCfg.modulating?, hk]
    simp only [State.asksWhole, hbatch, hmod, State.request, hc, hk, Option.isSome_none, Option.isSome_some, Bool.false_eq_true,
      false_and, true_and, false_or]
    refine ⟨fun ⟨hst, hphase⟩ => by rw [hst]; exact if_pos hphase, fun b h => ?_⟩
    cases hst : (s.outlet ch).state <;> simp only [hst] at h <;> try cases h
    split at h
    · next hphase => exact ⟨rfl, hphase⟩
    · cases h
  | batch w b =>
    have hbatch : c.batch? = some b := by rw [OutletCfg.batch?, hk]
    have hmod : c.modulating? = none := by rw [OutletCfg.modulating?, hk]
    simp only [State.asksWhole, hbatch, hmod, State.request, hc, hk, Option.isSome_none, Option.isSome_some, Bool.false_eq_true,
      false_and, true_and, or_false]
    refine ⟨fun h => if_pos h, fun b h => ?_⟩
    split at h
    · next hst => exact hst
    · cases h
  | monitor r =>
    have hbatch : c.batch? = none := by rw [OutletCfg.batch?, hk]
    have hmod : c.modulating? = none := by rw [OutletCfg.modulating?, hk]
    simp only [State.asksWhole, hbatch, hmod, State.request, hc, hk, Option.isSome_none, Bool.false_eq_true, false_and, or_self,
      false_imp_iff, true_and]
    exact fun b h => by cases h

end

end Sys2Proof.Machine

namespace Sys2Proof.Claims

open Machine

theorem passKeepsTheRooms : PassKeepsTheRooms := by
  intro s v k hkeep hhold
  exact foldl_passMember_inv (P := fun t => 0 ≤ t.keepRoom v k ∧ 0 ≤ t.holdingRoom v k) (s.queue v k).members
    (fun t ch _ ht => passMember_rooms ht.1 ht.2) none ⟨hkeep, hhold⟩

theorem passOnlyRaises : PassOnlyRaises := by
  intro s v k
  refine ⟨fun ch hle => ?_, fun ch hch => ?_⟩
  · have hend := foldl_passMember_inv (v := v) (k := k) (s := s)
      (P := fun t => (t.outlet ch).desired = (s.outlet ch).desired ∧ (s.outlet ch).grant ≤ (t.outlet ch).grant ∧
        (t.outlet ch).grant ≤ (s.outlet ch).desired) (s.queue v k).members ?_ none ⟨rfl, Nat.le_refl _, hle⟩
    · rw [servicePass_outlet]; exact hend.2
    · rintro t p - ⟨hdesired, hlow, hhigh⟩
      by_cases hp : ch = p
      · subst hp
        have hraises := passMember_raises t v k ch
        generalize (passMember v k (t, none) ch).1 = u at hraises ⊢
        cases hraises with
        | none houtlets => simp only [outlet_of_outlets houtlets]; exact ⟨hdesired, hlow, hhigh⟩
        | raised g _ hgrant _ _ hrange _ hdes => rw [hgrant, hdes]; omega
      · rw [passMember_outlet_of_ne t v k none hp]; exact ⟨hdesired, hlow, hhigh⟩
  · rw [servicePass_outlet]
    exact foldl_passMember_inv (P := fun t => t.outlet ch = s.outlet ch) (s.queue v k).members
      (fun t p hp ht => (passMember_outlet_of_ne t v k none (ne_of_mem_of_not_mem hp hch).symm).trans ht) none rfl

theorem servicePass_ends (s : State) (v : Svc) (k : Cls) :
    let r := (s.queue v k).members.foldl (passMember v k) (s, none)
    (s.servicePass v k).outlets = r.1.outlets ∧ ((s.servicePass v k).queue v k).blocker = r.2 := by
  intro r
  refine ⟨rfl, ?_⟩
  have hqueue : (s.servicePass v k).queue v k = WaitQueue.afterPass r.2 (r.1.queue v k) := Per8.get_set_self _ _ _ _
  rw [hqueue]
  unfold WaitQueue.afterPass
  split
  · next b hb =>
    rw [hb]
    split
    · next h => exact h
    · rfl
  · next hb => exact hb.symm

theorem passTakesEachMember : PassTakesEachMember := by
  refine ⟨servicePass_ends, fun v k s b ch => rfl, ?_⟩
  intro s v k ch c hc o rk rh best after o' whole fits
  obtain ⟨hwhole, hwhole'⟩ := request_whole_iff hc
  have hallowed : o.grant = 0 → (raiseAllowed rk rh o.grant o.peak o.desired = true ↔ fits) := by
    intro hzero
    rw [raiseAllowed_iff, hzero, Int.natCast_zero, Int.sub_zero]
  refine ⟨⟨fun w m hk hst hkeep hhold => ?_, fun r hk hkeep hhold => ?_⟩, fun hw hzero => ⟨fun hf => ?_, fun hf => ?_⟩,
    fun hneg hno => ?_, fun p hp => passMember_outlet_of_ne s v k none hp⟩
  · have h := passMember_partly (request_of_active hc hk hst) hkeep hhold
    have hleast : ((if o.grant = 0 then m.minDraw else 0 : Nat) ≤ best) ↔ (o.grant = 0 → (m.minDraw : Int) ≤ best) := by
      have hbest : (0 : Int) ≤ best := by simp only [best]; omega
      split
      · next hz => simp [hz]
      · next hz => simpa [hz] using hbest
    exact h.trans (ite_congr (propext (and_congr_right fun _ => hleast)) (fun _ => rfl) fun _ => rfl)
  · have h := passMember_partly (request_of_monitor hc hk) hkeep hhold
    have hbest : ((0 : Nat) : Int) ≤ best := by simp only [best]; omega
    exact h.trans (ite_congr (propext (and_iff_left hbest)) (fun _ => rfl) fun _ => rfl)
  · have hafter : after = ((s.raiseWhole ch).replace v k ch, none) := by
      rw [show after = _ from passMember_whole (hwhole hw), if_pos ((hallowed hzero).mpr hf)]
    have ho' : o' = ((s.beginRaise ch).setGrant ch o.desired).outlet ch := by
      rw [show o' = after.1.outlet ch from rfl, hafter, replace_outlet, raiseWhole_eq]
    rw [ho']
    refine ⟨setGrant_grant _ (by rw [beginRaise_outletCfg, hc]; rfl), fun hb => setGrant_running _ _ (beginRaise_running s ?_)⟩
    rcases hw with ⟨-, hst⟩ | ⟨hm, -⟩
    · exact hst
    · obtain ⟨m, hm⟩ := Option.isSome_iff_exists.mp hm
      obtain ⟨w, hk⟩ := OutletCfg.kind_of_modulating hm
      rw [OutletCfg.batch?, hk] at hb
      cases hb
  · have hafter : after = if c.batch?.isSome && s.rotating then (s, some ch) else (s, none) := by
      rw [show after = _ from passMember_whole (hwhole hw), if_neg fun h => hf ((hallowed hzero).mp h)]
    have ho' : o' = after.1.outlet ch := rfl
    rw [ho', hafter]
    by_cases hb : c.batch?.isSome = true ∧ s.rotating = true
    · rw [if_pos hb, if_pos (by rw [hb.1, hb.2]; rfl)]; exact ⟨rfl, rfl⟩
    · rw [if_neg hb, if_neg (by rwa [Bool.and_eq_true])]; exact ⟨rfl, rfl⟩
  · have ho' : o' = (passMember v k (s, none) ch).1.outlet ch := rfl
    rw [ho']
    cases hreq : s.request ch with
    | partly least =>
      have hno : ¬(o.grant < largestRaise rk rh o ∧ least ≤ largestRaise rk rh o) := by
        rw [largestRaise, if_pos hneg]; omega
      rw [passMember_request, hreq]
      exact congrArg (fun r : State × Option Chan => r.1.outlet ch) (if_neg hno)
    | whole b =>
      have hzero : o.grant = 0 := hno.resolve_right fun h => h (hwhole' b hreq)
      have hfits : ¬raiseAllowed rk rh o.grant o.peak o.desired = true := by
        rw [hallowed hzero]; simp only [fits]; omega
      rw [passMember_whole hreq, if_neg hfits]
      split <;> rfl
    | nothing => rw [passMember_of_nothing hreq]

end Sys2Proof.Claims

namespace Sys2Proof.Proofs

open Machine Claims

/-- Settles O34: member by member, each raise within the rooms it finds. -/
theorem passRaisesWithinTheRooms : Obligations.PassRaisesWithinTheRooms :=
  ⟨passKeepsTheRooms, passOnlyRaises, passTakesEachMember⟩

end Sys2Proof.Proofs

namespace Sys2Proof.Machine

/-! ### An outlet fault reported -/

section
variable (s : State)

theorem requestWithdraw_still : s.requestWithdraw.still = s.still := by
  have halt : (s.setLeave .withdraw).enterHalted.still = s.still := State.enterHalted_still _
  unfold State.requestWithdraw
  split
  · exact halt
  · exact halt
  · exact halt
  · split <;> rfl
  all_goals rfl

theorem requestWithdraw_leaveMark (h : s.memb.leaveMark ≠ .restart) : s.requestWithdraw.memb.leaveMark ≠ .restart := by
  have halt : (s.setLeave .withdraw).enterHalted.memb.leaveMark ≠ .restart := by
    rw [enterHalted_memb]; exact LeaveMark.noConfusion
  unfold State.requestWithdraw
  split
  · exact halt
  · exact halt
  · exact halt
  · split
    · exact LeaveMark.noConfusion
    · exact h
  all_goals exact h

theorem still_outlet (ch : Chan) : s.still.outlets[ch] = (s.outlet ch).still := Vector.getElem_map _ _

/-- What `State.still` shows of an outlet taken out of use with the fault kind recorded (R118). -/
theorem isolate_still (kind : FaultKind) (ch : Chan) : (s.isolate kind ch).still = { s.still with
    outlets := s.still.outlets.set ch { (s.outlet ch).still with faultKind := some kind, inFault := true } } := by
  have hout : (s.takeOut .fault ch).still =
      { s.still with outlets := s.still.outlets.set ch { (s.outlet ch).still with inFault := true } } := by
    unfold State.takeOut
    rw [State.leaveStartOrder_still, State.leaveQueue_still, State.setGrant_still, modOutlet_still_set]
    rfl
  have hrecord : ((s.takeOut .fault ch).outlet ch).still = { (s.outlet ch).still with inFault := true } := by
    rw [← still_outlet, hout]
    exact Vector.getElem_set_self _
  have hkind : ∀ o : Outlet, ({ o with faultKind := some kind } : Outlet).still = { o.still with faultKind := some kind } :=
    fun _ => rfl
  rw [State.isolate, modOutlet_still_set, hkind, hrecord, hout]
  simp only [Vector.set_set]

/-- A fault reported, as `State.still` shows it (R189). -/
theorem reportFault_still (kind : FaultKind) (ch : Chan) :
    (s.reportFault kind ch).still = Claims.reported s kind ch s.still := by
  have hnoted : ((s.setFlag .outletFault).countOutletFault.modOutlet ch fun o => { o with lastFault := some kind }).still =
      { s.still with
        otherFlags := s.still.otherFlags ||| Flag.bit .outletFault
        outletFaults := countUp s.still.outletFaults
        outlets := s.still.outlets.set ch { (s.outlet ch).still with lastFault := some kind } } := by
    have hcount : ∀ t : State, t.countOutletFault.still = { t.still with outletFaults := countUp t.still.outletFaults } := fun _ => rfl
    rw [modOutlet_still_set, hcount, setFlag_still s (by decide)]
    rfl
  have hself : ((s.setFlag .outletFault).countOutletFault.modOutlet ch fun o => { o with lastFault := some kind }).outlet ch =
      { s.outlet ch with lastFault := some kind } := State.modOutlet_outlet_self _ _ _
  have hresp : ((s.setFlag .outletFault).countOutletFault.modOutlet ch fun o => { o with lastFault := some kind }).fru.responses =
      s.fru.responses := rfl
  unfold State.reportFault State.respond Claims.reported
  generalize (s.setFlag .outletFault).countOutletFault.modOutlet ch (fun o => { o with lastFault := some kind }) = u at *
  simp only [still_outlet, hresp]
  cases s.fru.responses.get kind with
  | note => simp only [hnoted]; rfl
  | isolate =>
    simp only [hself]
    cases hisol : (s.outlet ch).state.isolable with
    | true =>
      simp only [if_true, isolate_still, hnoted, hself, Vector.set_set]
      rfl
    | false => simp only [Bool.false_eq_true, if_false, hnoted]; rfl
  | withdraw => simp only [requestWithdraw_still, hnoted]; rfl

theorem respond_leaveMark (kind : FaultKind) (ch : Chan) (h : s.memb.leaveMark ≠ .restart) :
    (s.respond kind ch).memb.leaveMark ≠ .restart := by
  unfold State.respond
  split
  · exact h
  · split
    · rw [memb_of_apart (State.isolate_apart s kind ch)]; exact h
    · exact h
  · exact requestWithdraw_leaveMark s h

theorem reportFault_leaveMark (kind : FaultKind) (ch : Chan) (h : s.memb.leaveMark ≠ .restart) :
    (s.reportFault kind ch).memb.leaveMark ≠ .restart := respond_leaveMark _ kind ch h

end

end Sys2Proof.Machine

namespace Sys2Proof.Machine

/-! ### The events of an outlet -/

section
variable {s : State} {ch : Chan} {c : OutletCfg}

theorem outletTakes_of {cond : OutletCfg → Outlet → Bool} (hacts : s.acts = true) (hc : s.outletCfg? ch = some c)
    (h : cond c (s.outlet ch) = true) : s.outletTakes ch cond = true := by
  rw [State.outletTakes, hacts, hc]
  exact h

theorem OutletCfg.feedback_of_valve {w : ValveCfg} (h : c.valve? = some w) : c.feedback = w.feedback := by
  rw [OutletCfg.feedback, h]

theorem OutletCfg.strokeTicks_of_valve {w : ValveCfg} (h : c.valve? = some w) : c.strokeTicks = 2 * w.strokeTime := by
  rw [OutletCfg.strokeTicks, h]

theorem OutletCfg.overrunTicks_of_valve {w : ValveCfg} (h : c.valve? = some w) :
    OutletCfg.overrunTicks c = 2 * w.strokeTime + w.strokeTime := by
  rw [OutletCfg.overrunTicks, OutletCfg.strokeTicks_of_valve h, Nat.mul_div_cancel_left _ (by decide : 0 < 2)]

/-- Whether ISOLATE reaches an outlet is decided by its state at the event, whatever its own work before the report. -/
theorem reported_congr {t : State} (hresp : t.fru.responses = s.fru.responses)
    (hisol : (t.outlet ch).state.isolable = (s.outlet ch).state.isolable) (kind : FaultKind) (before : Still) :
    Claims.reported t kind ch before = Claims.reported s kind ch before := by
  unfold Claims.reported
  rw [hresp, hisol]

/-- A fault reported after a change of the record that `State.still` does not show. -/
theorem modOutlet_reportFault_still (s : State) {f : Outlet → Outlet} (hf : (f (s.outlet ch)).still = (s.outlet ch).still)
    (hstate : (f (s.outlet ch)).state = (s.outlet ch).state) (kind : FaultKind) :
    ((s.modOutlet ch f).reportFault kind ch).still = Claims.reported s kind ch s.still := by
  rw [reportFault_still, State.modOutlet_still s hf]
  exact reported_congr (s := s) (t := s.modOutlet ch f) rfl (by rw [State.modOutlet_outlet_self, hstate]) _ _

theorem followLevel_isolable (o : Outlet) : o.followLevel.state.isolable = o.state.isolable := by
  unfold Outlet.followLevel
  split
  · next h => split <;> simp [OutletState.isolable, h]
  · next h => split <;> simp [OutletState.isolable, h]
  · next h => split <;> simp [OutletState.isolable, h]
  all_goals rfl

theorem followGroup_isolable (inUse : Bool) (o : Outlet) : (o.followGroup inUse).state.isolable = o.state.isolable := by
  unfold Outlet.followGroup
  split
  · split
    · rfl
    · split <;> rfl
  · next h => split <;> simp [OutletState.isolable, Outlet.wake, h]
  all_goals rfl

theorem setGrant_isolable (hc : s.outletCfg? ch = some c) (hm : c.modulating?.isSome = true) (p : Chan) (g : Nat) :
    ((s.setGrant p g).outlet ch).state.isolable = (s.outlet ch).state.isolable := by
  by_cases hp : ch = p
  · subst hp
    by_cases h : (s.outlet ch).grant = g
    · rw [setGrant_of_eq s h]
    · obtain ⟨m, hm⟩ := Option.isSome_iff_exists.mp hm
      rw [setGrant_outlet_self s hc h]
      exact OutletCfg.granted_ind (P := fun o => o.state.isolable = (s.outlet ch).state.isolable) (fun _ => rfl)
        (fun _ => by rw [OutletCfg.settleState_of_modulating hm, Outlet.settlePulse_state]; rfl) rfl
  · rw [setGrant_outlet_of_ne s hp]

/-- A record of one channel changed, or none: what is kept of a channel's record when its own change keeps it. -/
theorem modOutlet_outlet_ind {p : Chan} {f : Outlet → Outlet} {P : Outlet → Prop} (hs : P (s.outlet ch))
    (hf : p = ch → P (s.outlet ch) → P (f (s.outlet ch))) : P ((s.modOutlet p f).outlet ch) := by
  by_cases h : p = ch
  · subst h; rw [State.modOutlet_outlet_self]; exact hf rfl hs
  · rwa [State.modOutlet_outlet_of_ne s _ h]

theorem requeueAll_outlet (t : State) (p : Chan) : t.requeueAll.outlet p = t.outlet p :=
  forEach_inv (fun u => u.outlet p = t.outlet p) serviceClasses (fun q => State.requeue q.1 q.2)
    (fun q u hu => (requeue_outlet u q.1 q.2 p).trans hu) t rfl

/-- The outlets' own work in an event leaves it to a modulating outlet whether ISOLATE reaches it (R102 to R106, R189). -/
theorem outletPhase_isolable (hc : s.outletCfg? ch = some c) (hm : c.modulating?.isSome = true) :
    (s.outletPhase.outlet ch).state.isolable = (s.outlet ch).state.isolable := by
  have kept : ∀ (l : List Chan) (step : Chan → State → State) (s : State), s.outletCfg? ch = some c →
      (∀ p t, Works True t (step p t)) →
      (∀ p t, t.outletCfg? ch = some c → ((step p t).outlet ch).state.isolable = (t.outlet ch).state.isolable) →
      (forEach l step s).outletCfg? ch = some c ∧ ((forEach l step s).outlet ch).state.isolable = (s.outlet ch).state.isolable := by
    intro l step s hs hworks hstep
    refine forEach_inv (fun t => t.outletCfg? ch = some c ∧ (t.outlet ch).state.isolable = (s.outlet ch).state.isolable) l step
      (fun p t ht => ⟨?_, (hstep p t ht.1).trans ht.2⟩) s ⟨hs, rfl⟩
    rw [(hworks p t).outletCfg, ht.1]
  obtain ⟨hc1, h1⟩ := kept channels levelStep s hc (fun p t => levelStep_works t p) fun p t _ => by
    unfold levelStep
    split
    · split
      · exact modOutlet_outlet_ind (P := fun o => o.state.isolable = (t.outlet ch).state.isolable) rfl
          fun _ _ => followLevel_isolable _
      · rfl
    · rfl
  obtain ⟨hc2, h2⟩ := kept channels groupStep _ hc1 (fun p t => groupStep_works t p) fun p t _ => by
    unfold groupStep
    split
    · split
      · split
        · exact modOutlet_outlet_ind (P := fun o => o.state.isolable = (t.outlet ch).state.isolable) rfl
            fun _ _ => followGroup_isolable _ _
        · rfl
      · rfl
      · rfl
    · rfl
  obtain ⟨hc3, h3⟩ := kept channels desiredStep _ hc2 (fun p t => desiredStep_works t p) fun p t _ => by
    unfold desiredStep
    split
    · exact modOutlet_outlet_ind (P := fun o => o.state.isolable = (t.outlet ch).state.isolable) rfl fun _ _ => rfl
    · rfl
  obtain ⟨-, h4⟩ := kept channels lowerStep _ hc3 (fun p t => lowerStep_works t p) fun p t ht => by
    unfold lowerStep
    split
    · exact setGrant_isolable ht hm p _
    · rfl
  rw [State.outletPhase, requeueAll_outlet, h4, h3, h2, h1]

/-- The reading taken by an outlet, as `State.still` shows it (R101, R142, R189). -/
theorem takeDemand_still (mv : Nat) (hc : s.outletCfg? ch = some c) (hm : c.modulating?.isSome = true) :
    (s.takeDemand ch mv).still =
      let o := { (s.outlet ch).still with level := (demandReading mv).getD 0, outOfRange := (demandReading mv).isNone }
      let taken := { s.still with outlets := s.still.outlets.set ch o }
      if (!(s.outlet ch).outOfRange && (demandReading mv).isNone && (s.outlet ch).state != .off) = true then
        Claims.reported s .demandRange ch taken
      else taken := by
  have hread : (s.modOutlet ch (Outlet.takeReading (demandReading mv))).still =
      { s.still with
        outlets := s.still.outlets.set ch
          { (s.outlet ch).still with level := (demandReading mv).getD 0, outOfRange := (demandReading mv).isNone } } :=
    modOutlet_still_set s ch _
  have hstill := (State.outletPhase_still (s.modOutlet ch (Outlet.takeReading (demandReading mv)))).trans hread
  have hisol := outletPhase_isolable (s := s.modOutlet ch (Outlet.takeReading (demandReading mv))) hc hm
  rw [State.modOutlet_outlet_self] at hisol
  have hshown : ∀ u : State, u.still.responses = u.fru.responses := fun _ => rfl
  have hresp : (s.modOutlet ch (Outlet.takeReading (demandReading mv))).outletPhase.fru.responses = s.fru.responses := by
    rw [← hshown, hstill, ← hshown]
  unfold State.takeDemand
  dsimp only
  split
  · rw [reportFault_still, hstill]
    exact reported_congr hresp hisol _ _
  · exact hread

theorem takeDemand_leaveMark (mv : Nat) (h : Claims.Staying s) : Claims.Staying (s.takeDemand ch mv) := by
  unfold State.takeDemand
  dsimp only
  split
  · refine reportFault_leaveMark _ _ _ ?_
    rw [State.outletPhase_memb]; exact h
  · exact h

theorem inPositionUp_of_seen (s : State) (hmoving : (s.outlet ch).moving = true) (hseen : (s.outlet ch).seenDeasserted = true) :
    s.inPositionUp ch = s.settleValve ch := by simp only [State.inPositionUp, hmoving, hseen, if_true]

theorem inPositionUp_of_unseen (s : State) (hmoving : (s.outlet ch).moving = true)
    (hseen : (s.outlet ch).seenDeasserted = false) : s.inPositionUp ch = s := by
  simp only [State.inPositionUp, hmoving, hseen, if_true, Bool.false_eq_true, if_false]

theorem inPositionUp_of_settled (s : State) (hmoving : (s.outlet ch).moving = false) :
    s.inPositionUp ch = s.modOutlet ch fun o => { o with drift := none } := by
  simp only [State.inPositionUp, hmoving, Bool.false_eq_true, if_false]

theorem demandReading_level (mv : Nat) : (demandReading mv).getD 0 =
      (if mv < 400 ∨ 2600 < mv ∨ mv ≤ 500 then 0 else if 2500 ≤ mv then 100 else (mv - 500) / 20) ∧
    (demandReading mv).isNone = decide (mv < 400 ∨ 2600 < mv) := by
  by_cases hspan : mv < 400 ∨ 2600 < mv
  · have h : demandReading mv = none := by
      rw [demandReading, if_pos (by simpa using hspan)]
    rw [h, if_pos (hspan.imp_right .inl), decide_eq_true hspan]
    exact ⟨rfl, rfl⟩
  · have h : demandReading mv = some (if mv ≤ 500 then 0 else if 2500 ≤ mv then 100 else (mv - 500) / 20) := by
      rw [demandReading, if_neg (by simpa using hspan)]
      split
      · rfl
      · split <;> rfl
    rw [h, decide_eq_false hspan]
    refine ⟨ite_congr (propext ?_) (fun _ => rfl) fun _ => rfl, rfl⟩
    omega

end

end Sys2Proof.Machine

namespace Sys2Proof.Proofs

open Machine Claims

/-- Settles O40: the reading is taken, and a mark newly set on an outlet in use is reported. -/
theorem demandSetsTheLevel : Obligations.DemandSetsTheLevel := by
  rintro s ch mv c ⟨hacts, hc, hstay⟩ hm o outOfSpan level taken
  obtain ⟨hlevel, hspan⟩ := demandReading_level mv
  have hexec : exec (.demandInputChange ch mv) s = .next ((s.setDemandPin ch mv).takeDemand ch mv).settle := by
    rw [exec, execDemandInputChange]
    exact event_of_taken (outletTakes_of (s := s.setDemandPin ch mv) hacts hc hm)
  refine ⟨_, hexec, (settle_still _ (takeDemand_leaveMark (s := s.setDemandPin ch mv) mv hstay)).trans ?_⟩
  rw [takeDemand_still (s := s.setDemandPin ch mv) mv hc hm, hlevel, hspan]
  refine ite_congr (propext ?_) (fun _ => ?_) fun _ => rfl
  · simp only [Bool.and_eq_true, Bool.not_eq_true', bne_iff_ne]
    exact ⟨fun h => ⟨h.1.2, h.1.1, h.2⟩, fun h => ⟨⟨h.2.1, h.1⟩, h.2.2⟩⟩
  · exact reported_congr rfl rfl _ _

end Sys2Proof.Proofs

namespace Sys2Proof.Claims

open Machine

theorem idleTimerLeadsToStandby : IdleTimerLeadsToStandby := by
  rintro s ch c n ⟨hacts, hc, -⟩ hm hst htimer
  rw [Acts, exec, execIdleTimerExpires, event_of_taken (outletTakes_of hacts hc ?_)]
  · rfl
  · rw [hm, hst, htimer]; rfl

theorem pulseTimersExpire : PulseTimersExpire := by
  rintro s ch c m ⟨hacts, hc, -⟩ hm
  have hmod : c.modulating?.isSome = true := by rw [hm]; rfl
  have hbind : (s.outletCfg? ch).bind OutletCfg.modulating? = some m := by rw [hc]; exact hm
  have modify : ∀ f g : Outlet → Outlet, (s.modOutlet ch f).modOutlet ch g = s.modOutlet ch (g ∘ f) := by
    intro f g
    simp only [State.modOutlet, modifyAt, Vector.set_set, Fin.getElem_fin, Vector.getElem_set_self, Function.comp]
  refine ⟨fun hst htimer => ?_, fun hphase hlength => ?_⟩
  · have hexec : Acts (.pulseTimerExpires ch) s (s.expirePulse ch m) := by
      rw [Acts, exec, execPulseTimerExpires, event_of_taken (outletTakes_of hacts hc ?_), hbind]
      rw [hmod, hst, htimer]; rfl
    have hmember : s.isMember = true ↔ s.station = .member := beq_iff_eq
    refine ⟨fun hphase hdraw hin => ?_, fun hphase hno => ?_, fun hphase => ?_, fun hphase => ?_⟩
    · have h : s.expirePulse ch m = s.modOutlet ch fun o => { o with pulseTimer := some 0, pulsePhase := .requested } := by
        simp only [State.expirePulse, hphase]
        rw [if_pos ⟨hdraw, hmember.mpr hin⟩, modify]
        rfl
      rwa [h] at hexec
    · have h : s.expirePulse ch m = s.modOutlet ch fun o => { o with pulseTimer := some 0 } := by
        simp only [State.expirePulse, hphase]
        refine if_neg fun hboth => hno.elim (fun e => by omega) fun e => e (hmember.mp hboth.2)
      rwa [h] at hexec
    · have h : s.expirePulse ch m =
          (s.modOutlet ch fun o => { o with pulseTimer := some 0, pulsePhase := .none }).countPulseMissed := by
        simp only [State.expirePulse, hphase]
        rw [modify]
        rfl
      rwa [h] at hexec
    · have h : s.expirePulse ch m = s.modOutlet ch fun o => { o with pulseTimer := some 0 } := by
        rcases hphase with e | e | e <;> simp only [State.expirePulse, e]
      rwa [h] at hexec
  · rw [Acts, exec, execPulseLengthTimerExpires, event_of_taken (outletTakes_of hacts hc ?_)]
    rw [hmod, hphase, hlength]; rfl

end Sys2Proof.Claims

namespace Sys2Proof.Proofs

open Machine Claims

/-- Settles O41: each timer's expiry by the pulse's phase. -/
theorem idleAndPulseTimersExpire : Obligations.IdleAndPulseTimersExpire := ⟨idleTimerLeadsToStandby, pulseTimersExpire⟩

/-- Settles O42: an edge of the in-position input by the valve's motion. -/
theorem inPositionSettles : Obligations.InPositionSettles := by
  rintro s ch c ⟨hacts, hc, -⟩ hfeed o at'
  have htakes : ∀ level, (at' level).outletTakes ch (fun c _ => OutletCfg.feedback c) = true := fun level =>
    outletTakes_of (s := at' level) hacts hc hfeed
  refine ⟨fun hpin => ?_, fun hpin => ?_⟩
  · have hexec : Acts (.inPositionRises ch) s ((at' true).inPositionUp ch) := by
      rw [Acts, exec, execInPositionRises, hpin]
      exact event_of_taken (htakes true)
    refine ⟨fun hmoving hseen => ?_, fun hmoving hseen => ?_, fun hmoving => ?_⟩
    · rwa [inPositionUp_of_seen (at' true) hmoving hseen] at hexec
    · rwa [inPositionUp_of_unseen (at' true) hmoving hseen] at hexec
    · rwa [inPositionUp_of_settled (at' true) hmoving] at hexec
  · have hexec : Acts (.inPositionFalls ch) s ((at' false).modOutlet ch Outlet.inPositionDown) := by
      rw [Acts, exec, execInPositionFalls, hpin]
      exact event_of_taken (htakes false)
    have hmod : ∀ f : Outlet → Outlet, f o = o.inPositionDown →
        (at' false).modOutlet ch Outlet.inPositionDown = (at' false).modOutlet ch f := by
      intro f hf
      simp only [State.modOutlet, modifyAt, Fin.getElem_fin]
      exact congrArg (fun o => { at' false with outlets := s.outlets.set ch o }) hf.symm
    refine ⟨fun hmoving => ?_, fun hmoving => ?_⟩
    · rwa [hmod (fun o => { o with seenDeasserted := true })
        (by simp only [Outlet.inPositionDown, hmoving, if_true])] at hexec
    · rwa [hmod (fun o => { o with seenDeasserted := true, drift := some 0 })
        (by simp only [Outlet.inPositionDown, hmoving, Bool.false_eq_true, if_false])] at hexec

/-- Settles O43: what a stroke's timers settle or report. -/
theorem strokeTimersExpire : Obligations.StrokeTimersExpire := by
  rintro s ch c w ⟨hacts, hc, hstay⟩ hw o
  have hfeed := OutletCfg.feedback_of_valve hw
  have hvalve : c.valve?.isSome = true := by rw [hw]; rfl
  refine ⟨fun hno hmoving => ?_, fun hyes hmoving htimer => ?_, fun hyes hmoving htimer => ?_⟩
  · rw [Acts, exec, execStrokeTimerExpires, event_of_taken (outletTakes_of hacts hc ?_)]
    rw [hvalve, hfeed, hno, show (s.outlet ch).moving = true from hmoving]; rfl
  · have hexec : exec (.strokeOverrun ch) s = .next (s.overrunStroke ch (OutletCfg.overrunTicks c)).settle := by
      rw [exec, execStrokeOverrun, event_of_taken (outletTakes_of hacts hc ?_), hc]
      rw [OutletCfg.overrunTicks_of_valve hw, hfeed, hyes, show (s.outlet ch).moving = true from hmoving, htimer]; rfl
    have hstill : (s.modOutlet ch fun o => { o with stroke := some (OutletCfg.overrunTicks c), overrun := true }).still = s.still :=
      State.modOutlet_still s rfl
    refine ⟨_, hexec, ?_⟩
    rw [State.overrunStroke]
    dsimp only
    cases hover : (s.outlet ch).overrun with
    | true => exact (settle_still (s.modOutlet ch _) hstay).trans (by rw [if_pos rfl]; exact hstill)
    | false =>
      have hreport := modOutlet_reportFault_still (ch := ch) s
        (f := fun o => { o with stroke := some (OutletCfg.overrunTicks c), overrun := true }) rfl rfl .strokeOverrun
      have hmark := reportFault_leaveMark
        (s.modOutlet ch fun o => { o with stroke := some (OutletCfg.overrunTicks c), overrun := true }) .strokeOverrun ch hstay
      rw [if_neg Bool.false_ne_true]
      exact (settle_still _ hmark).trans hreport
  · have hexec : exec (.drift ch) s =
        .next ((s.modOutlet ch fun o => { o with drift := some c.strokeTicks }).reportFault .drift ch).settle := by
      rw [exec, execDrift, event_of_taken (outletTakes_of hacts hc ?_), hc]
      rw [OutletCfg.strokeTicks_of_valve hw, hfeed, hyes, show (s.outlet ch).moving = false from hmoving, htimer]; rfl
    have hreport := modOutlet_reportFault_still (ch := ch) s (f := fun o => { o with drift := some c.strokeTicks }) rfl rfl .drift
    have hmark := reportFault_leaveMark (s.modOutlet ch fun o => { o with drift := some c.strokeTicks }) .drift ch hstay
    exact ⟨_, hexec, (settle_still _ hmark).trans hreport⟩

end Sys2Proof.Proofs

namespace Sys2Proof.Machine

/-! ### What the reactions and the responses keep of one record -/

section
variable {s t : State} {ch : Chan} {P : Outlet → Prop}

/-- What the steps of a record and the meter's marks keep, the reactions keep of it. -/
theorem Reacts.outlet_ind (h : Reacts s t) (hstep : ∀ up o o', Outlet.Step up (s.outletCfg? ch) o o' → P o → P o')
    (hobserve : ∀ o, P o → P o.observe) (hs : P (s.outlet ch)) : P (t.outlet ch) := by
  induction h with
  | refl s => exact hs
  | trans h1 _ ih1 ih2 => exact ih2 (by rw [h1.outletCfg]; exact hstep) (ih1 hstep hs)
  | works h => exact h.keeps ch P (hstep _) hs
  | aside h => rwa [outlet_of_outlets h.outlets]
  | zero s st _ => exact (zeroAll_works (up := False) (s.enter st)).keeps ch P (hstep False) hs
  | observe s =>
    rw [State.outlet, State.observe_outlets, mapAt_get]
    split
    · exact hobserve _ hs
    · exact hs

theorem enterHalted_outlets (s : State) : s.enterHalted.outlets = (s.enter (.halted false)).zeroAll.outlets := by
  obtain ⟨hold, e⟩ := prune_eq (s.enter (.halted false)).zeroAll .halted
  unfold State.enterHalted
  dsimp only
  rw [e]
  generalize (s.enter (.halted false)).zeroAll = z
  rfl

theorem enterHalted_outlet_ind (hstep : ∀ o o', Outlet.Step False (s.outletCfg? ch) o o' → P o → P o') (hs : P (s.outlet ch)) :
    P (s.enterHalted.outlet ch) := by
  rw [outlet_of_outlets (enterHalted_outlets s)]
  exact (zeroAll_works (up := False) (s.enter (.halted false))).keeps ch P hstep hs

theorem requestWithdraw_outlet_ind (hstep : ∀ o o', Outlet.Step False (s.outletCfg? ch) o o' → P o → P o')
    (hs : P (s.outlet ch)) : P (s.requestWithdraw.outlet ch) := by
  have halt : P ((s.setLeave .withdraw).enterHalted.outlet ch) := enterHalted_outlet_ind (s := s.setLeave .withdraw) hstep hs
  unfold State.requestWithdraw
  split
  · exact halt
  · exact halt
  · exact halt
  · split <;> exact hs
  all_goals exact hs

theorem isolate_outlet_of_ne (s : State) (kind : FaultKind) {p : Chan} (h : ch ≠ p) : (s.isolate kind p).outlet ch = s.outlet ch := by
  rw [State.isolate, State.modOutlet_outlet_of_ne _ _ h.symm, State.takeOut, State.leaveStartOrder_outlet,
    State.leaveQueue_outlet, setGrant_outlet_of_ne _ h, State.modOutlet_outlet_of_ne _ _ h.symm]

/-- A report on any channel: a record keeps what the steps of a withdrawal and its own last-fault field leave alone, unless it is
the one that ISOLATE takes out (R189). -/
theorem reportFault_outlet_ind {kind : FaultKind} {p : Chan} (hstep : ∀ o o', Outlet.Step False (s.outletCfg? ch) o o' → P o → P o')
    (hlast : p = ch → ∀ o, P o → P { o with lastFault := some kind })
    (hresp : p = ch → s.fru.responses.get kind ≠ .isolate) (hs : P (s.outlet ch)) : P ((s.reportFault kind p).outlet ch) := by
  have hnoted : P (((s.setFlag .outletFault).countOutletFault.modOutlet p fun o => { o with lastFault := some kind }).outlet ch) :=
    modOutlet_outlet_ind (s := (s.setFlag .outletFault).countOutletFault) hs fun e h => hlast e _ h
  have hcfg : ((s.setFlag .outletFault).countOutletFault.modOutlet p fun o => { o with lastFault := some kind }).outletCfg? ch =
      s.outletCfg? ch := rfl
  have hresp' : ((s.setFlag .outletFault).countOutletFault.modOutlet p fun o => { o with lastFault := some kind }).fru.responses =
      s.fru.responses := rfl
  rw [State.reportFault, State.respond]
  generalize (s.setFlag .outletFault).countOutletFault.modOutlet p (fun o => { o with lastFault := some kind }) = u at *
  rw [hresp']
  cases hkind : s.fru.responses.get kind with
  | note => exact hnoted
  | isolate =>
    have hp : ch ≠ p := fun e => hresp e.symm hkind
    dsimp only
    split
    · rwa [isolate_outlet_of_ne u kind hp]
    · exact hnoted
  | withdraw => exact requestWithdraw_outlet_ind (by rwa [hcfg]) hnoted

/-- A sweep over channels that reaches one of them once. -/
theorem forEach_once {I P : State → Prop} {l : List Chan} (hl : l.Nodup) (hch : ch ∈ l) {f : Chan → State → State}
    (hI : ∀ p t, p ≠ ch → I t → I (f p t)) (hself : ∀ t, I t → P (f ch t)) (hP : ∀ p t, p ≠ ch → P t → P (f p t))
    (hs : I s) : P (forEach l f s) := by
  induction l generalizing s with
  | nil => cases hch
  | cons p rest ih =>
    obtain ⟨hp, hrest⟩ := List.nodup_cons.mp hl
    rcases List.mem_cons.mp hch with rfl | hin
    · have later : ∀ (l : List Chan), ch ∉ l → ∀ u, P u → P (forEach l f u) := by
        intro l
        induction l with
        | nil => exact fun _ _ hu => hu
        | cons q l ihl =>
          intro hq u hu
          rw [List.mem_cons, not_or] at hq
          exact ihl hq.2 _ (hP q u (fun e => hq.1 e.symm) hu)
      exact later rest hp _ (hself s hs)
    · exact ih hrest hin (hI p s (fun e => hp (e ▸ hin)) hs)

end

/-! ### The end of a meter window -/

/-- What the meter keeps of a window that runs (R104, R140). -/
def Outlet.meterMarks (o : Outlet) : Nat × Bool × Bool := (o.largestBound, o.wasOff, o.shut)

theorem Outlet.Step.meterMarks {up : Prop} {c? : Option OutletCfg} {o o' : Outlet} (h : Outlet.Step up c? o o') :
    o'.meterMarks = o.meterMarks := by
  cases h with
  | level c _ _ => unfold Outlet.followLevel; repeat' split
                   all_goals rfl
  | group c v m b _ _ _ => unfold Outlet.followGroup; repeat' split
                           all_goals rfl
  | settle c _ =>
    unfold OutletCfg.settleState
    split
    · unfold Outlet.settlePulse; repeat' split
      all_goals rfl
    · unfold Outlet.settleRun; dsimp only; repeat' split
      all_goals rfl
    · rfl
  | _ => rfl

/-- The parts of the station that the judging of a window's end does not reach, but for its reports. -/
structure WindowFrame (s t : State) : Prop where
  staying : Claims.Staying t
  window : t.meterWindow = s.meterWindow
  copy : t.ledger.copy = s.ledger.copy
  pins : t.pins = s.pins
  responses : t.fru.responses = s.fru.responses
  loader : t.loader = s.loader

theorem WindowFrame.refl {s : State} (h : Claims.Staying s) : WindowFrame s s := ⟨h, rfl, rfl, rfl, rfl, rfl⟩

theorem WindowFrame.trans {s t u : State} (h1 : WindowFrame s t) (h2 : WindowFrame t u) : WindowFrame s u where
  staying := h2.staying
  window := h2.window.trans h1.window
  copy := h2.copy.trans h1.copy
  pins := h2.pins.trans h1.pins
  responses := h2.responses.trans h1.responses
  loader := h2.loader.trans h1.loader

theorem WindowFrame.outletCfg {s t : State} (h : WindowFrame s t) (ch : Chan) : t.outletCfg? ch = s.outletCfg? ch :=
  outletCfg_of_image (by rw [h.loader])

/-- `State.still` shows the frame. -/
theorem WindowFrame.of_still {s t : State} (hstay : Claims.Staying t) (h : t.still.meterWindow = s.still.meterWindow ∧
    t.still.copy = s.still.copy ∧ t.still.pins = s.still.pins ∧ t.still.responses = s.still.responses ∧
    t.still.loader = s.still.loader) : WindowFrame s t := ⟨hstay, h.1, h.2.1, h.2.2.1, h.2.2.2.1, h.2.2.2.2⟩

section
variable (s : State) {ch : Chan} {c : OutletCfg}

theorem reportFault_frame (kind : FaultKind) (p : Chan) (h : Claims.Staying s) : WindowFrame s (s.reportFault kind p) := by
  refine .of_still (reportFault_leaveMark s kind p h) ?_
  rw [reportFault_still]
  exact ⟨rfl, rfl, rfl, rfl, rfl⟩

theorem windowStep_of_none (hc : s.outletCfg? ch = none) : windowStep ch s = s := by simp only [windowStep, hc]

theorem windowStep_of (hc : s.outletCfg? ch = some c) :
    windowStep ch s =
      if OutletCfg.overdraws c (s.outlet ch) then (s.modOutlet ch (OutletCfg.endWindow c)).reportFault .overdraw ch
      else s.modOutlet ch (OutletCfg.endWindow c) := by
  simp only [windowStep, hc]

theorem windowStep_frame (h : Claims.Staying s) (p : Chan) : WindowFrame s (windowStep p s) := by
  cases hc : s.outletCfg? p with
  | none => rw [windowStep_of_none s hc]; exact .refl h
  | some c =>
    have hmod : WindowFrame s (s.modOutlet p (OutletCfg.endWindow c)) := ⟨h, rfl, rfl, rfl, rfl, rfl⟩
    rw [windowStep_of s hc]
    split
    · exact hmod.trans (reportFault_frame _ _ _ hmod.staying)
    · exact hmod

/-- The window's end on another channel: the record keeps what the steps of a withdrawal keep. -/
theorem windowStep_outlet_ind {P : Outlet → Prop} (hstep : ∀ o o', Outlet.Step False (s.outletCfg? ch) o o' → P o → P o')
    {p : Chan} (hp : p ≠ ch) (hs : P (s.outlet ch)) : P ((windowStep p s).outlet ch) := by
  cases hc : s.outletCfg? p with
  | none => rwa [windowStep_of_none s hc]
  | some c =>
    have hmod : P ((s.modOutlet p (OutletCfg.endWindow c)).outlet ch) := by rwa [State.modOutlet_outlet_of_ne _ _ hp]
    rw [windowStep_of s hc]
    split
    · exact reportFault_outlet_ind hstep (fun e => absurd e hp) (fun e => absurd e hp) hmod
    · exact hmod

theorem endWindow_still (c : OutletCfg) (o : Outlet) : (OutletCfg.endWindow c o).still = { o.still with
    metered := o.pulses * c.pulseWeight
    excess := OutletCfg.excessAfter c o (o.pulses * c.pulseWeight)
    pulses := 0 } := by
  have hflow : ∀ o : Outlet, o.ownFlow.still = o.still := by
    intro o
    unfold Outlet.ownFlow
    split
    · split <;> rfl
    · next h => simp [Outlet.still, Outlet.wake, h]
    all_goals rfl
  unfold OutletCfg.endWindow
  dsimp only
  split
  · rw [hflow]; rfl
  · rfl

/-- A report as the record of a channel shows it: nothing on another channel, the last-fault field on its own, and the meter's
figures as they were. -/
theorem reportFault_still_outlet (kind : FaultKind) (p : Chan) :
    (p ≠ ch → ((s.reportFault kind p).outlet ch).still = (s.outlet ch).still) ∧
    ((s.reportFault kind ch).outlet ch).lastFault = some kind ∧
    ((s.reportFault kind ch).outlet ch).metered = (s.outlet ch).metered ∧
    ((s.reportFault kind ch).outlet ch).pulses = (s.outlet ch).pulses ∧
    ((s.reportFault kind ch).outlet ch).excess = (s.outlet ch).excess := by
  have hself : ((s.reportFault kind ch).outlet ch).still = (Claims.reported s kind ch s.still).outlets[ch] := by
    rw [← still_outlet, reportFault_still]
  have hset : (Claims.reported s kind ch s.still).outlets[ch] =
      { (s.outlet ch).still with
        lastFault := some kind
        faultKind := if decide (s.fru.responses.get kind = .isolate) && (s.outlet ch).state.isolable then some kind
          else (s.outlet ch).still.faultKind
        inFault := decide (s.fru.responses.get kind = .isolate) && (s.outlet ch).state.isolable || (s.outlet ch).still.inFault } := by
    rw [← still_outlet]
    exact Vector.getElem_set_self _
  refine ⟨fun hp => ?_, ?_⟩
  · rw [← still_outlet, reportFault_still, ← still_outlet]
    exact Vector.getElem_set_ne p.isLt ch.isLt fun e => hp (Fin.ext e)
  · rw [hset] at hself
    exact ⟨congrArg OutletStill.lastFault hself, congrArg OutletStill.metered hself, congrArg OutletStill.pulses hself,
      congrArg OutletStill.excess hself⟩

theorem outletFault_of_still : s.flagSet .outletFault = s.still.otherFlags.getLsbD 8 := by
  have hmask : (~~~reactionFlags).getLsbD 8 = true := by decide
  rw [flagSet_eq_getLsbD, State.still, BitVec.getLsbD_and, hmask, Bool.and_true]
  rfl

theorem reportFault_flag (kind : FaultKind) (p : Chan) : (s.reportFault kind p).flagSet .outletFault = true := by
  rw [outletFault_of_still, reportFault_still]
  have hbit : (Flag.bit .outletFault).getLsbD 8 = true := by decide
  rw [Claims.reported, BitVec.getLsbD_or, hbit, Bool.or_true]

theorem windowStep_flag (p : Chan) (h : s.flagSet .outletFault = true) : (windowStep p s).flagSet .outletFault = true := by
  cases hc : s.outletCfg? p with
  | none => rwa [windowStep_of_none s hc]
  | some c =>
    rw [windowStep_of s hc]
    split
    · exact reportFault_flag _ _ _
    · exact h

theorem windowStep_still_of_ne {p : Chan} (hp : p ≠ ch) : ((windowStep p s).outlet ch).still = (s.outlet ch).still := by
  cases hc : s.outletCfg? p with
  | none => rw [windowStep_of_none s hc]
  | some c =>
    have hmod : (s.modOutlet p (OutletCfg.endWindow c)).outlet ch = s.outlet ch := State.modOutlet_outlet_of_ne _ _ hp
    rw [windowStep_of s hc]
    split
    · rw [(reportFault_still_outlet _ _ p).1 hp, hmod]
    · rw [hmod]

end

/-- What the end of a window judges of a record: its meter's figures and marks. -/
def Outlet.MeterAs (o o' : Outlet) : Prop := o'.still = o.still ∧ o'.meterMarks = o.meterMarks

/-- The record of a channel once the window's end has judged it (R140, R141). -/
structure WindowJudged (c : OutletCfg) (o : Outlet) (ch : Chan) (t : State) : Prop where
  metered : (t.outlet ch).metered = o.pulses * c.pulseWeight
  pulses : (t.outlet ch).pulses = 0
  excess : (t.outlet ch).excess = OutletCfg.excessAfter c o (o.pulses * c.pulseWeight)
  overdraw : OutletCfg.overdraws c o = true → t.flagSet .outletFault = true ∧ (t.outlet ch).lastFault = some .overdraw

theorem WindowJudged.of_still {c : OutletCfg} {o : Outlet} {ch : Chan} {t u : State} (h : WindowJudged c o ch t)
    (hstill : (u.outlet ch).still = (t.outlet ch).still) (hflag : t.flagSet .outletFault = true → u.flagSet .outletFault = true) :
    WindowJudged c o ch u where
  metered := (congrArg OutletStill.metered hstill).trans h.metered
  pulses := (congrArg OutletStill.pulses hstill).trans h.pulses
  excess := (congrArg OutletStill.excess hstill).trans h.excess
  overdraw hd := ⟨hflag (h.overdraw hd).1, (congrArg OutletStill.lastFault hstill).trans (h.overdraw hd).2⟩

theorem windowStep_judges {s : State} {ch : Chan} {c : OutletCfg} (hc : s.outletCfg? ch = some c) :
    WindowJudged c (s.outlet ch) ch (windowStep ch s) := by
  have hrecord : (s.modOutlet ch (OutletCfg.endWindow c)).outlet ch = OutletCfg.endWindow c (s.outlet ch) :=
    State.modOutlet_outlet_self _ _ _
  have hstill := endWindow_still c (s.outlet ch)
  obtain ⟨-, hlast, hmetered, hpulses, hexcess⟩ :=
    reportFault_still_outlet (ch := ch) (s.modOutlet ch (OutletCfg.endWindow c)) .overdraw ch
  rw [hrecord] at hmetered hpulses hexcess
  rw [windowStep_of s hc]
  split
  · exact ⟨hmetered.trans (congrArg OutletStill.metered hstill), hpulses.trans (congrArg OutletStill.pulses hstill),
      hexcess.trans (congrArg OutletStill.excess hstill), fun _ => ⟨reportFault_flag _ _ _, hlast⟩⟩
  · next hno =>
    refine ⟨?_, ?_, ?_, fun h => absurd h hno⟩
    · rw [hrecord]; exact congrArg OutletStill.metered hstill
    · rw [hrecord]; exact congrArg OutletStill.pulses hstill
    · rw [hrecord]; exact congrArg OutletStill.excess hstill

/-- The judgement of a window is by the figures and marks alone. -/
theorem WindowJudged.congr {c : OutletCfg} {o o' : Outlet} {ch : Chan} {t : State} (h : o.MeterAs o')
    (hj : WindowJudged c o' ch t) : WindowJudged c o ch t := by
  obtain ⟨hstill, hmarks⟩ := h
  have hpulses : o'.pulses = o.pulses := congrArg OutletStill.pulses hstill
  have hexcess : o'.excess = o.excess := congrArg OutletStill.excess hstill
  have hbound : o'.largestBound = o.largestBound := congrArg Prod.fst hmarks
  have hoff : o'.wasOff = o.wasOff := congrArg (fun m : Nat × Bool × Bool => m.2.1) hmarks
  obtain ⟨h1, h2, h3, h4⟩ := hj
  have hafter : ∀ n, OutletCfg.excessAfter c o' n = OutletCfg.excessAfter c o n := by
    intro n
    have hwindow : OutletCfg.isExcess c o' n = OutletCfg.isExcess c o n := by simp only [OutletCfg.isExcess, hbound, hoff]
    rw [OutletCfg.excessAfter, OutletCfg.excessAfter, hwindow, hexcess]
  refine ⟨by rw [h1, hpulses], h2, by rw [h3, hafter, hpulses], fun hd => h4 ?_⟩
  simpa only [OutletCfg.overdraws, hafter, hpulses, hexcess] using hd

theorem mem_channels_nodup : channels.Nodup := by decide

/-- The end of the window, before the reactions (R140, R141). -/
def State.windowEnds (s : State) : State := forEach channels windowStep { s with meterWindow := some 0 }

section
variable {s : State} {ch : Chan} {c : OutletCfg}

theorem windowEnds_frame (h : Claims.Staying s) : WindowFrame { s with meterWindow := some 0 } s.windowEnds :=
  forEach_inv (WindowFrame { s with meterWindow := some 0 }) channels windowStep
    (fun p t ht => ht.trans (windowStep_frame t ht.staying p)) _ (.refl h)

theorem windowEnds_judges (h : Claims.Staying s) (hc : s.outletCfg? ch = some c) :
    WindowJudged c (s.outlet ch) ch s.windowEnds := by
  refine forEach_once (I := fun t => WindowFrame { s with meterWindow := some 0 } t ∧ (s.outlet ch).MeterAs (t.outlet ch))
    mem_channels_nodup (mem_channels ch) (fun p t hp ht => ⟨ht.1.trans (windowStep_frame t ht.1.staying p), ?_, ?_⟩)
    (fun t ht => ?_) (fun p t hp ht => ht.of_still (windowStep_still_of_ne t hp) (windowStep_flag t p)) ⟨.refl h, rfl, rfl⟩
  · exact (windowStep_still_of_ne t hp).trans ht.2.1
  · exact windowStep_outlet_ind t (P := fun o => o.meterMarks = (s.outlet ch).meterMarks)
      (fun o o' hstep ho => hstep.meterMarks.trans ho) hp ht.2.2
  · have hct : t.outletCfg? ch = some c := (ht.1.outletCfg ch).trans hc
    exact (windowStep_judges hct).congr ht.2

theorem meterWindowEnds_eq (hacts : s.acts = true) (hwindow : s.meterWindow.isSome = true) :
    exec .meterWindowEnds s = .next s.windowEnds.settle := by
  rw [exec, execMeterWindowEnds, event_of_taken (by rw [hacts, hwindow]; rfl)]
  rfl

end

end Sys2Proof.Machine

namespace Sys2Proof.Claims

open Machine

theorem meterPulseCounts : MeterPulseCounts := by
  rintro s ch c ⟨hacts, hc, -⟩ hwindow
  rw [exec, execMeterPulse, quietEvent_of_taken]
  · rfl
  · rw [outletTakes_of hacts hc rfl, hwindow]; rfl

theorem meterWindowIsJudged : MeterWindowIsJudged := by
  intro s hacts hwindow hstay
  have hframe := windowEnds_frame hstay
  have hstill : s.windowEnds.settle.still = s.windowEnds.still := settle_still _ hframe.staying
  have hflag : s.windowEnds.flagSet .outletFault = true → s.windowEnds.settle.flagSet .outletFault = true := fun h =>
    (settle_reacts _ hframe.staying).flags .outletFault h
  refine ⟨_, meterWindowEnds_eq hacts hwindow, ?_, ?_, ?_, fun ch c hc => ?_⟩
  · exact (congrArg Still.meterWindow hstill).trans hframe.window
  · exact (congrArg Still.copy hstill).trans hframe.copy
  · exact (congrArg Still.pins hstill).trans hframe.pins
  · intro o metered excess
    have hshown : (s.windowEnds.settle.outlet ch).still = (s.windowEnds.outlet ch).still := by
      rw [← still_outlet, hstill, still_outlet]
    obtain ⟨hmetered, hpulses, hexcess, hoverdraw⟩ := (windowEnds_judges hstay hc).of_still hshown hflag
    have hafter : OutletCfg.excessAfter c o metered = excess := by
      refine ite_congr (propext ?_) (fun _ => rfl) fun _ => rfl
      rw [OutletCfg.isExcess, overdrawLimit, Bool.and_eq_true, Bool.not_eq_true', decide_eq_true_eq]
    refine ⟨hmetered, hpulses, hexcess.trans hafter, fun hfull hbelow => hoverdraw ?_⟩
    rw [OutletCfg.overdraws, Bool.and_eq_true, beq_iff_eq, decide_eq_true_eq]
    exact ⟨hafter.trans hfull, hbelow⟩

end Sys2Proof.Claims

namespace Sys2Proof.Machine

/-! ### An own-flow activity at the end of a window -/

/-- An outlet without demand on its way to the own-flow test (R103 to R106): IDLE, or still in the STANDBY it began the event in;
its idle timer held for its group alone. -/
structure Outlet.AwaitsFlow (grouped standby : Bool) (o : Outlet) : Prop where
  level : o.level = 0
  state : (o.state = .idle ∧ (standby = true → o.pulsePhase = .none ∧ o.pulseTimer = none ∧ o.pulseLength = none)) ∨
    (o.state = .standby ∧ standby = true)
  held : o.idleTimer = .held → grouped = true

/-- An outlet after the activity of its own flow: IDLE with its idle timer at zero, unless its group holds it, its pulse given up
where it was in STANDBY (R104 to R106). -/
structure Outlet.Flowed (grouped standby : Bool) (o : Outlet) : Prop where
  level : o.level = 0
  idle : o.state = .idle
  timer : o.idleTimer = .running 0 ∨ (grouped = true ∧ o.idleTimer = .held)
  pulse : standby = true → o.pulsePhase = .none ∧ o.pulseTimer = none ∧ o.pulseLength = none

section
variable {up : Prop} {c : OutletCfg} {m : ModulatingCfg} {o o' : Outlet} {standby : Bool}

theorem Outlet.settlePulse_leaves (m : ModulatingCfg) (o : Outlet) :
    (o.settlePulse m).level = o.level ∧ (o.settlePulse m).idleTimer = o.idleTimer ∧
      (o.pulsePhase = .none → o.settlePulse m = o) := by
  unfold Outlet.settlePulse
  split
  · next h => split <;> exact ⟨rfl, rfl, fun e => PulsePhase.noConfusion (h.symm.trans e)⟩
  · next h => split <;> exact ⟨rfl, rfl, fun e => PulsePhase.noConfusion (h.symm.trans e)⟩
  all_goals exact ⟨rfl, rfl, fun _ => rfl⟩

theorem groupSource_of_kind (hm : c.modulating? = some m) {c' : OutletCfg} {v : ValveCfg} {m' : ModulatingCfg}
    (hc : some c = some c') (hk : c'.kind = .modulating v m') (hg : m'.groupSource = true) : m.groupSource = true := by
  obtain rfl := Option.some.inj hc
  rw [OutletCfg.modulating?, hk] at hm
  obtain rfl := Option.some.inj hm
  exact hg

/-- The steps of a record keep an outlet that has flowed as it is (R104 to R106). -/
theorem Outlet.Flowed.step (hm : c.modulating? = some m) (h : Outlet.Step up (some c) o o')
    (ho : o.Flowed m.groupSource standby) : o'.Flowed m.groupSource standby := by
  obtain ⟨hlevel, hidle, htimer, hpulse⟩ := ho
  have stays : ∀ {st : OutletState}, o.state = st → st ≠ .idle → False := fun h hne => hne (h.symm.trans hidle)
  cases h with
  | level c' _ _ =>
    have hsame : o.followLevel = o := by simp only [Outlet.followLevel, hidle, hlevel, if_true]
    rw [hsame]
    exact ⟨hlevel, hidle, htimer, hpulse⟩
  | group c' v m' b hc hk hg =>
    have hgroup := groupSource_of_kind hm hc hk hg
    cases b with
    | true =>
      have hfollow : o.followGroup true = { o with idleTimer := .held } := by simp only [Outlet.followGroup, hidle, if_true]
      rw [hfollow]
      exact ⟨hlevel, hidle, .inr ⟨hgroup, rfl⟩, hpulse⟩
    | false =>
      have hfollow : o.followGroup false = if o.idleTimer = .held then { o with idleTimer := .running 0 } else o := by
        simp only [Outlet.followGroup, hidle, Bool.false_eq_true, if_false]
      rw [hfollow]
      split
      · exact ⟨hlevel, hidle, .inl rfl, hpulse⟩
      · exact ⟨hlevel, hidle, htimer, hpulse⟩
  | desire c' hc => exact ⟨hlevel, hidle, htimer, hpulse⟩
  | stroke c' v pin g hc hv hg => exact ⟨hlevel, hidle, htimer, hpulse⟩
  | reserve c' g hc hv hg => exact ⟨hlevel, hidle, htimer, hpulse⟩
  | settle c' hc =>
    obtain rfl := Option.some.inj hc
    obtain ⟨hl, ht, hp⟩ := Outlet.settlePulse_leaves m o.settleRecord
    rw [OutletCfg.settleState_of_modulating hm]
    refine ⟨hl.trans hlevel, (Outlet.settlePulse_state m _).trans hidle, by rw [ht]; exact htimer, fun hs => ?_⟩
    rw [hp (hpulse hs).1]
    exact hpulse hs
  | cutPulse hphase =>
    refine ⟨hlevel, hidle, htimer, fun hs => ?_⟩
    rw [(hpulse hs).1] at hphase
    rcases hphase with e | e <;> cases e
  | dropPulse hphase =>
    refine ⟨hlevel, hidle, htimer, fun hs => ?_⟩
    rw [(hpulse hs).1] at hphase
    cases hphase
  | discard hst _ => exact (stays hst OutletState.noConfusion).elim
  | suspend hst => exact (stays hst OutletState.noConfusion).elim
  | start hst => exact (stays hst OutletState.noConfusion).elim
  | resume hst => exact (stays hst OutletState.noConfusion).elim
  | openPulse hst => exact (stays hst OutletState.noConfusion).elim

/-- The steps of a record in a withdrawal keep an outlet on its way to the own-flow test (R104 to R106). -/
theorem Outlet.AwaitsFlow.step (hm : c.modulating? = some m) (h : Outlet.Step up (some c) o o')
    (ho : o.AwaitsFlow m.groupSource standby) : o'.AwaitsFlow m.groupSource standby := by
  obtain ⟨hlevel, hstate, hheld⟩ := ho
  have stays : ∀ {st : OutletState}, o.state = st → st ≠ .idle → st ≠ .standby → False := fun h hi hs =>
    hstate.elim (fun e => hi (h.symm.trans e.1)) fun e => hs (h.symm.trans e.1)
  have keeps : ∀ {o' : Outlet}, o'.level = o.level → o'.state = o.state → o'.idleTimer = o.idleTimer →
      (o.pulsePhase = .none → o'.pulsePhase = .none) → (o'.pulseTimer = o.pulseTimer) →
      (o.pulsePhase = .none → o'.pulseLength = o.pulseLength) → o'.AwaitsFlow m.groupSource standby := by
    intro o' hl hs ht hp hpt hpl
    refine ⟨hl.trans hlevel, ?_, by rw [ht]; exact hheld⟩
    rw [hs]
    refine hstate.imp_left fun ⟨hidle, hpulse⟩ => ⟨hidle, fun hs => ?_⟩
    obtain ⟨h1, h2, h3⟩ := hpulse hs
    exact ⟨hp h1, hpt.trans h2, (hpl h1).trans h3⟩
  cases h with
  | level c' _ _ =>
    have hsame : o.followLevel = o := by
      rcases hstate with ⟨e, -⟩ | ⟨e, -⟩ <;> simp only [Outlet.followLevel, e, hlevel, if_true]
    rw [hsame]
    exact ⟨hlevel, hstate, hheld⟩
  | group c' v m' b hc hk hg =>
    have hgroup := groupSource_of_kind hm hc hk hg
    refine ⟨?_, ?_, fun _ => hgroup⟩
    · unfold Outlet.followGroup
      repeat' split
      all_goals exact hlevel
    · rcases hstate with ⟨e, hpulse⟩ | ⟨e, hs⟩
      · refine .inl ?_
        simp only [Outlet.followGroup, e]
        split
        · exact ⟨rfl, hpulse⟩
        · split
          · exact ⟨rfl, hpulse⟩
          · exact ⟨e, hpulse⟩
      · simp only [Outlet.followGroup, e]
        split
        · exact .inl ⟨rfl, fun _ => ⟨rfl, rfl, rfl⟩⟩
        · exact .inr ⟨e, hs⟩
  | desire c' hc => exact keeps rfl rfl rfl id rfl fun _ => rfl
  | stroke c' v pin g hc hv hg => exact keeps rfl rfl rfl id rfl fun _ => rfl
  | reserve c' g hc hv hg => exact keeps rfl rfl rfl id rfl fun _ => rfl
  | settle c' hc =>
    obtain rfl := Option.some.inj hc
    obtain ⟨hl, ht, hp⟩ := Outlet.settlePulse_leaves m o.settleRecord
    rw [OutletCfg.settleState_of_modulating hm]
    have hpt : (o.settleRecord.settlePulse m).pulseTimer = o.pulseTimer := by
      unfold Outlet.settlePulse
      repeat' split
      all_goals rfl
    exact keeps hl (Outlet.settlePulse_state m _) ht (fun e => by rw [hp e]; exact e) hpt fun e => by rw [hp e]; rfl
  | cutPulse hphase =>
    exact keeps rfl rfl rfl (fun e => by rcases hphase with h | h <;> rw [h] at e <;> cases e) rfl
      fun e => by rcases hphase with h | h <;> rw [h] at e <;> cases e
  | dropPulse hphase => exact keeps rfl rfl rfl (fun _ => rfl) rfl fun _ => rfl
  | discard hst _ => exact (stays hst OutletState.noConfusion OutletState.noConfusion).elim
  | suspend hst => exact (stays hst OutletState.noConfusion OutletState.noConfusion).elim
  | start hst => exact (stays hst OutletState.noConfusion OutletState.noConfusion).elim
  | resume hst => exact (stays hst OutletState.noConfusion OutletState.noConfusion).elim
  | openPulse hst =>
    rcases hstate with ⟨e, -⟩ | hs
    · rw [hst] at e; cases e
    · exact ⟨hlevel, .inr hs, hheld⟩

theorem Outlet.AwaitsFlow.flow {grouped : Bool} (ho : o.AwaitsFlow grouped standby) : o.ownFlow.Flowed grouped standby := by
  obtain ⟨hlevel, hstate, hheld⟩ := ho
  rcases hstate with ⟨hidle, hpulse⟩ | ⟨hstandby, hs⟩
  · have hflow : o.ownFlow = if o.idleTimer = .held then o else { o with idleTimer := .running 0 } := by
      simp only [Outlet.ownFlow, hidle]
    rw [hflow]
    split
    · next h => exact ⟨hlevel, hidle, .inr ⟨hheld h, h⟩, hpulse⟩
    · exact ⟨hlevel, hidle, .inl rfl, hpulse⟩
  · have hflow : o.ownFlow = o.wake (.running 0) := by simp only [Outlet.ownFlow, hstandby]
    rw [hflow]
    exact ⟨hlevel, rfl, .inl rfl, fun _ => ⟨rfl, rfl, rfl⟩⟩

/-- The end of the window of an outlet that was shut throughout it, and metered more than 1 hu (R104). -/
theorem Outlet.AwaitsFlow.endWindow (hm : c.modulating? = some m) (hflow : m.ownFlow = true) (hshut : o.shut = true)
    (hmetered : 1 < o.pulses * c.pulseWeight) (ho : o.AwaitsFlow m.groupSource standby) :
    (OutletCfg.endWindow c o).Flowed m.groupSource standby := by
  have hevent : OutletCfg.ownFlowEvent c o (o.pulses * c.pulseWeight) = true := by
    rw [OutletCfg.ownFlowEvent, hm, hshut, decide_eq_true hmetered]
    simp only [Option.any_some, hflow, Bool.and_self]
  unfold OutletCfg.endWindow
  dsimp only
  rw [if_pos hevent]
  exact Outlet.AwaitsFlow.flow ⟨ho.level, ho.state, ho.held⟩

end

/-- The window's end on every channel leaves an outlet with own flow as its activity has it. -/
theorem windowEnds_flowed {s : State} {ch : Chan} {c : OutletCfg} {m : ModulatingCfg} {standby : Bool} (hstay : Claims.Staying s)
    (hc : s.outletCfg? ch = some c) (hm : c.modulating? = some m) (hflow : m.ownFlow = true)
    (hresp : s.fru.responses.overdraw ≠ .isolate) (hshut : (s.outlet ch).shut = true)
    (hmetered : 1 < (s.outlet ch).pulses * c.pulseWeight) (ho : (s.outlet ch).AwaitsFlow m.groupSource standby) :
    WindowFrame { s with meterWindow := some 0 } s.windowEnds ∧ (s.windowEnds.outlet ch).Flowed m.groupSource standby := by
  refine ⟨windowEnds_frame hstay, ?_⟩
  have hcfg : ∀ {t : State}, WindowFrame { s with meterWindow := some 0 } t → t.outletCfg? ch = some c := fun ht =>
    (ht.outletCfg ch).trans hc
  refine (forEach_once (s := { s with meterWindow := some 0 })
    (I := fun t => WindowFrame { s with meterWindow := some 0 } t ∧
      ((s.outlet ch).MeterAs (t.outlet ch) ∧ (t.outlet ch).AwaitsFlow m.groupSource standby))
    (P := fun t => WindowFrame { s with meterWindow := some 0 } t ∧ (t.outlet ch).Flowed m.groupSource standby)
    mem_channels_nodup (mem_channels ch) ?_ ?_ ?_ ⟨.refl hstay, ⟨rfl, rfl⟩, ho⟩).2
  · rintro p t hp ⟨hframe, ⟨hstill, hmarks⟩, hawaits⟩
    refine ⟨hframe.trans (windowStep_frame t hframe.staying p), ⟨(windowStep_still_of_ne t hp).trans hstill, ?_⟩, ?_⟩
    · exact windowStep_outlet_ind t (P := fun o => o.meterMarks = (s.outlet ch).meterMarks)
        (fun o o' hstep h => hstep.meterMarks.trans h) hp hmarks
    · exact windowStep_outlet_ind t (P := fun o => o.AwaitsFlow m.groupSource standby)
        (fun o o' hstep h => h.step hm (by rwa [hcfg hframe] at hstep)) hp hawaits
  · rintro t ⟨hframe, ⟨hstill, hmarks⟩, hawaits⟩
    refine ⟨hframe.trans (windowStep_frame t hframe.staying ch), ?_⟩
    have hpulses : (t.outlet ch).pulses = (s.outlet ch).pulses := congrArg OutletStill.pulses hstill
    have hshut' : (t.outlet ch).shut = true := (congrArg (fun m : Nat × Bool × Bool => m.2.2) hmarks).trans hshut
    have hflowed : ((t.modOutlet ch (OutletCfg.endWindow c)).outlet ch).Flowed m.groupSource standby := by
      rw [State.modOutlet_outlet_self]
      exact hawaits.endWindow hm hflow hshut' (by rwa [hpulses])
    rw [windowStep_of t (hcfg hframe)]
    split
    · refine reportFault_outlet_ind (P := fun o => o.Flowed m.groupSource standby) (fun o o' hstep h => h.step (up := False) hm ?_)
        (fun _ o h => ⟨h.level, h.idle, h.timer, h.pulse⟩) (fun _ => ?_) hflowed
      · have hct := hcfg hframe
        have hcfg' : (t.modOutlet ch (OutletCfg.endWindow c)).outletCfg? ch = some c := hct
        rwa [hcfg'] at hstep
      · have hsame : (t.modOutlet ch (OutletCfg.endWindow c)).fru.responses = s.fru.responses := hframe.responses
        rw [hsame]
        exact hresp
    · exact hflowed
  · rintro p t hp ⟨hframe, hflowed⟩
    refine ⟨hframe.trans (windowStep_frame t hframe.staying p), ?_⟩
    exact windowStep_outlet_ind t (P := fun o => o.Flowed m.groupSource standby)
      (fun o o' hstep h => h.step hm (by rwa [hcfg hframe] at hstep)) hp hflowed

end Sys2Proof.Machine

namespace Sys2Proof.Claims

open Machine

theorem ownFlowIsActivity : OwnFlowIsActivity := by
  rintro s ch c m ⟨hacts, hc, hstay⟩ hwindow hm hflow hresp o hshut hmetered hlevel hstate hheld
  have hawaits : o.AwaitsFlow m.groupSource (o.state == .standby) := by
    refine ⟨hlevel, ?_, hheld⟩
    rcases hstate with h | h <;> rw [h]
    · exact .inl ⟨rfl, fun e => by cases e⟩
    · exact .inr ⟨rfl, rfl⟩
  obtain ⟨hframe, hflowed⟩ := windowEnds_flowed hstay hc hm hflow hresp hshut hmetered hawaits
  have hcfg : s.windowEnds.outletCfg? ch = some c := (hframe.outletCfg ch).trans hc
  have hend : (s.windowEnds.settle.outlet ch).Flowed m.groupSource (o.state == .standby) :=
    (settle_reacts _ hframe.staying).outlet_ind (P := fun o' => o'.Flowed m.groupSource (o.state == .standby))
      (fun up o o' hstep h => h.step hm (by rwa [hcfg] at hstep)) (fun o h => ⟨h.level, h.idle, h.timer, h.pulse⟩) hflowed
  exact ⟨_, meterWindowEnds_eq hacts hwindow, hend.idle, hend.timer, fun h => hend.pulse (beq_iff_eq.mpr h)⟩

end Sys2Proof.Claims

namespace Sys2Proof.Proofs

open Machine Claims

/-- Settles O44: each channel's record is judged once in the sweep, and no reaction takes that back. -/
theorem meterCountsAndJudges : Obligations.MeterCountsAndJudges := ⟨meterPulseCounts, meterWindowIsJudged, ownFlowIsActivity⟩

end Sys2Proof.Proofs

namespace Sys2Proof.Machine

/-! ### A run called, ended and spoilt -/

section
variable {s : State} {ch : Chan}

/-- A change of a record is by what it makes of the record as it stands. -/
theorem modOutlet_congr {f g : Outlet → Outlet} (h : f (s.outlet ch) = g (s.outlet ch)) : s.modOutlet ch f = s.modOutlet ch g := by
  have h' : f s.outlets[ch] = g s.outlets[ch] := h
  simp only [State.modOutlet, modifyAt, h']

theorem leaveQueue_of {c : OutletCfg} (hc : s.outletCfg? ch = some c) :
    ch ∉ ((s.leaveQueue ch).queue c.svc c.cls).members ∧ ((s.leaveQueue ch).queue c.svc c.cls).blocker ≠ some ch := by
  have hqueue : (s.leaveQueue ch).queue c.svc c.cls =
      if (s.queue c.svc c.cls).blocker = some ch then ⟨dropChan ch (s.queue c.svc c.cls).members, none, none⟩
      else { s.queue c.svc c.cls with members := dropChan ch (s.queue c.svc c.cls).members } := by
    simp only [State.leaveQueue, hc]
    exact Per8.get_set_self _ _ _ _
  have hgone : ch ∉ dropChan ch (s.queue c.svc c.cls).members := by
    simp [dropChan]
  rw [hqueue]
  split
  · exact ⟨hgone, fun e => (by cases e)⟩
  · next h => exact ⟨hgone, h⟩

theorem leaveStartOrder_of {c : OutletCfg} (hc : s.outletCfg? ch = some c) :
    s.leaveStartOrder ch = s.modStartOrder c.svc c.cls fun l => l.filter fun p => p != ch := by
  simp only [State.leaveStartOrder, hc]
  rfl

theorem OutletCfg.batch_bind {c : OutletCfg} {b : BatchCfg} (hc : s.outletCfg? ch = some c) (hb : c.batch? = some b) :
    (s.outletCfg? ch).bind OutletCfg.batch? = some b := by rw [hc]; exact hb

end

/-- The spoilt run given up, before the outlets follow and the fault is reported (R162, R168). -/
def State.runDiscarded (ch : Chan) (b : BatchCfg) (s : State) : State :=
  ((s.countRunSpoilt.leaveQueue ch).leaveStartOrder ch).modOutlet ch (Outlet.spoil b)

theorem Outlet.spoil_still (b : BatchCfg) {o : Outlet} (h : o.state = .suspended) : (o.spoil b).still = o.still := by
  unfold Outlet.spoil
  dsimp only
  split <;> simp [Outlet.still, Outlet.beginRun, h]

theorem runDiscarded_still (s : State) {ch : Chan} {b : BatchCfg} (h : (s.outlet ch).state = .suspended) :
    (s.runDiscarded ch b).still = { s.still with runsSpoilt := countUp s.fru.counters.runsSpoilt } := by
  have hout : ((s.countRunSpoilt.leaveQueue ch).leaveStartOrder ch).outlet ch = s.outlet ch := by
    rw [State.leaveStartOrder_outlet, State.leaveQueue_outlet]
    rfl
  unfold State.runDiscarded
  rw [State.modOutlet_still _ (Outlet.spoil_still b (by rw [hout]; exact h)), State.leaveStartOrder_still, State.leaveQueue_still]
  rfl

end Sys2Proof.Machine

namespace Sys2Proof.Claims

open Machine

theorem callBeginsARun : CallBeginsARun := by
  rintro s ch c b ⟨hacts, hc, -⟩ hb hpin o pinned
  have hexec : Acts (.callInputRises ch) s (pinned.modOutlet ch (Outlet.callRises b)) := by
    have htakes : pinned.outletTakes ch (fun c _ => c.batch?.isSome) = true :=
      outletTakes_of (s := pinned) hacts hc (by rw [hb]; rfl)
    have hbind := OutletCfg.batch_bind (s := s.setCallPin ch true) hc hb
    rw [Acts, exec, execCallInputRises, hpin]
    refine (event_of_taken htakes).trans ?_
    rw [hbind]
    rfl
  have rises : ∀ f : Outlet → Outlet, Outlet.callRises b o = f o → Acts (.callInputRises ch) s (pinned.modOutlet ch f) := by
    intro f hf
    rwa [modOutlet_congr (s := pinned) (ch := ch) (g := f) hf] at hexec
  refine ⟨fun hst hend => rises _ ?_, fun hst => rises _ ?_, fun hst => ?_⟩
  · have hidle : Outlet.callRises b o = if o.endOfRun then { o with repeatFlag := true } else o.beginRun b := by
      simp only [Outlet.callRises, hst]
    exact hidle.trans (if_neg (by rw [hend]; exact Bool.false_ne_true))
  · rcases hst with ⟨h, hend⟩ | h | h | h
    · simp only [Outlet.callRises, h, hend, if_true]
    all_goals simp only [Outlet.callRises, h]
  · have hsame : Outlet.callRises b o = id o := by rcases hst with h | h <;> simp only [Outlet.callRises, h, id]
    have hid : pinned.modOutlet ch id = pinned := by
      simp only [State.modOutlet, modifyAt, id, Fin.getElem_fin, Vector.set_getElem_self]
    rw [← hid]
    exact rises id hsame

theorem fallingCallDoesNothing : FallingCallDoesNothing := fun _ _ => rfl

theorem runEndsAtZero : RunEndsAtZero := by
  rintro s ch c ⟨hacts, hc, -⟩ hb hst hmoving
  rw [Acts, exec, execRunRemainingZero, event_of_taken (outletTakes_of hacts hc ?_), State.endRun]
  · rw [leaveStartOrder_of (s := s.modOutlet ch _) hc]
  · rw [hb, hst, hmoving]; rfl

theorem spoilRun_acts {s : State} {ch : Chan} {c : OutletCfg} {b : BatchCfg} (hacts : s.acts = true)
    (hc : s.outletCfg? ch = some c) (hb : c.batch? = some b) (hst : (s.outlet ch).state = .suspended)
    (hsusp : (s.outlet ch).suspension.isSome = true) :
    Acts (.runSpoilt ch) s ((s.runDiscarded ch b).outletPhase.reportFault .runSpoilt ch) := by
  have htakes : s.outletTakes ch (fun c o => c.batch?.isSome && o.state == .suspended && o.suspension.isSome) = true :=
    outletTakes_of hacts hc (by rw [hb, hst, hsusp]; rfl)
  rw [Acts, exec, execRunSpoilt, event_of_taken htakes, OutletCfg.batch_bind hc hb]
  rfl

theorem spoiltRunIsDiscarded : SpoiltRunIsDiscarded := by
  rintro s ch c b ⟨hacts, hc, -⟩ hb hst hsusp counted out u
  have hc' : counted.outletCfg? ch = some c := hc
  obtain ⟨hmembers, hblocker⟩ := leaveQueue_of hc'
  refine ⟨hmembers, hblocker, ?_⟩
  have hu : s.runDiscarded ch b = u := by
    have hleft : (counted.leaveQueue ch).outletCfg? ch = some c := by
      rw [← hc']
      exact outletCfg_of_image (by rw [loader_of_apart (State.leaveQueue_apart counted ch)])
    have hout : s.runDiscarded ch b = out.modOutlet ch (Outlet.spoil b) :=
      congrArg (State.modOutlet ch (Outlet.spoil b)) (leaveStartOrder_of hleft)
    rw [hout]
    refine modOutlet_congr ?_
    unfold Outlet.spoil
    rfl
  rw [← hu]
  exact spoilRun_acts hacts hc hb hst hsusp

theorem spoiltRunIsReported : SpoiltRunIsReported := by
  rintro s ch c ⟨hacts, hc, hstay⟩ hb hst hsusp
  obtain ⟨b, hb⟩ := Option.isSome_iff_exists.mp hb
  have hmemb : (s.runDiscarded ch b).outletPhase.memb = s.memb := by
    rw [State.outletPhase_memb]
    unfold State.runDiscarded
    rw [State.modOutlet_memb, memb_of_apart (State.leaveStartOrder_apart _ ch), memb_of_apart (State.leaveQueue_apart _ ch)]
    rfl
  have hstill := (State.outletPhase_still (s.runDiscarded ch b)).trans (runDiscarded_still s hst)
  have hact := spoilRun_acts hacts hc hb hst hsusp
  generalize (s.runDiscarded ch b).outletPhase = u at hmemb hstill hact
  have hmark : Staying (u.reportFault .runSpoilt ch) := reportFault_leaveMark u _ _ (by rw [hmemb]; exact hstay)
  have hend : (u.reportFault .runSpoilt ch).settle.still = reported u .runSpoilt ch u.still :=
    (settle_still _ hmark).trans (reportFault_still u _ _)
  have hflag := (settle_reacts _ hmark).flags .outletFault (reportFault_flag u .runSpoilt ch)
  have hrecord : ∀ p, ((u.reportFault .runSpoilt ch).settle.outlet p).still = ((u.reportFault .runSpoilt ch).outlet p).still := by
    intro p
    rw [← still_outlet, settle_still _ hmark, still_outlet]
  refine ⟨_, hact, ?_, ?_, hflag, ?_, ?_, ?_, fun p hp => ?_⟩
  · exact (congrArg Still.runsSpoilt hend).trans (congrArg Still.runsSpoilt hstill)
  · exact (congrArg Still.outletFaults hend).trans (congrArg (fun x : Still => countUp x.outletFaults) hstill)
  · exact (congrArg OutletStill.lastFault (hrecord ch)).trans (reportFault_still_outlet (ch := ch) u .runSpoilt ch).2.1
  · exact (congrArg Still.copy hend).trans (congrArg Still.copy hstill)
  · exact (congrArg Still.framesLanded hend).trans (congrArg Still.framesLanded hstill)
  · rw [hrecord p, (reportFault_still_outlet u .runSpoilt ch).1 hp.symm, ← still_outlet, hstill, ← still_outlet]

end Sys2Proof.Claims

namespace Sys2Proof.Proofs

open Machine Claims

/-- Settles O46: a call by the outlet's state, the two ends of a run, and what the report of a spoilt one shows. -/
theorem runsBeginAndEnd : Obligations.RunsBeginAndEnd :=
  ⟨callBeginsARun, fallingCallDoesNothing, runEndsAtZero, spoiltRunIsDiscarded, spoiltRunIsReported⟩

end Sys2Proof.Proofs

namespace Sys2Proof.Machine

/-! ### What the reactions do to the stages -/

/-- The Stage Manager's records and the pins they go by. -/
def State.stageUnit (s : State) : Vector Stage 16 × Per2 Supply × Pins := (s.stages, s.supply, s.pins)

theorem stageUnit_of_apart {s t : State} (h : t.apart = s.apart) : t.stageUnit = s.stageUnit :=
  show t.apart.stageUnit = s.apart.stageUnit from congrArg State.stageUnit h

section
variable (s : State)

theorem classStep_stageUnit (v : Svc) (k : Cls) : (classStep v k s).stageUnit = s.stageUnit := by
  have keeps : ∀ t : State, (t.presentKeep v k).stageUnit = t.stageUnit := by
    intro t; unfold State.presentKeep; dsimp only; split <;> rfl
  have cut : ∀ t : State, (t.cutIfOver v k).stageUnit = t.stageUnit := by
    intro t; unfold State.cutIfOver; split
    · rw [keeps, stageUnit_of_apart (State.keepCut_apart t v k)]
    · rfl
  have pass : ∀ t : State, (t.passIfDue v k).stageUnit = t.stageUnit := by
    intro t; unfold State.passIfDue; split
    · exact stageUnit_of_apart (State.servicePass_apart (t.clearPass v k) v k)
    · rfl
  have carry : ∀ t : State, (t.carry v k).stageUnit = t.stageUnit := by
    intro t; unfold State.carry; dsimp only; split <;> rfl
  rw [classStep, carry, pass, cut, keeps]

theorem holdPhase_stageUnit : s.holdPhase.stageUnit = s.stageUnit := by
  have want : ∀ v t, (wantStep v t).stageUnit = t.stageUnit := by
    intro v t; unfold wantStep
    split
    · dsimp only; split <;> rfl
    · rfl
  have take : ∀ v t, (takeStep v t).stageUnit = t.stageUnit := by
    intro v t; unfold takeStep
    split
    · split
      · dsimp only; split <;> rfl
      · rfl
    · rfl
  have give : ∀ (p : Svc × Cls) t, (giveStep p.1 p.2 t).stageUnit = t.stageUnit := by
    intro p t; unfold giveStep; dsimp only; split <;> rfl
  unfold State.holdPhase
  dsimp only
  rw [forEach_keeps State.stageUnit _ _ want, forEach_keeps State.stageUnit _ _ take, forEach_keeps State.stageUnit _ _ give,
    forEach_keeps State.stageUnit _ reclaimStep fun _ _ => rfl,
    forEach_keeps State.stageUnit _ keepPhase fun v t => forEach_keeps State.stageUnit _ _ (fun k u => classStep_stageUnit u v k) t]

theorem framePhase_stageUnit : s.framePhase.stageUnit = s.stageUnit := by
  have refresh : ∀ t : State, (refreshStep t).stageUnit = t.stageUnit := by intro t; unfold refreshStep; split <;> rfl
  have self : ∀ t : State, (selfStep t).stageUnit = t.stageUnit := by intro t; unfold selfStep; split <;> rfl
  have key : ∀ t : State, (lapseKeyStep t).stageUnit = t.stageUnit := by
    intro t; unfold lapseKeyStep
    split
    · rfl
    · split
      · rfl
      · split
        · split <;> rfl
        · rfl
  rw [State.framePhase, refresh, key, self]
  split
  · exact forEach_keeps State.stageUnit _ expiryStep (fun n t => by unfold expiryStep; split <;> rfl) s
  · rfl

theorem rest_stageUnit : s.rest.stageUnit = s.stageUnit := by
  have shed : ∀ v t, (shedShortStep v t).stageUnit = t.stageUnit := by
    intro v t; unfold shedShortStep; dsimp only; split <;> rfl
  have hend : ∀ t : State, t.observe.stageUnit = t.stageUnit := fun _ => rfl
  have h : (if s.live then (forEach services shedShortStep s.sparePhase).observe else s).stageUnit = s.stageUnit := by
    split
    · rw [hend, forEach_keeps State.stageUnit _ _ shed]
      exact forEach_keeps State.stageUnit serviceClasses (fun p => spareStep p.1 p.2) (fun _ _ => rfl) s
    · rfl
  exact h

theorem prune_stageUnit (p : Prune) : (s.prune p).stageUnit = s.stageUnit := by
  obtain ⟨hold, e⟩ := prune_eq s p
  rw [e]
  rfl

theorem endPause_stageUnit : s.endPause.stageUnit = s.stageUnit := by unfold State.endPause; split <;> rfl

end

/-- What the reactions of an event keep of a stage: one that is not DOWN, or tripped, its state and its timers; and no stage
becomes leaving (R182, R183, R186). -/
structure Stage.Stands (tripped : Bool) (g g' : Stage) : Prop where
  state : g.state ≠ .down ∨ tripped = true → g'.state = g.state ∧ g'.warmUp = g.warmUp ∧ g'.lockout = g.lockout
  leaving : g.leaving = false → g'.leaving = false

theorem Stage.Stands.refl (tripped : Bool) (g : Stage) : Stage.Stands tripped g g := ⟨fun _ => ⟨rfl, rfl, rfl⟩, id⟩

theorem Stage.Stands.trans {tripped : Bool} {g g' g'' : Stage} (h1 : Stage.Stands tripped g g')
    (h2 : Stage.Stands tripped g' g'') : Stage.Stands tripped g g'' := by
  refine ⟨fun h => ?_, h2.leaving ∘ h1.leaving⟩
  obtain ⟨hst, hw, hl⟩ := h1.state h
  obtain ⟨hst', hw', hl'⟩ := h2.state (by rwa [hst])
  exact ⟨hst'.trans hst, hw'.trans hw, hl'.trans hl⟩

/-- What the reactions of an event keep of the stages, and of the forced marks but on entry to SYNCING (R180, R186). -/
structure StagesStand (s t : State) : Prop where
  pins : t.pins = s.pins
  stage : ∀ ch, Stage.Stands s.pins.trip[ch] (s.stage ch) (t.stage ch)
  syncing : s.station = .syncing → t.station = .syncing
  forced : ∀ v, (s.supply.get v).forced = true → (t.supply.get v).forced = true ∨ t.station = .syncing

section
variable {s t u : State}

theorem StagesStand.refl (s : State) : StagesStand s s := ⟨rfl, fun _ => .refl _ _, id, fun _ h => .inl h⟩

theorem StagesStand.trans (h1 : StagesStand s t) (h2 : StagesStand t u) : StagesStand s u where
  pins := h2.pins.trans h1.pins
  stage ch := (h1.stage ch).trans (by rw [← h1.pins]; exact h2.stage ch)
  syncing := h2.syncing ∘ h1.syncing
  forced v h := (h1.forced v h).elim (h2.forced v) fun e => .inr (h2.syncing e)

/-- What leaves the pins and every stage as they are, and every forced mark. -/
theorem StagesStand.of_parts (hpins : t.pins = s.pins) (hstages : t.stages = s.stages)
    (hforced : ∀ v, (t.supply.get v).forced = (s.supply.get v).forced) (hst : s.station = .syncing → t.station = .syncing) :
    StagesStand s t where
  pins := hpins
  stage ch := by simp only [State.stage, hstages]; exact .refl _ _
  syncing := hst
  forced v h := .inl ((hforced v).trans h)

theorem unit_parts (h : t.stageUnit = s.stageUnit) : t.stages = s.stages ∧ t.supply = s.supply ∧ t.pins = s.pins := by
  simpa only [State.stageUnit, Prod.mk.injEq] using h

theorem StagesStand.of_unit (h : t.stageUnit = s.stageUnit) (hst : s.station = .syncing → t.station = .syncing) : StagesStand s t := by
  obtain ⟨hstages, hsupply, hpins⟩ := unit_parts h
  exact .of_parts hpins hstages (fun v => by rw [hsupply]) hst

theorem stopTimers_forced (p : Per2 Supply) (v : Svc) : ((p.map Supply.stopTimers).get v).forced = (p.get v).forced := by
  rw [Per2.get_map]
  rfl

theorem StagesStand.forEach {α : Type} (l : List α) (f : α → State → State) (h : ∀ a t, StagesStand t (f a t)) (s : State) :
    StagesStand s (forEach l f s) :=
  forEach_inv (StagesStand s) l f (fun a t ht => ht.trans (h a t)) s (.refl s)

theorem StagesStand.ite {a b : State} {p : Prop} [Decidable p] (ha : p → StagesStand s a) (hb : ¬p → StagesStand s b) :
    StagesStand s (if p then a else b) := by
  split
  · next h => exact ha h
  · next h => exact hb h

theorem modSupply_stagesStand {v : Svc} {f : Supply → Supply} (hf : ∀ p, (f p).forced = p.forced) : StagesStand s (s.modSupply v f) where
  pins := rfl
  stage _ := .refl _ _
  syncing := id
  forced w h := by
    refine .inl ?_
    by_cases e : v = w
    · subst e; rw [State.modSupply, Per2.get_set_self, hf]; exact h
    · rw [State.modSupply, Per2.get_set_of_ne _ _ e]; exact h

theorem stopSupplyTimers_stagesStand : StagesStand s s.stopSupplyTimers where
  pins := rfl
  stage _ := .refl _ _
  syncing := id
  forced v h := .inl (by rw [State.stopSupplyTimers, Per2.get_map]; exact h)

theorem callStage_stagesStand {ch : Chan} (h : s.callable ch = true) : StagesStand s (s.callStage ch) where
  pins := rfl
  stage p := by
    by_cases e : ch = p
    · subst e
      rw [State.callable, Bool.and_eq_true, beq_iff_eq, Bool.not_eq_true'] at h
      rw [State.callStage, State.modStage_stage_self]
      refine ⟨fun hn => ?_, fun hl => ?_⟩
      · rcases hn with hn | hn
        · exact absurd h.1 hn
        · rw [h.2] at hn; cases hn
      · split <;> exact hl
    · rw [State.callStage, State.modStage_stage_of_ne _ _ e]; exact .refl _ _
  syncing := id
  forced _ hf := .inl hf

theorem callCandidate_callable {v : Svc} {ch : Chan} (h : s.callCandidate v = some ch) : s.callable ch = true := by
  have hmem := List.mem_of_find?_eq_some h
  have hkept := (List.mem_filter.mp hmem).2
  rw [Bool.and_eq_true] at hkept
  exact hkept.2

theorem callStep_stagesStand (v : Svc) : StagesStand s (callStep v s) := by
  unfold callStep
  dsimp only
  split
  · split
    · next ch hch =>
      have hcall : (s.modSupply v fun p => { p with callTimer := none }).callable ch = true := callCandidate_callable hch
      exact (modSupply_stagesStand (f := fun p => { p with callTimer := none }) fun _ => rfl).trans (callStage_stagesStand hcall)
    · exact modSupply_stagesStand fun _ => rfl
  · exact modSupply_stagesStand fun _ => rfl

theorem stagePhase_stagesStand : StagesStand s s.stagePhase := by
  unfold State.stagePhase
  refine .ite (fun _ => ?_) fun _ => stopSupplyTimers_stagesStand
  refine (((StagesStand.forEach channels alwaysStep ?_ s).trans (.forEach services callStep (fun v t => callStep_stagesStand v) _)).trans
    (.forEach services offerStep ?_ _)).trans (.forEach services dropStep ?_ _)
  · intro ch t
    refine .ite (fun h => callStage_stagesStand ?_) fun _ => .refl t
    rw [Bool.and_eq_true] at h
    exact h.2
  · exact fun v t => .ite (fun _ => .of_unit rfl id) fun _ => .refl t
  · intro v t
    unfold dropStep
    exact modSupply_stagesStand fun _ => rfl

theorem clearLeaving_stage (s : State) (ch : Chan) : s.clearLeaving.stage ch = { s.stage ch with leaving := false } := by
  rw [State.stage, State.clearLeaving, mapAt_get]
  rfl

theorem clearLeaving_stagesStand : StagesStand s s.clearLeaving where
  pins := rfl
  stage ch := by rw [clearLeaving_stage]; exact ⟨fun _ => ⟨rfl, rfl, rfl⟩, fun _ => rfl⟩
  syncing := id
  forced _ hf := .inl hf

theorem enterSyncing_stagesStand : StagesStand s s.enterSyncing where
  pins := congrArg (fun p : Vector Stage 16 × Per2 Supply × Pins => p.2.2) (prune_stageUnit s .all)
  stage ch := by
    have hstages : (s.prune .all).stages = s.stages :=
      congrArg (fun p : Vector Stage 16 × Per2 Supply × Pins => p.1) (prune_stageUnit s .all)
    have hstage : s.enterSyncing.stage ch = { (s.prune .all).stage ch with leaving := false } := by
      unfold State.enterSyncing
      dsimp only
      generalize s.prune .all = u
      rw [State.stage, State.stopSupplyTimers, State.clearLeaving, mapAt_get]
      rfl
    rw [hstage]
    simp only [State.stage, hstages]
    exact ⟨fun _ => ⟨rfl, rfl, rfl⟩, fun _ => rfl⟩
  syncing _ := enterSyncing_station s
  forced _ _ := .inr (enterSyncing_station s)

theorem enterHalted_stagesStand (hst : s.station ≠ .syncing) : StagesStand s s.enterHalted := by
  have hz : (s.enter (.halted false)).zeroAll.stageUnit = s.stageUnit :=
    (stageUnit_of_apart (State.zeroAll_apart (s.enter (.halted false)))).trans rfl
  obtain ⟨hstages, hsupply, hpins⟩ := unit_parts ((prune_stageUnit (s.enter (.halted false)).zeroAll .halted).trans hz)
  unfold State.enterHalted
  dsimp only
  generalize State.prune .halted _ = u at hstages hsupply hpins
  exact .of_parts hpins hstages (fun v => by rw [← hsupply]; exact stopTimers_forced u.supply v) fun e => absurd e hst

theorem enterOrphan_stagesStand (hst : s.station ≠ .syncing) : StagesStand s s.enterOrphan := by
  have hz : ((s.enter .orphan).setFlag .orphaned).zeroAll.stageUnit = s.stageUnit :=
    (stageUnit_of_apart (State.zeroAll_apart ((s.enter .orphan).setFlag .orphaned))).trans rfl
  obtain ⟨hstages, hsupply, hpins⟩ := unit_parts ((prune_stageUnit ((s.enter .orphan).setFlag .orphaned).zeroAll .orphan).trans hz)
  unfold State.enterOrphan
  dsimp only
  generalize State.prune .orphan _ = u at hstages hsupply hpins
  exact .of_parts hpins hstages (fun v => by rw [← hsupply]; exact stopTimers_forced u.supply v) fun e => absurd e hst

theorem leaveLine_stageUnit (s : State) : s.leaveLine.stageUnit = (s.prune .all).endPause.clearLeaving.stageUnit := by
  simp only [State.leaveLine, State.stageUnit, State.turnLine, State.modLiu, State.modLedger, State.modMemb]

theorem leaveLine_stagesStand (hst : s.station ≠ .syncing) : StagesStand s s.leaveLine := by
  have hmemb : (s.prune .all).endPause.station = s.station := by rw [State.station, endPause_memb, prune_memb, State.station]
  have hunit : (s.prune .all).endPause.stageUnit = s.stageUnit := (endPause_stageUnit _).trans (prune_stageUnit s .all)
  have hleft : StagesStand s (s.prune .all).endPause.clearLeaving :=
    (StagesStand.of_unit hunit fun e => absurd e hst).trans clearLeaving_stagesStand
  refine hleft.trans (.of_unit (leaveLine_stageUnit s) fun e => absurd ?_ hst)
  rw [← hmemb]
  exact e

theorem withdrawalEndStep_stagesStand (h : s.memb.leaveMark ≠ .restart) : StagesStand s (withdrawalEndStep s) := by
  unfold withdrawalEndStep
  split
  · next hends =>
    have hst : s.station ≠ .syncing := by
      simp only [Bool.and_eq_true, beq_iff_eq] at hends
      rw [hends.1.1]; exact Station.noConfusion
    rw [endWithdrawal_eq, if_neg (by rw [beq_iff_eq]; exact h)]
    exact leaveLine_stagesStand hst
  · exact .refl s

theorem orphanEndStep_stagesStand : StagesStand s (orphanEndStep s) := by
  unfold orphanEndStep
  refine .ite (fun horphan => ?_) fun _ => .refl s
  have hst : s.station ≠ .syncing := by
    simp only [Bool.and_eq_true, beq_iff_eq] at horphan
    rw [horphan.1.1]; exact Station.noConfusion
  exact .ite (fun _ => enterSyncing_stagesStand) fun _ => enterHalted_stagesStand hst

theorem contactPhase_stagesStand : StagesStand s s.contactPhase := by
  refine .ite (fun h => enterOrphan_stagesStand ?_) fun _ => .refl s
  rw [Bool.and_eq_true, isMember_iff] at h
  have hst : s.station = .member := h.1
  rw [hst]
  exact Station.noConfusion

/-- A round of reactions keeps the stages that are not DOWN (R182, R183, R186). -/
theorem react_stagesStand (h : s.memb.leaveMark ≠ .restart) : StagesStand s s.react := by
  cases hlive : s.live with
  | false => rw [react_of_not_live s hlive]; exact .refl s
  | true =>
    have houtlet : StagesStand s s.outletPhase :=
      .of_unit (stageUnit_of_apart s.outletPhase_apart) fun e => (outletPhase_station s).trans e
    have hshares : ∀ t : State, StagesStand t t.afterContact := fun t => by
      have hhold : StagesStand t t.holdPhase := .of_unit (holdPhase_stageUnit t) fun e => by
        rw [State.station, State.holdPhase_memb]; exact e
      exact (hhold.trans stagePhase_stagesStand).trans (.of_unit (framePhase_stageUnit _) fun e => (framePhase_station _).trans e)
    have hwork : StagesStand s s.reactWork :=
      ((houtlet.trans contactPhase_stagesStand).trans (hshares _)).trans orphanEndStep_stagesStand
    have hmark := reactWork_leaveMark s h
    rw [react_of_live s hlive]
    generalize s.reactWork = t at hwork hmark
    exact hwork.trans (withdrawalEndStep_stagesStand hmark)

/-- The reactions of an event keep the stages that are not DOWN, or tripped, and the forced marks but for SYNCING. -/
theorem settle_stagesStand (h : s.memb.leaveMark ≠ .restart) : StagesStand s s.settle := by
  have h1 := react_leaveMark s h
  have h2 := react_leaveMark _ h1
  have h3 := react_leaveMark _ h2
  have hrest : ∀ t : State, StagesStand t t.rest := fun t => .of_unit (rest_stageUnit t) fun e => (rest_station t).trans e
  exact ((((react_stagesStand h).trans (react_stagesStand h1)).trans (react_stagesStand h2)).trans (react_stagesStand h3)).trans (hrest _)

end

end Sys2Proof.Machine

namespace Sys2Proof.Machine

/-! ### The events of a stage -/

section
variable {s : State} {ch : Chan} {c : StageCfg}

theorem stageTakes_of {cond : Stage → Bool} (hacts : s.acts = true) (hc : s.stageCfg? ch = some c)
    (h : cond (s.stage ch) = true) : s.stageTakes ch cond = true := by
  rw [State.stageTakes, hacts, hc, h]
  rfl

/-- A stage after a trip or the loss of its ready signal in READY (R177). -/
def Stage.trippedBy (trip : Bool) (g : Stage) : Stage :=
  if trip then { g with state := .tripped, leaving := false } else { g with state := .lockout, leaving := false, lockout := some 0 }

theorem tripStage_of (hc : s.stageCfg? ch = some c) :
    s.tripStage ch = ((s.modStage ch (Stage.trippedBy s.pins.trip[ch])).setForced c.svc).reportStageFault := by
  simp only [State.tripStage, hc]
  rfl

/-- What a trip in READY leaves after the reactions (R177, R180, R192). -/
theorem tripStage_settles (hc : s.stageCfg? ch = some c) (hstay : Claims.Staying s) :
    let t := (s.tripStage ch).settle
    (t.stage ch).state = (if s.pins.trip[ch] then .tripped else .lockout) ∧
    (s.pins.trip[ch] = false → (t.stage ch).lockout = some 0) ∧ (t.stage ch).leaving = false ∧ t.flagSet .stageFault = true ∧
    ((t.supply.get c.svc).forced = true ∨ t.station = .syncing) ∧ t.pins = s.pins := by
  have hmark : Claims.Staying (s.tripStage ch) := by
    rw [tripStage_of hc]; exact hstay
  have hstand := settle_stagesStand hmark
  have hstage : (s.tripStage ch).stage ch = Stage.trippedBy s.pins.trip[ch] (s.stage ch) := by
    rw [tripStage_of hc]
    exact State.modStage_stage_self s ch _
  have hforced : ((s.tripStage ch).supply.get c.svc).forced = true := by
    rw [tripStage_of hc]
    exact congrArg Supply.forced (Per2.get_set_self s.supply c.svc _)
  have hflag : (s.tripStage ch).flagSet .stageFault = true := by
    rw [tripStage_of hc, State.reportStageFault, setFlag_flagSet, decide_eq_true rfl, Bool.or_true]
  have hpins : (s.tripStage ch).pins = s.pins := by rw [tripStage_of hc]; rfl
  have hleaving : ((s.tripStage ch).stage ch).leaving = false := by
    rw [hstage, Stage.trippedBy]; split <;> rfl
  obtain ⟨hstate, hlockout⟩ : ((s.tripStage ch).stage ch).state = (if s.pins.trip[ch] then .tripped else .lockout) ∧
      (s.pins.trip[ch] = false → ((s.tripStage ch).stage ch).lockout = some 0) := by
    rw [hstage, Stage.trippedBy]
    cases s.pins.trip[ch] with
    | true => exact ⟨rfl, fun h => absurd h.symm Bool.false_ne_true⟩
    | false => exact ⟨rfl, fun _ => rfl⟩
  have hup : ((s.tripStage ch).stage ch).state ≠ .down := by
    rw [hstate]; split <;> exact StageState.noConfusion
  obtain ⟨hst, -, hlock⟩ := (hstand.stage ch).state (.inl hup)
  exact ⟨hst.trans hstate, fun h => hlock.trans (hlockout h), (hstand.stage ch).leaving hleaving,
    (settle_reacts _ hmark).flags .stageFault hflag, hstand.forced c.svc hforced, hstand.pins.trans hpins⟩

/-- What a failed warm-up leaves after the reactions (R176, R192). -/
theorem failWarmUp_settles (s : State) (ch : Chan) (hstay : Claims.Staying s) :
    let t := (s.failWarmUp ch).settle
    (t.stage ch).state = .lockout ∧ (t.stage ch).lockout = some 0 ∧ (t.stage ch).warmUp = none ∧
      t.flagSet .stageFault = true ∧ t.pins = s.pins := by
  have hstage : (s.failWarmUp ch).stage ch = { s.stage ch with state := .lockout, warmUp := none, lockout := some 0 } :=
    State.modStage_stage_self s ch _
  have hmark : Claims.Staying (s.failWarmUp ch) := hstay
  have hstand := settle_stagesStand hmark
  have hflag : (s.failWarmUp ch).flagSet .stageFault = true := by
    rw [State.failWarmUp, State.reportStageFault, setFlag_flagSet, decide_eq_true rfl, Bool.or_true]
  obtain ⟨hst, hwarm, hlock⟩ := (hstand.stage ch).state (.inl (by rw [hstage]; exact StageState.noConfusion))
  rw [hstage] at hst hwarm hlock
  exact ⟨hst, hlock, hwarm, (settle_reacts _ hmark).flags .stageFault hflag, hstand.pins⟩

/-- A stage's own change that leaves it not DOWN stands through the reactions. -/
theorem modStage_settles (s : State) (ch : Chan) {f : Stage → Stage} (hstay : Claims.Staying s)
    (hup : (f (s.stage ch)).state ≠ .down) :
    let t := (s.modStage ch f).settle
    (t.stage ch).state = (f (s.stage ch)).state ∧ (t.stage ch).warmUp = (f (s.stage ch)).warmUp ∧
      (t.stage ch).lockout = (f (s.stage ch)).lockout := by
  have hmark : Claims.Staying (s.modStage ch f) := hstay
  have hstage := State.modStage_stage_self s ch f
  have h := ((settle_stagesStand hmark).stage ch).state (.inl (by rwa [hstage]))
  rwa [hstage] at h

theorem modStage_congr {f g : Stage → Stage} (h : f (s.stage ch) = g (s.stage ch)) : s.modStage ch f = s.modStage ch g := by
  have h' : f s.stages[ch] = g s.stages[ch] := h
  simp only [State.modStage, modifyAt, h']

end

end Sys2Proof.Machine

namespace Sys2Proof.Proofs

open Machine Claims

/-- Settles O47: each edge by the stage's state, and what of the outcome the reactions keep. -/
theorem stageInputsMoveTheStage : Obligations.StageInputsMoveTheStage := by
  rintro s ch c ⟨hacts, hc, hstay⟩ g
  refine ⟨fun hpin hst => ?_, fun hpin hst => ?_, fun hpin => ?_, fun hpin => ?_⟩
  · have hexec : exec (.stageReadyRises ch) s =
        .next ((s.setReadyPin ch true).modStage ch fun g => { g with state := .ready, warmUp := none }).settle := by
      rw [exec, execStageReadyRises, hpin]
      exact event_of_taken (stageTakes_of (s := s.setReadyPin ch true) (cond := fun g => g.state == .called) hacts hc (beq_iff_eq.mpr hst))
    obtain ⟨hstate, hwarm, -⟩ := modStage_settles (s.setReadyPin ch true) ch (f := fun g => { g with state := .ready, warmUp := none })
      hstay StageState.noConfusion
    refine ⟨_, hexec, hstate, hwarm, ?_⟩
    exact settle_still ((s.setReadyPin ch true).modStage ch fun g => { g with state := .ready, warmUp := none }) hstay
  · have hexec : exec (.stageReadyFalls ch) s = .next ((s.setReadyPin ch false).tripStage ch).settle := by
      rw [exec, execStageReadyFalls, hpin]
      exact event_of_taken (stageTakes_of (s := s.setReadyPin ch false) (cond := fun g => g.state == .ready) hacts hc (beq_iff_eq.mpr hst))
    obtain ⟨hstate, hlockout, hleaving, hflag, hforced, -⟩ := tripStage_settles (s := s.setReadyPin ch false) hc hstay
    refine ⟨_, hexec, ?_, hleaving, hflag, hforced⟩
    have htrip : (s.setReadyPin ch false).pins.trip[ch] = s.pins.trip[ch] := rfl
    rw [htrip] at hstate hlockout
    split
    · next h => rw [if_pos h] at hstate; exact hstate
    · next h => rw [if_neg h] at hstate; exact ⟨hstate, hlockout (eq_false_of_ne_true h)⟩
  · have htrip : (s.setTripPin ch true).pins.trip[ch] = true := Vector.getElem_set_self _
    have hexec : exec (.tripInputAsserts ch) s = .next ((s.setTripPin ch true).tripUp ch).settle := by
      rw [exec, execTripInputAsserts, hpin]
      exact event_of_taken (stageTakes_of (s := s.setTripPin ch true) (cond := fun _ => true) hacts hc rfl)
    have hcalled : g.state = .called → (s.setTripPin ch true).tripUp ch = (s.setTripPin ch true).failWarmUp ch := fun h => by
      have h' : ((s.setTripPin ch true).stage ch).state = .called := h
      simp only [State.tripUp, h']
    have hready : g.state = .ready → (s.setTripPin ch true).tripUp ch = (s.setTripPin ch true).tripStage ch := fun h => by
      have h' : ((s.setTripPin ch true).stage ch).state = .ready := h
      simp only [State.tripUp, h']
    have hother : g.state = .down ∨ g.state = .tripped ∨ g.state = .lockout →
        (s.setTripPin ch true).tripUp ch = s.setTripPin ch true := fun h => by
      have h' : ((s.setTripPin ch true).stage ch).state = .down ∨ ((s.setTripPin ch true).stage ch).state = .tripped ∨
        ((s.setTripPin ch true).stage ch).state = .lockout := h
      rcases h' with e | e | e <;> simp only [State.tripUp, e]
    obtain ⟨fstate, flockout, fwarm, fflag, fpins⟩ := failWarmUp_settles (s.setTripPin ch true) ch hstay
    obtain ⟨rstate, -, rleaving, rflag, rforced, rpins⟩ := tripStage_settles (s := s.setTripPin ch true) hc hstay
    have hstand := settle_stagesStand (s := s.setTripPin ch true) hstay
    rw [if_pos htrip] at rstate
    refine ⟨_, hexec, ?_, fun h => ?_, fun h => ?_, fun h => ?_⟩
    · cases hg : g.state with
      | called => rw [hcalled hg]; exact fpins
      | ready => rw [hready hg]; exact rpins
      | down => rw [hother (.inl hg)]; exact hstand.pins
      | tripped => rw [hother (.inr (.inl hg))]; exact hstand.pins
      | lockout => rw [hother (.inr (.inr hg))]; exact hstand.pins
    · rw [hcalled h]
      exact ⟨fstate, flockout, fwarm, fflag⟩
    · rw [hready h]
      exact ⟨rstate, rleaving, rflag, rforced⟩
    · rw [hother h]
      exact ((hstand.stage ch).state (.inr htrip)).1
  · have hact : Acts (.tripInputClears ch) s ((s.setTripPin ch false).modStage ch Stage.tripDown) := by
      rw [Acts, exec, execTripInputClears, hpin]
      exact event_of_taken (stageTakes_of (s := s.setTripPin ch false) (cond := fun _ => true) hacts hc rfl)
    have becomes : ∀ f : Stage → Stage, Stage.tripDown g = f g → Acts (.tripInputClears ch) s ((s.setTripPin ch false).modStage ch f) :=
      fun f hf => by rwa [modStage_congr (s := s.setTripPin ch false) (ch := ch) (g := f) hf] at hact
    have hdown : (s.setTripPin ch false).stage ch = g := rfl
    refine ⟨fun hst => ?_, fun hst hsome => ?_, fun hst hnone => ?_⟩
    · have hf : Stage.tripDown g = { g with state := .lockout, lockout := some 0 } := by simp only [Stage.tripDown, hst]
      obtain ⟨hstate, -, hlock⟩ := modStage_settles (s.setTripPin ch false) ch
        (f := fun g => { g with state := .lockout, lockout := some 0 }) hstay StageState.noConfusion
      exact ⟨_, becomes (fun g => { g with state := .lockout, lockout := some 0 }) hf, hstate, hlock⟩
    · have hf : Stage.tripDown g = id g := by
        have hne : g.lockout ≠ none := fun e => by rw [e] at hsome; cases hsome
        simp only [Stage.tripDown, hst, if_neg hne, id]
      have hup : (id ((s.setTripPin ch false).stage ch)).state ≠ .down := by
        rw [id, hdown, hst]; exact StageState.noConfusion
      obtain ⟨hstate, -, hlock⟩ := modStage_settles (s.setTripPin ch false) ch (f := id) hstay hup
      exact ⟨_, becomes id hf, hstate.trans hst, hlock⟩
    · have hf : Stage.tripDown g = { g with state := .down } := by simp only [Stage.tripDown, hst, hnone, if_true]
      exact becomes (fun g => { g with state := .down }) hf

/-- Settles O48: each timer's expiry by the state of the stage or service. -/
theorem stageTimersExpire : Obligations.StageTimersExpire := by
  refine ⟨?_, fun s v hacts hst => ?_⟩
  · rintro s ch c ⟨hacts, hc, hstay⟩
    refine ⟨fun hst htimer => ?_, fun hst htimer => ⟨fun htrip => ?_, fun htrip => ?_⟩⟩
    · have hexec : exec (.warmUpTimerExpires ch) s = .next (s.failWarmUp ch).settle := by
        rw [exec, execWarmUpTimerExpires]
        exact event_of_taken (stageTakes_of hacts hc (by rw [hst, htimer]; rfl))
      obtain ⟨hstate, hlockout, hwarm, hflag, -⟩ := failWarmUp_settles s ch hstay
      exact ⟨_, hexec, hstate, hlockout, hwarm, hflag⟩
    · have hexec : exec (.lockoutTimerExpires ch) s = .next (s.modStage ch fun g => { g with lockout := none }).settle := by
        rw [exec, execLockoutTimerExpires, event_of_taken (stageTakes_of hacts hc (by rw [hst, htimer]; rfl)), htrip]
        rfl
      obtain ⟨hstate, -, hlock⟩ := modStage_settles s ch (f := fun g => { g with lockout := none }) hstay
        (by dsimp only; rw [hst]; exact StageState.noConfusion)
      exact ⟨_, hexec, hstate.trans hst, hlock⟩
    · rw [Acts, exec, execLockoutTimerExpires, event_of_taken (stageTakes_of hacts hc (by rw [hst, htimer]; rfl)), htrip]
      rfl
  · have hm : s.isMember = true := isMember_of_station s hst
    refine ⟨fun htimer => ?_, fun ch hcond htimer hch => ?_, fun ch hch htimer => ?_⟩
    · rw [Acts, exec, execCallTimerExpires, event_of_taken (by rw [hacts, hm, htimer]; rfl)]
    · have hfollow : Timer.atLeast (2 * s.svcSetting v ServiceCfg.callDelay)
          (Timer.follow (s.callCondition v) (s.supply.get v).callTimer) = true := by
        cases hcall : (s.supply.get v).callTimer with
        | none => rw [hcall] at htimer; cases htimer
        | some n => rw [hcall] at htimer; rw [hcond]; exact htimer
      have hstep : callStep v s = (s.modSupply v fun p => { p with callTimer := none }).callStage ch := by
        unfold callStep
        dsimp only
        rw [if_pos hfollow, hch]
      rw [hstep]
      refine ⟨?_, congrArg Supply.callTimer (Per2.get_set_self s.supply v _)⟩
      rw [State.callStage, State.modStage_stage_self]
      have hpins : (s.modSupply v fun p => { p with callTimer := none }).pins = s.pins := rfl
      rw [hpins]
      split <;> rfl
    · rw [Acts, exec, execDropHoldTimerExpires, hch]
      exact event_of_taken (by rw [hacts, hm, htimer]; rfl)

end Sys2Proof.Proofs

namespace Sys2Proof.Machine

/-! ### The outlet commands -/

section
variable {s : State} {n : Byte} {ch : Chan} {c : OutletCfg}

theorem outletCommand_of_stopped (act : Chan → OutletCfg → State → State) (h : s.station = .start ∨ s.station = .inert) :
    s.outletCommand n act = s.answer .refused [] := by
  rw [State.outletCommand, if_pos ((stopped_iff _).mpr h)]

theorem outletCommand_of (act : Chan → OutletCfg → State → State) (h1 : s.station ≠ .start) (h2 : s.station ≠ .inert)
    (hn : n.toNat = ch.val + 1) (hc : s.outletCfg? ch = some c) : s.outletCommand n act = act ch c s := by
  simp only [State.outletCommand, stopped_eq_false h1 h2, channelOf_eq_some hn, hc, Bool.false_eq_true, if_false]

theorem outletCommand_of_unnamed (act : Chan → OutletCfg → State → State) (h1 : s.station ≠ .start) (h2 : s.station ≠ .inert)
    (hn : n.toNat = 0 ∨ 16 < n.toNat ∨ ∀ ch : Chan, n.toNat = ch.val + 1 → s.outletCfg? ch = none) :
    s.outletCommand n act = s.answer .badArg [] := by
  rw [State.outletCommand, stopped_eq_false h1 h2, if_neg Bool.false_ne_true]
  by_cases hrange : n.toNat = 0 ∨ 16 < n.toNat
  · rw [channelOf_eq_none hrange]
  · have hlt : n.toNat - 1 < 16 := by omega
    have hch : n.toNat = (⟨n.toNat - 1, hlt⟩ : Chan).val + 1 := by dsimp only; omega
    have hnone : ∀ ch : Chan, n.toNat = ch.val + 1 → s.outletCfg? ch = none := by
      rcases hn with h | h | h
      · exact absurd (.inl h) hrange
      · exact absurd (.inr h) hrange
      · exact h
    simp only [channelOf_eq_some hch, hnone _ hch]

end

/-! ### An outlet in OFF -/

/-- An outlet in OFF without a desired draw (R100, R117). -/
def Outlet.Rests (o : Outlet) : Prop := o.state = .off ∧ o.desired = 0

section
variable {up : Prop} {c? : Option OutletCfg} {o o' : Outlet}

theorem OutletCfg.desiredDraw_of_off (c : OutletCfg) (h : o.state = .off) : OutletCfg.desiredDraw c o = 0 := by
  unfold OutletCfg.desiredDraw
  split
  · simp only [h]
  · simp only [h]
  · rw [if_neg (by rw [h]; exact OutletState.noConfusion)]

theorem OutletCfg.settleState_of_off (c : OutletCfg) (h : o.state = .off) :
    (OutletCfg.settleState c o).state = .off := by
  unfold OutletCfg.settleState
  split
  · rw [Outlet.settlePulse_state, h]
  · rw [Outlet.settleRun, if_neg (by rw [h]; exact fun e => OutletState.noConfusion e.1), h]
  · exact h

/-- The steps of a record leave an outlet in OFF there; its desired draw becomes 0 or stays, and so does its grant. -/
theorem Outlet.Step.of_off (h : Outlet.Step up c? o o') (ho : o.state = .off) :
    o'.state = .off ∧ (o'.desired = 0 ∨ o'.desired = o.desired) ∧ (o.desired = 0 → o.grant = 0 → o'.grant = 0) := by
  have stays : ∀ {st : OutletState}, o.state = st → st ≠ .off → False := fun h hne => hne (h.symm.trans ho)
  have falls : ∀ {g : Nat}, (g ≤ o.grant ∨ (up ∧ g ≤ o.desired)) → o.desired = 0 → o.grant = 0 → g = 0 := by
    intro g hg hd hgr
    rcases hg with h | ⟨-, h⟩ <;> omega
  cases h with
  | level c _ _ =>
    have hsame : o.followLevel = o := by simp only [Outlet.followLevel, ho]
    rw [hsame]
    exact ⟨ho, .inr rfl, fun _ => id⟩
  | group c v m b _ _ _ =>
    have hsame : o.followGroup b = o := by simp only [Outlet.followGroup, ho]
    rw [hsame]
    exact ⟨ho, .inr rfl, fun _ => id⟩
  | desire c _ => exact ⟨ho, .inl (OutletCfg.desiredDraw_of_off c ho), fun _ => id⟩
  | stroke c v pin g _ _ hg => exact ⟨ho, .inr rfl, falls hg⟩
  | reserve c g _ _ hg => exact ⟨ho, .inr rfl, falls hg⟩
  | settle c _ =>
    refine ⟨OutletCfg.settleState_of_off c (o := o.settleRecord) ho, .inr (OutletCfg.settleState_desired c _), fun _ hg => ?_⟩
    rw [(OutletCfg.settleState_valve c _).1]
    exact hg
  | cutPulse _ => exact ⟨ho, .inl rfl, fun _ => id⟩
  | dropPulse _ => exact ⟨ho, .inl rfl, fun _ => id⟩
  | discard hst _ => exact (stays hst OutletState.noConfusion).elim
  | suspend hst => exact (stays hst OutletState.noConfusion).elim
  | start hst => exact (stays hst OutletState.noConfusion).elim
  | resume hst => exact (stays hst OutletState.noConfusion).elim
  | openPulse hst => exact (stays hst OutletState.noConfusion).elim

theorem Outlet.Rests.step (ho : o.Rests) (h : Outlet.Step up c? o o') : o'.Rests := by
  obtain ⟨hst, hdesired, -⟩ := h.of_off ho.1
  exact ⟨hst, hdesired.elim id fun e => e.trans ho.2⟩

theorem Outlet.Rests.grant_step (ho : o.Rests ∧ o.grant = 0) (h : Outlet.Step up c? o o') : o'.Rests ∧ o'.grant = 0 :=
  ⟨ho.1.step h, (h.of_off ho.1.1).2.2 ho.1.2 ho.2⟩

end

section
variable {s : State} {ch : Chan} {c : OutletCfg}

theorem modOutlet_self_ind {f : Outlet → Outlet} {P : Outlet → Prop} (h : P (f (s.outlet ch))) : P ((s.modOutlet ch f).outlet ch) := by
  rwa [State.modOutlet_outlet_self]

theorem withdrawalEndStep_reacts_of_staying (h : s.memb.leaveMark ≠ .restart) : Reacts s (withdrawalEndStep s) := by
  refine .ite (fun hend => ?_) fun _ => .refl s
  rw [endWithdrawal_eq, if_neg (by simpa using h)]
  refine .aside (leaveLine_aside s ?_)
  simp only [Bool.and_eq_true, beq_iff_eq] at hend
  rw [← State.station, hend.1.1]
  exact Station.noConfusion

/-- The outlets' own work gives an outlet in OFF its desired draw of 0 (R100). -/
theorem outletPhase_rests (hc : s.outletCfg? ch = some c) (ho : (s.outlet ch).state = .off) : (s.outletPhase.outlet ch).Rests := by
  have off : ∀ {t u : State}, Works True t u → (t.outlet ch).state = .off → (u.outlet ch).state = .off := fun h =>
    h.keeps ch (fun o => o.state = .off) fun o o' hstep ho => (hstep.of_off ho).1
  have hlevel := Works.forEach (up := True) channels levelStep (fun p t => levelStep_works t p) s
  have hgroup := hlevel.trans (Works.forEach (up := True) channels groupStep (fun p t => groupStep_works t p) _)
  have hcfg : (forEach channels groupStep (forEach channels levelStep s)).outletCfg? ch = some c := by rw [hgroup.outletCfg, hc]
  have hoff := off hgroup ho
  unfold State.outletPhase
  generalize forEach channels groupStep (forEach channels levelStep s) = u at hcfg hoff ⊢
  have hdesired : ((forEach channels desiredStep u).outlet ch).Rests := by
    refine forEach_reaches (I := fun t => t.outletCfg? ch = some c ∧ (t.outlet ch).state = .off) (P := fun t => (t.outlet ch).Rests)
      (mem_channels ch) (fun p t ht => ?_) (fun p t ht hP => ?_) (fun t ht => ?_) ⟨hcfg, hoff⟩
    · have hw : Works True t (desiredStep p t) := desiredStep_works t p
      exact ⟨by rw [hw.outletCfg, ht.1], off hw ht.2⟩
    · have hw : Works True t (desiredStep p t) := desiredStep_works t p
      exact hw.keeps ch Outlet.Rests (fun o o' hstep ho => ho.step hstep) hP
    · rw [desiredStep, ht.1]
      exact modOutlet_self_ind (P := Outlet.Rests) ⟨ht.2, OutletCfg.desiredDraw_of_off c ht.2⟩
  have hrest : Works True (forEach channels desiredStep u) (forEach channels lowerStep (forEach channels desiredStep u)).requeueAll :=
    (Works.forEach channels lowerStep (fun p t => lowerStep_works t p) _).trans (requeueAll_works _)
  exact hrest.keeps ch Outlet.Rests (fun o o' hstep ho => ho.step hstep) hdesired

/-- An outlet in OFF at an event rests at its end. -/
theorem settle_rests (hlive : s.live = true) (hstay : Claims.Staying s) (hc : s.outletCfg? ch = some c)
    (ho : (s.outlet ch).state = .off) : (s.settle.outlet ch).Rests := by
  have later : ∀ {t u : State}, Reacts t u → (t.outlet ch).Rests → (u.outlet ch).Rests := fun h =>
    h.outlet_ind (P := Outlet.Rests) (fun up o o' hstep ho => ho.step hstep) fun o ho => ho
  have hfirst : (s.react.outlet ch).Rests := by
    have hphase := outletPhase_rests hc ho
    have hwork : Reacts s.outletPhase s.reactWork :=
      ((((contactPhase_reacts _).trans (holdPhase_reacts _)).trans (.aside (stagePhase_aside _))).trans
        (.aside (framePhase_aside _))).trans (orphanEndStep_reacts _)
    have hwithdraw : Reacts s.reactWork s.react := by
      have hmark := reactWork_leaveMark s hstay
      rw [react_of_live s hlive]
      generalize s.reactWork = t at hmark ⊢
      exact withdrawalEndStep_reacts_of_staying hmark
    exact later hwithdraw (later hwork hphase)
  have h1 := react_leaveMark s hstay
  have h2 := react_leaveMark _ h1
  have h3 := react_leaveMark _ h2
  exact later (rest_reacts _) (later (react_reacts _ h3) (later (react_reacts _ h2) (later (react_reacts _ h1) hfirst)))

/-- An outlet taken out of use rests without a grant (R116, R117). -/
theorem takeOut_rests (hc : s.outletCfg? ch = some c) :
    ((s.takeOut .off ch).outlet ch).Rests ∧ ((s.takeOut .off ch).outlet ch).grant = 0 := by
  have hmod : ((s.modOutlet ch (Outlet.takeOut .off)).outlet ch).Rests := modOutlet_self_ind (P := Outlet.Rests) ⟨rfl, rfl⟩
  have hrests : (((s.modOutlet ch (Outlet.takeOut .off)).setGrant ch 0).outlet ch).Rests :=
    (setGrant_zero_works (up := False) _ ch).keeps ch Outlet.Rests (fun o o' hstep ho => ho.step hstep) hmod
  have hgrant : (((s.modOutlet ch (Outlet.takeOut .off)).setGrant ch 0).outlet ch).grant = 0 :=
    setGrant_grant (s.modOutlet ch (Outlet.takeOut .off)) (by
      have hcfg : (s.modOutlet ch (Outlet.takeOut .off)).outletCfg? ch = some c := hc
      rw [hcfg]; rfl)
  rw [State.takeOut, State.leaveStartOrder_outlet, State.leaveQueue_outlet]
  exact ⟨hrests, hgrant⟩

theorem takeOut_memb (s : State) (st : OutletState) (ch : Chan) : (s.takeOut st ch).memb = s.memb :=
  memb_of_apart (State.takeOut_apart s st ch)

/-- DISABLE-OUTLET but on a run: the outlet in OFF, out of FAULT too, and its grant gone where it was not in OFF (R116, R117,
R119). -/
theorem disable_rests (hc : s.outletCfg? ch = some c) (hst : (s.outlet ch).state ≠ .running) :
    ((s.disable ch).outlet ch).state = .off ∧ (s.disable ch).memb = s.memb ∧
    ((s.outlet ch).state ≠ .off → ((s.disable ch).outlet ch).Rests ∧ ((s.disable ch).outlet ch).grant = 0) := by
  have htaken := takeOut_rests hc
  have out : ((s.takeOut .off ch).outlet ch).state = .off ∧ (s.takeOut .off ch).memb = s.memb ∧
      ((s.outlet ch).state ≠ .off → ((s.takeOut .off ch).outlet ch).Rests ∧ ((s.takeOut .off ch).outlet ch).grant = 0) :=
    ⟨htaken.1.1, takeOut_memb s .off ch, fun _ => htaken⟩
  cases h : (s.outlet ch).state with
  | off =>
    have hsame : s.disable ch = s := by simp only [State.disable, h]
    rw [hsame]
    exact ⟨h, rfl, fun e => absurd rfl e⟩
  | fault =>
    have hcleared : s.disable ch = (s.takeOut .off ch).modOutlet ch fun o => { o with faultKind := none } := by
      simp only [State.disable, h]
    rw [hcleared, State.modOutlet_outlet_self]
    exact ⟨htaken.1.1, takeOut_memb s .off ch, fun _ => htaken⟩
  | running => exact absurd h hst
  | idle => simpa only [State.disable, h] using out
  | active => simpa only [State.disable, h] using out
  | standby => simpa only [State.disable, h] using out
  | waiting => simpa only [State.disable, h] using out
  | suspended => simpa only [State.disable, h] using out

/-- DISABLE-OUTLET leaves the settings and the service line (R116, R117). -/
theorem disable_leaves (s : State) (ch : Chan) : (s.disable ch).serial = s.serial ∧ (s.disable ch).loader = s.loader := by
  have out : (s.takeOut .off ch).serial = s.serial ∧ (s.takeOut .off ch).loader = s.loader :=
    ⟨show (s.takeOut .off ch).apart.serial = s.apart.serial from congrArg State.serial (State.takeOut_apart s .off ch),
      loader_of_apart (State.takeOut_apart s .off ch)⟩
  unfold State.disable
  split
  · exact ⟨rfl, rfl⟩
  · exact out
  · exact ⟨rfl, rfl⟩
  all_goals exact out

theorem live_of_outlet (h1 : s.station ≠ .start) (h2 : s.station ≠ .inert) (hc : s.outletCfg? ch = some c) : s.live = true := by
  have himage : s.loader.image.isSome = true := by
    cases hi : s.loader.image with
    | some im => rfl
    | none =>
      have hnone : s.outletCfg? ch = none := by simp only [State.outletCfg?, State.cfg, hi]
      rw [hnone] at hc
      cases hc
  rw [State.live, himage, Bool.true_and]
  cases hst : s.station with
  | start => exact absurd hst h1
  | inert => exact absurd hst h2
  | syncing => rfl
  | joining => rfl
  | member => rfl
  | orphan => rfl
  | halted ended => rfl

end

end Sys2Proof.Machine

namespace Sys2Proof.Claims

open Machine

section
variable {s : State} {n : Byte} {ch : Chan} {c : OutletCfg}

theorem enableOutlet_eq (h : Free s) : exec (.enableOutlet n) s = .next (s.outletCommand n State.enableCommand) :=
  serve_of_free h.1 h.2

theorem disableOutlet_eq (h : Free s) : exec (.disableOutlet n) s =
    .next (s.outletCommand n fun ch _ t => ((t.answer .done []).disable ch).settle) := serve_of_free h.1 h.2

theorem clearOutlet_eq (h : Free s) : exec (.clearOutlet n) s = .next (s.outletCommand n State.clearCommand) :=
  serve_of_free h.1 h.2

/-- DISABLE-OUTLET but on a run (R116, R117, R119). -/
theorem disableOutlet_answers (hstay : Staying s) (h1 : s.station ≠ .start) (h2 : s.station ≠ .inert)
    (hc : s.outletCfg? ch = some c) (hst : (s.outlet ch).state ≠ .running) :
    let t := ((answered s .done []).disable ch).settle
    t.serial = (answered s .done []).serial ∧ (t.outlet ch).state = .off ∧
      ((s.outlet ch).state ≠ .off → (t.outlet ch).grant = 0) ∧ (t.outlet ch).desired = 0 := by
  have hca : (answered s .done []).outletCfg? ch = some c := hc
  have hlivea : (answered s .done []).live = true := live_of_outlet (s := answered s .done []) h1 h2 hc
  obtain ⟨hoff, hmemb, hrests⟩ := disable_rests hca hst
  obtain ⟨hserial, hloader⟩ := disable_leaves (answered s .done []) ch
  have hst' : (answered s .done []).outlet ch = s.outlet ch := rfl
  rw [hst'] at hrests
  have hlive : ((answered s .done []).disable ch).live = true := by
    rw [State.live, State.station, hloader, hmemb]
    exact hlivea
  have hmark : Staying ((answered s .done []).disable ch) := by
    have hsame : (answered s .done []).memb = s.memb := rfl
    rw [Staying, hmemb, hsame]
    exact hstay
  have hcfg : ((answered s .done []).disable ch).outletCfg? ch = some c := by
    rw [← hca]
    exact outletCfg_of_image (by rw [hloader])
  generalize (answered s .done []).disable ch = u at *
  obtain ⟨hstate, hdesired⟩ := settle_rests hlive hmark hcfg hoff
  refine ⟨?_, hstate, fun hne => ?_, hdesired⟩
  · exact (congrArg Still.serial (settle_still u hmark)).trans hserial
  · exact ((settle_reacts u hmark).outlet_ind (P := fun o => o.Rests ∧ o.grant = 0)
      (fun up o o' hstep ho => Outlet.Rests.grant_step ho hstep) (fun o ho => ho) (hrests hne)).2

/-- An outlet enabled out of span is reported (R115, R142). -/
theorem enableOutlet_reports (hstay : Staying s) (hrange : (s.outlet ch).outOfRange = true) :
    let t := ((answered s .done []).enable ch c).settle
    t.serial = (answered s .done []).serial ∧ t.flagSet .outletFault = true ∧ (t.outlet ch).lastFault = some .demandRange := by
  have hmod : ((answered s .done []).modOutlet ch (OutletCfg.enterUse c)).still.serial = (answered s .done []).serial := rfl
  have hmemb : ((answered s .done []).modOutlet ch (OutletCfg.enterUse c)).outletPhase.memb = s.memb := by
    rw [State.outletPhase_memb]
    rfl
  have henable : (answered s .done []).enable ch c =
      ((answered s .done []).modOutlet ch (OutletCfg.enterUse c)).outletPhase.reportFault .demandRange ch := by
    have hmark : (((answered s .done []).modOutlet ch (OutletCfg.enterUse c)).outlet ch).outOfRange = true := by
      rw [State.modOutlet_outlet_self, OutletCfg.enterUse]
      split <;> exact hrange
    rw [State.enable, if_pos hmark]
  have hstill := State.outletPhase_still ((answered s .done []).modOutlet ch (OutletCfg.enterUse c))
  rw [henable]
  generalize ((answered s .done []).modOutlet ch (OutletCfg.enterUse c)).outletPhase = u at hmemb hstill ⊢
  have hmark : Staying (u.reportFault .demandRange ch) := reportFault_leaveMark u _ _ (by rw [hmemb]; exact hstay)
  have hend := (settle_still _ hmark).trans (reportFault_still u .demandRange ch)
  refine ⟨?_, (settle_reacts _ hmark).flags .outletFault (reportFault_flag u .demandRange ch), ?_⟩
  · exact (congrArg Still.serial hend).trans ((congrArg Still.serial hstill).trans hmod)
  · have hrecord : ((u.reportFault .demandRange ch).settle.outlet ch).still = ((u.reportFault .demandRange ch).outlet ch).still := by
      rw [← still_outlet, settle_still _ hmark, still_outlet]
    exact (congrArg OutletStill.lastFault hrecord).trans (reportFault_still_outlet (ch := ch) u .demandRange ch).2.1

end

end Sys2Proof.Claims

namespace Sys2Proof.Proofs

open Machine Claims

/-- Settles O53: the three commands by the outlet's state. -/
theorem outletCommandsByState : Obligations.OutletCommandsByState := by
  intro s n hfree
  refine ⟨fun hst i hi => ?_, fun h1 h2 => ⟨fun hn i hi => ?_, fun ch c hn hc => ?_⟩⟩
  · simp only [List.mem_cons, List.not_mem_nil, or_false] at hi
    rcases hi with rfl | rfl | rfl
    · rw [enableOutlet_eq hfree, outletCommand_of_stopped _ hst]; rfl
    · rw [disableOutlet_eq hfree, outletCommand_of_stopped _ hst]; rfl
    · rw [clearOutlet_eq hfree, outletCommand_of_stopped _ hst]; rfl
  · simp only [List.mem_cons, List.not_mem_nil, or_false] at hi
    rcases hi with rfl | rfl | rfl
    · rw [enableOutlet_eq hfree, outletCommand_of_unnamed _ h1 h2 hn]; rfl
    · rw [disableOutlet_eq hfree, outletCommand_of_unnamed _ h1 h2 hn]; rfl
    · rw [clearOutlet_eq hfree, outletCommand_of_unnamed _ h1 h2 hn]; rfl
  · have henable : exec (.enableOutlet n) s = .next (s.enableCommand ch c) := by
      rw [enableOutlet_eq hfree, outletCommand_of _ h1 h2 hn hc]
    have hdisable : exec (.disableOutlet n) s = .next ((answered s .done []).disable ch).settle := by
      rw [disableOutlet_eq hfree, outletCommand_of _ h1 h2 hn hc]; rfl
    have hclear : exec (.clearOutlet n) s = .next (s.clearCommand ch c) := by
      rw [clearOutlet_eq hfree, outletCommand_of _ h1 h2 hn hc]
    intro o a
    refine ⟨fun hoff hspan => ?_, fun hoff hspan hstay => ?_, fun hfault => ?_, fun hrun => ⟨?_, ?_⟩, fun hoff hfault hrun => ?_,
      fun hrun hstay => ?_, fun hfault hmoving => ?_, fun h => ?_⟩
    · have hcommand : s.enableCommand ch c = (a.enable ch c).settle := by
        have h : (s.outlet ch).state = .off := hoff
        simp only [State.enableCommand, h]; rfl
      have hplain : a.enable ch c = a.modOutlet ch (OutletCfg.enterUse c) := by
        refine if_neg ?_
        rw [State.modOutlet_outlet_self, OutletCfg.enterUse]
        split <;> exact fun e => Bool.false_ne_true (hspan.symm.trans e)
      rw [Acts, henable, hcommand, hplain]
    · have hcommand : s.enableCommand ch c = (a.enable ch c).settle := by
        have h : (s.outlet ch).state = .off := hoff
        simp only [State.enableCommand, h]; rfl
      exact ⟨_, henable.trans (congrArg _ hcommand), enableOutlet_reports hstay hspan⟩
    · have h : (s.outlet ch).state = .fault := hfault
      rw [henable]
      simp only [State.enableCommand, h]
      rfl
    · have h : (s.outlet ch).state = .running := hrun
      rw [Acts, henable]
      simp only [State.enableCommand, h]
      rfl
    · have h : ((answered s .done []).outlet ch).state = .running := hrun
      have hpending : (answered s .done []).disable ch = a.modOutlet ch fun o => { o with disablePending := true } := by
        simp only [State.disable, h]
        rfl
      rw [Acts, hdisable, hpending]
    · have hne : (s.outlet ch).state ≠ .off ∧ (s.outlet ch).state ≠ .fault ∧ (s.outlet ch).state ≠ .running := ⟨hoff, hfault, hrun⟩
      rw [henable]
      unfold State.enableCommand
      split
      · next h => exact absurd h hne.1
      · next h => exact absurd h hne.2.1
      · next h => exact absurd h hne.2.2
      all_goals rfl
    · exact ⟨_, hdisable, disableOutlet_answers hstay h1 h2 hc hrun⟩
    · rw [Acts, hclear, State.clearCommand, if_pos ⟨hfault, hmoving⟩]
      rfl
    · have hno : ¬((s.outlet ch).state = .fault ∧ (s.outlet ch).moving = false) := by
        rintro ⟨hfault, hmoving⟩
        rcases h with h | h
        · exact h hfault
        · exact Bool.false_ne_true (hmoving.symm.trans h)
      rw [hclear, State.clearCommand, if_neg hno]
      rfl

end Sys2Proof.Proofs

namespace Sys2Proof.Machine

/-! ### The load of a valid image (R201)

`State.withImage` is the state the image has just been handed to; from there the station enters SYNCING, and a sweep over the
channels reports the demand inputs out of span. -/

/-- The stations between the load of an image and its entry to the line, or out of it after a WITHDRAW of the load. -/
def Station.loading : Station → Bool
  | .syncing => true
  | .halted _ => true
  | .start => false
  | .inert => false
  | .joining => false
  | .member => false
  | .orphan => false

theorem Station.ne_member_of_loading {st : Station} (h : st.loading = true) : st ≠ .member := by rintro rfl; cases h

/-- What an image hands to the blocks and `State.still` shows: no report and no reaction changes any of it. -/
def Still.handed (q : Still) : Loader × Guard × ResponseTable × BitVec 9 × Vector Entry 32 × Pins × Timer :=
  (q.loader, q.guard, q.responses, q.alertMask, q.copy, q.pins, q.meterWindow)

/-- A change between the load and the end of its event: it leaves what the image handed to the blocks, with the bands and the
stages. -/
structure LoadFrame (s t : State) : Prop where
  station : s.station.loading = true → t.station.loading = true
  staying : Claims.Staying s → Claims.Staying t
  handed : t.still.handed = s.still.handed
  bands : ∀ v, t.bandsOf v = s.bandsOf v
  stages : t.stages = s.stages

theorem LoadFrame.refl (s : State) : LoadFrame s s := ⟨id, id, rfl, fun _ => rfl, rfl⟩

theorem LoadFrame.trans {s t u : State} (h1 : LoadFrame s t) (h2 : LoadFrame t u) : LoadFrame s u where
  station := h2.station ∘ h1.station
  staying := h2.staying ∘ h1.staying
  handed := h2.handed.trans h1.handed
  bands v := (h2.bands v).trans (h1.bands v)
  stages := h2.stages.trans h1.stages

theorem LoadFrame.loader {s t : State} (h : LoadFrame s t) : t.loader = s.loader := congrArg Prod.fst h.handed

theorem LoadFrame.responses {s t : State} (h : LoadFrame s t) : t.fru.responses = s.fru.responses :=
  congrArg (fun q => q.2.2.1) h.handed

theorem LoadFrame.outletCfg {s t : State} (h : LoadFrame s t) (ch : Chan) : t.outletCfg? ch = s.outletCfg? ch :=
  outletCfg_of_image (by rw [h.loader])

section
variable (s : State)

theorem enterHalted_stages : s.enterHalted.stages = s.stages := by
  have hz : (s.enter (.halted false)).zeroAll.stageUnit = s.stageUnit :=
    (stageUnit_of_apart (State.zeroAll_apart (s.enter (.halted false)))).trans rfl
  obtain ⟨hstages, -, -⟩ := unit_parts ((prune_stageUnit (s.enter (.halted false)).zeroAll .halted).trans hz)
  unfold State.enterHalted
  dsimp only
  generalize State.prune .halted _ = u at hstages
  exact hstages

theorem enterHalted_station : s.enterHalted.station = .halted false := by rw [State.station, enterHalted_memb]

theorem requestWithdraw_parts : (s.station.loading = true → s.requestWithdraw.station.loading = true) ∧
    (∀ v, s.requestWithdraw.bandsOf v = s.bandsOf v) ∧ s.requestWithdraw.stages = s.stages := by
  have halt : (s.station.loading = true → (s.setLeave .withdraw).enterHalted.station.loading = true) ∧
      (∀ v, (s.setLeave .withdraw).enterHalted.bandsOf v = s.bandsOf v) ∧ (s.setLeave .withdraw).enterHalted.stages = s.stages :=
    ⟨fun _ => by rw [enterHalted_station]; rfl, fun v => ((enterHalted_reacts (s.setLeave .withdraw)).bands v).trans rfl,
      enterHalted_stages _⟩
  unfold State.requestWithdraw
  split
  · exact halt
  · exact halt
  · exact halt
  · split
    · exact ⟨id, fun _ => rfl, rfl⟩
    · exact ⟨id, fun _ => rfl, rfl⟩
  all_goals exact ⟨id, fun _ => rfl, rfl⟩

theorem isolate_parts (kind : FaultKind) (ch : Chan) : (s.isolate kind ch).station = s.station ∧
    (∀ v, (s.isolate kind ch).bandsOf v = s.bandsOf v) ∧ (s.isolate kind ch).stages = s.stages := by
  have hapart := State.isolate_apart s kind ch
  obtain ⟨hstages, -, -⟩ := unit_parts (stageUnit_of_apart hapart)
  exact ⟨by rw [State.station, memb_of_apart hapart]; rfl, fun v => by rw [State.bandsOf, hold_of_apart hapart]; rfl, hstages⟩

/-- A fault reported leaves what the image handed to the blocks. -/
theorem reportFault_loadFrame (kind : FaultKind) (ch : Chan) : LoadFrame s (s.reportFault kind ch) := by
  have hresp : ∀ u : State, (u.station.loading = true → (u.respond kind ch).station.loading = true) ∧
      (∀ v, (u.respond kind ch).bandsOf v = u.bandsOf v) ∧ (u.respond kind ch).stages = u.stages := by
    intro u
    unfold State.respond
    split
    · exact ⟨id, fun _ => rfl, rfl⟩
    · split
      · obtain ⟨hst, hrest⟩ := isolate_parts u kind ch
        exact ⟨fun h => hst ▸ h, hrest⟩
      · exact ⟨id, fun _ => rfl, rfl⟩
    · exact requestWithdraw_parts u
  obtain ⟨hst, hbands, hstages⟩ := hresp ((s.setFlag .outletFault).countOutletFault.modOutlet ch fun o => { o with lastFault := some kind })
  exact ⟨hst, reportFault_leaveMark s kind ch, by rw [reportFault_still]; rfl, hbands, hstages⟩

theorem loadFaultStep_loadFrame (ch : Chan) : LoadFrame s (loadFaultStep ch s) := by
  unfold loadFaultStep
  split
  · exact reportFault_loadFrame s .demandRange ch
  · exact .refl s

/-- The stages stand at their initial values, and the station is not in MEMBER, where alone a stage is called. -/
structure StagesInitial (s : State) : Prop where
  station : s.station ≠ .member
  stages : s.stages = Vector.replicate 16 Stage.initial

section
variable {s}

theorem StagesInitial.of_unit {t : State} (h : StagesInitial s) (hunit : t.stageUnit = s.stageUnit) (hst : t.station = s.station) :
    StagesInitial t := ⟨hst ▸ h.station, (unit_parts hunit).1.trans h.stages⟩

theorem clearLeaving_stagesInitial (h : StagesInitial s) : StagesInitial s.clearLeaving := by
  refine ⟨h.station, ?_⟩
  rw [State.clearLeaving]
  dsimp only
  rw [h.stages]
  decide

theorem enterSyncing_stagesInitial (h : StagesInitial s) : StagesInitial s.enterSyncing := by
  have hpruned : StagesInitial (s.prune .all) := h.of_unit (prune_stageUnit s .all) (by rw [State.station, prune_memb]; rfl)
  refine ⟨by rw [enterSyncing_station]; exact Station.noConfusion, ?_⟩
  have hstages : s.enterSyncing.stages = (s.prune .all).clearLeaving.stages := by
    unfold State.enterSyncing
    dsimp only
    generalize s.prune .all = u
    rfl
  rw [hstages]
  exact (clearLeaving_stagesInitial hpruned).stages

theorem enterHalted_stagesInitial (h : StagesInitial s) : StagesInitial s.enterHalted :=
  ⟨by rw [enterHalted_station]; exact Station.noConfusion, (enterHalted_stages s).trans h.stages⟩

theorem withdrawalEndStep_stagesInitial (hmark : Claims.Staying s) (h : StagesInitial s) : StagesInitial (withdrawalEndStep s) := by
  unfold withdrawalEndStep
  split
  · rw [endWithdrawal_eq, if_neg (by rw [beq_iff_eq]; exact hmark)]
    have hcut : StagesInitial (s.prune .all).endPause :=
      h.of_unit ((endPause_stageUnit _).trans (prune_stageUnit s .all))
        (by rw [State.station, endPause_memb, prune_memb, State.station])
    have hcleared := clearLeaving_stagesInitial hcut
    refine ⟨?_, (unit_parts (leaveLine_stageUnit s)).1.trans hcleared.stages⟩
    have hst : s.leaveLine.station = .halted true := by
      simp only [State.leaveLine, State.station, State.turnLine, State.modLiu, State.modLedger, State.modMemb]
    rw [hst]
    exact Station.noConfusion
  · exact h

/-- A round of reactions leaves initial stages initial. -/
theorem react_stagesInitial (hmark : Claims.Staying s) (h : StagesInitial s) : StagesInitial s.react := by
  cases hlive : s.live with
  | false => rw [react_of_not_live s hlive]; exact h
  | true =>
    have houtlet : StagesInitial s.outletPhase := h.of_unit (stageUnit_of_apart s.outletPhase_apart) (outletPhase_station s)
    have hcontact : s.outletPhase.contactPhase = s.outletPhase := by
      rw [State.contactPhase, if_neg]
      rw [Bool.and_eq_true, isMember_iff]
      exact fun e => houtlet.station e.1
    have hhold : StagesInitial s.outletPhase.holdPhase :=
      houtlet.of_unit (holdPhase_stageUnit _) (congrArg Membership.station (State.holdPhase_memb _))
    have hstage : StagesInitial s.outletPhase.holdPhase.stagePhase := by
      generalize s.outletPhase.holdPhase = u at hhold ⊢
      rw [State.stagePhase, if_neg (by rw [isMember_iff]; exact hhold.station)]
      exact ⟨hhold.station, hhold.stages⟩
    have hframe : StagesInitial s.outletPhase.holdPhase.stagePhase.framePhase :=
      hstage.of_unit (framePhase_stageUnit _) (framePhase_station _)
    have hwork : StagesInitial s.reactWork := by
      rw [State.reactWork, hcontact]
      unfold orphanEndStep
      split
      · unfold State.endOrphan
        split
        · exact enterSyncing_stagesInitial hframe
        · exact enterHalted_stagesInitial hframe
      · exact hframe
    have hleave := reactWork_leaveMark s hmark
    rw [react_of_live s hlive]
    generalize s.reactWork = t at hwork hleave
    exact withdrawalEndStep_stagesInitial hleave hwork

theorem settle_stagesInitial (hmark : Claims.Staying s) (h : StagesInitial s) : StagesInitial s.settle := by
  have h1 := react_leaveMark s hmark
  have h2 := react_leaveMark _ h1
  have h3 := react_leaveMark _ h2
  have hrounds := react_stagesInitial h3 (react_stagesInitial h2 (react_stagesInitial h1 (react_stagesInitial hmark h)))
  exact hrounds.of_unit (rest_stageUnit _) (rest_station _)

end

end

end Sys2Proof.Machine

namespace Sys2Proof.Machine

/-! ### The first state of an outlet in use (R99, R102, R207) -/

/-- An outlet enabled at the load of the image, at the demand level `l`: IDLE for BATCH, ACTIVE for MONITOR, and IDLE or ACTIVE for
MODULATING, which has been `followed` to its level once the outlets' own work is done. -/
structure Outlet.FirstUse (c : OutletCfg) (l : Nat) (followed : Prop) (o : Outlet) : Prop where
  level : o.level = l
  ended : o.endOfRun = false
  state : o.state = .idle ∨ o.state = .active
  batch : c.batch?.isSome = true → o.state = .idle
  monitor : ∀ r, c.kind = .monitor r → o.state = .active
  active : c.modulating?.isSome = true → o.state = .active → l ≠ 0
  idle : c.modulating?.isSome = true → o.state = .idle → followed → l = 0

section
variable {c : OutletCfg} {l : Nat} {followed up : Prop} {o o' : Outlet}

theorem Outlet.FirstUse.congr (h : o.FirstUse c l followed) (hlevel : o'.level = o.level) (hended : o'.endOfRun = o.endOfRun)
    (hstate : o'.state = o.state) : o'.FirstUse c l followed where
  level := hlevel.trans h.level
  ended := hended.trans h.ended
  state := by rw [hstate]; exact h.state
  batch := by rw [hstate]; exact h.batch
  monitor := by rw [hstate]; exact h.monitor
  active := by rw [hstate]; exact h.active
  idle := by rw [hstate]; exact h.idle

theorem OutletCfg.not_batch_of_modulating (h : c.modulating?.isSome = true) : c.batch?.isSome = false ∧ ∀ r, c.kind ≠ .monitor r := by
  obtain ⟨m, hm⟩ := Option.isSome_iff_exists.mp h
  obtain ⟨w, hk⟩ := OutletCfg.kind_of_modulating hm
  exact ⟨by rw [OutletCfg.batch?, hk]; rfl, fun r e => by rw [hk] at e; cases e⟩

/-- A MODULATING outlet that follows its level is where the level says (R102). -/
theorem Outlet.FirstUse.followLevel (h : o.FirstUse c l followed) (hc : c.modulating?.isSome = true) : o.followLevel.FirstUse c l True := by
  obtain ⟨hbatch, hmonitor⟩ := OutletCfg.not_batch_of_modulating hc
  have hlevel : o.followLevel.level = l := (by unfold Outlet.followLevel; repeat' split
                                               all_goals rfl : o.followLevel.level = o.level).trans h.level
  have hended : o.followLevel.endOfRun = false := (by unfold Outlet.followLevel; repeat' split
                                                      all_goals rfl : o.followLevel.endOfRun = o.endOfRun).trans h.ended
  have hstate : o.followLevel.state = if l = 0 then .idle else .active := by
    rcases h.state with hs | hs
    · simp only [Outlet.followLevel, hs, h.level]
      split
      · exact hs
      · rfl
    · have hl := h.active hc hs
      simp only [Outlet.followLevel, hs, h.level, if_neg hl]
  refine ⟨hlevel, hended, ?_, fun e => ?_, fun r e => absurd e (hmonitor r), fun _ e => ?_, fun _ e _ => ?_⟩
  · rw [hstate]; split
    · exact .inl rfl
    · exact .inr rfl
  · rw [hbatch] at e; cases e
  · rw [hstate] at e; split at e
    · cases e
    · assumption
  · rw [hstate] at e; split at e
    · assumption
    · cases e

theorem Outlet.FirstUse.settleState (h : o.FirstUse c l followed) : (OutletCfg.settleState c o).FirstUse c l followed := by
  unfold OutletCfg.settleState
  split
  · exact h.congr (by unfold Outlet.settlePulse; repeat' split
                      all_goals rfl) (by unfold Outlet.settlePulse; repeat' split
                                         all_goals rfl) (Outlet.settlePulse_state _ o)
  · rw [Outlet.settleRun, if_neg (by rw [h.ended]; exact fun e => Bool.noConfusion e.2)]
    exact h.congr rfl rfl rfl
  · exact h

/-- The steps of a record leave an outlet in the first state of its use. -/
theorem Outlet.FirstUse.step (h : o.FirstUse c l followed) (hstep : Outlet.Step up (some c) o o') : o'.FirstUse c l followed := by
  have stays : ∀ {st : OutletState}, o.state = st → st ≠ .idle → st ≠ .active → False := by
    rintro st hst hi ha
    rcases h.state with e | e
    · exact hi (hst.symm.trans e)
    · exact ha (hst.symm.trans e)
  cases hstep with
  | level c' hc hm =>
    obtain rfl := Option.some.inj hc
    have hf := h.followLevel hm
    exact ⟨hf.level, hf.ended, hf.state, hf.batch, hf.monitor, hf.active, fun hm' hi _ => hf.idle hm' hi trivial⟩
  | group c' v m b hc hk hm =>
    rcases h.state with e | e
    · exact h.congr (by unfold Outlet.followGroup; repeat' split
                        all_goals rfl) (by unfold Outlet.followGroup; repeat' split
                                           all_goals rfl) (by
        simp only [Outlet.followGroup, e]
        split
        · rfl
        · split
          · rfl
          · exact e)
    · have hsame : o.followGroup b = o := by simp only [Outlet.followGroup, e]
      rwa [hsame]
  | desire c' hc => exact h.congr rfl rfl rfl
  | stroke c' v pin g _ _ _ => exact h.congr rfl rfl rfl
  | reserve c' g _ _ _ => exact h.congr rfl rfl rfl
  | settle c' hc =>
    obtain rfl := Option.some.inj hc
    have hr : o.settleRecord.FirstUse c l followed := h.congr rfl rfl rfl
    exact hr.settleState
  | cutPulse _ => exact h.congr rfl rfl rfl
  | dropPulse _ => exact h.congr rfl rfl rfl
  | discard hst _ => exact (stays hst OutletState.noConfusion OutletState.noConfusion).elim
  | suspend hst => exact (stays hst OutletState.noConfusion OutletState.noConfusion).elim
  | start hst => exact (stays hst OutletState.noConfusion OutletState.noConfusion).elim
  | resume hst => exact (stays hst OutletState.noConfusion OutletState.noConfusion).elim
  | openPulse hst => exact (stays hst OutletState.noConfusion OutletState.noConfusion).elim

end

section
variable {s : State} {ch : Chan} {c : OutletCfg} {l : Nat}

/-- The outlets' own work brings an outlet to its level (R102). -/
theorem outletPhase_firstUse (hc : s.outletCfg? ch = some c) (h : (s.outlet ch).FirstUse c l False) :
    (s.outletPhase.outlet ch).FirstUse c l True := by
  have keeps : ∀ {followed : Prop} {t u : State}, Works True t u → t.outletCfg? ch = some c → (t.outlet ch).FirstUse c l followed →
      (u.outlet ch).FirstUse c l followed := fun hw hcfg ho =>
    hw.keeps ch (Outlet.FirstUse c l _) (fun o o' hstep ho => ho.step (by rwa [hcfg] at hstep)) ho
  have hlevel : Works True s (forEach channels levelStep s) := .forEach channels levelStep (fun p t => levelStep_works t p) s
  have hfollowed : ((forEach channels levelStep s).outlet ch).FirstUse c l True := by
    refine forEach_reaches (I := fun t => t.outletCfg? ch = some c ∧ (t.outlet ch).FirstUse c l False)
      (P := fun t => (t.outlet ch).FirstUse c l True) (mem_channels ch) (fun p t ht => ?_) (fun p t ht hP => ?_) (fun t ht => ?_) ⟨hc, h⟩
    · have hw : Works True t (levelStep p t) := levelStep_works t p
      exact ⟨by rw [hw.outletCfg, ht.1], keeps hw ht.1 ht.2⟩
    · exact keeps (levelStep_works t p) ht.1 hP
    · rw [levelStep, ht.1]
      dsimp only
      split
      · next hm => exact modOutlet_self_ind (P := Outlet.FirstUse c l True) (ht.2.followLevel hm)
      · next hm =>
        obtain ⟨hlevel, hended, hstate, hbatch, hmonitor, hactive, -⟩ := ht.2
        exact ⟨hlevel, hended, hstate, hbatch, hmonitor, hactive, fun e => absurd e hm⟩
  have hcfg : (forEach channels levelStep s).outletCfg? ch = some c := by rw [hlevel.outletCfg, hc]
  unfold State.outletPhase
  generalize forEach channels levelStep s = u at hfollowed hcfg ⊢
  exact keeps ((((Works.forEach channels groupStep (fun p t => groupStep_works t p) u).trans
    (.forEach channels desiredStep (fun p t => desiredStep_works t p) _)).trans
    (.forEach channels lowerStep (fun p t => lowerStep_works t p) _)).trans (requeueAll_works _)) hcfg hfollowed

theorem settle_firstUse (hlive : s.live = true) (hstay : Claims.Staying s) (hc : s.outletCfg? ch = some c)
    (h : (s.outlet ch).FirstUse c l False) : (s.settle.outlet ch).FirstUse c l True := by
  have later : ∀ {t : State}, Reacts s t → (t.outlet ch).FirstUse c l True → ∀ {u : State}, Reacts t u →
      (u.outlet ch).FirstUse c l True := fun ht ho _ hu =>
    hu.outlet_ind (P := Outlet.FirstUse c l True) (fun up o o' hstep ho => ho.step (by rwa [ht.outletCfg, hc] at hstep))
      (fun o ho => ho.congr rfl rfl rfl) ho
  have hphase : Reacts s s.outletPhase := outletPhase_reacts s
  have hwork : Reacts s.outletPhase s.reactWork :=
    ((((contactPhase_reacts _).trans (holdPhase_reacts _)).trans (.aside (stagePhase_aside _))).trans
      (.aside (framePhase_aside _))).trans (orphanEndStep_reacts _)
  have hwithdraw : Reacts s.reactWork s.react := by
    have hmark := reactWork_leaveMark s hstay
    rw [react_of_live s hlive]
    generalize s.reactWork = t at hmark ⊢
    exact withdrawalEndStep_reacts_of_staying hmark
  have h1 := react_leaveMark s hstay
  have h2 := react_leaveMark _ h1
  have h3 := react_leaveMark _ h2
  exact later hphase (outletPhase_firstUse hc h) ((hwork.trans hwithdraw).trans
    ((((react_reacts _ h1).trans (react_reacts _ h2)).trans (react_reacts _ h3)).trans (rest_reacts _)))

end

end Sys2Proof.Machine

namespace Sys2Proof.Machine

/-! ### The state an image is handed to (R77, R99, R201) -/

/-- The state of the load before its faults are reported. -/
def State.begun (s : State) (bytes : List Byte) : State := (s.withImage bytes).enterSyncing.turnLine

section
variable (s : State) (bytes : List Byte)

theorem begun_memb : (s.begun bytes).memb = ⟨.syncing, .none, none, some 0, false⟩ := by
  have h : ∀ t : State, t.turnLine.memb = t.memb := fun _ => rfl
  rw [State.begun, h, enterSyncing_memb]

theorem begun_still : (s.begun bytes).still = (s.withImage bytes).still := by
  have h : ∀ t : State, t.turnLine.still = t.still := fun _ => rfl
  rw [State.begun, h, State.enterSyncing_still]

theorem begun_aside (hst : s.station = .start) : Aside (s.withImage bytes) (s.begun bytes) := by
  refine (enterSyncing_aside _ ?_).trans (turnLine_aside _)
  rw [State.withImage_memb, ← State.station, hst]
  exact Station.noConfusion

theorem withImage_stages : (s.withImage bytes).stages = Vector.replicate 16 Stage.initial := by
  simp only [State.withImage, State.modFru, State.modApp]

theorem withImage_meterWindow : (s.withImage bytes).meterWindow = some 0 := by
  simp only [State.withImage, State.modFru, State.modApp]

theorem begun_stagesInitial (hst : s.station = .start) : StagesInitial (s.begun bytes) := by
  have h : StagesInitial (s.withImage bytes) := by
    refine ⟨?_, withImage_stages s bytes⟩
    rw [State.station, State.withImage_memb, ← State.station, hst]
    exact Station.noConfusion
  have turned : ∀ t : State, StagesInitial t → StagesInitial t.turnLine := fun _ ht => ⟨ht.station, ht.stages⟩
  rw [State.begun]
  exact turned _ (enterSyncing_stagesInitial h)

theorem ServiceHold.withBands_class (e : Per4 Nat) (h : ServiceHold) (k : Cls) :
    ((h.withBands e).classes.get k).effBound = e.get k ∧ ((h.withBands e).classes.get k).bandLimit = (bandLimits e).get k := by
  cases k <;> exact ⟨rfl, rfl⟩

theorem withImage_bands (v : Svc) (k : Cls) :
    ((s.withImage bytes).classHold v k).effBound = (Image.effectiveBounds (readImage bytes) v).get k ∧
    ((s.withImage bytes).classHold v k).bandLimit = (bandLimits (Image.effectiveBounds (readImage bytes) v)).get k := by
  simp only [State.classHold, State.withImage_hold]
  cases v with
  | hw => exact ServiceHold.withBands_class _ _ k
  | st => exact ServiceHold.withBands_class _ _ k

end

theorem Image.hasOutlet_iff (im : Image) (v : Svc) (k : Cls) : Image.hasOutlet im v k = true ↔
    ∃ (ch : Chan) (c : OutletCfg), im.channels[ch] = .outlet c ∧ c.svc = v ∧ c.cls = k := by
  rw [Image.hasOutlet, List.any_eq_true]
  constructor
  · rintro ⟨ch, -, h⟩
    split at h
    · next c e =>
      rw [Bool.and_eq_true, beq_iff_eq, beq_iff_eq] at h
      exact ⟨ch, c, e, h⟩
    · cases h
    · cases h
  · rintro ⟨ch, c, e, hv, hk⟩
    refine ⟨ch, mem_channels ch, ?_⟩
    simp only [e, hv, hk, beq_self_eq_true, Bool.and_self]

/-- The first record of an outlet that is enabled at start (R99, R101, R102). -/
theorem firstOutlet_of_enabled (mv : Nat) {c : OutletCfg} (h : c.enabledAtStart = true) :
    (firstOutlet mv (.outlet c)).FirstUse c (if c.modulating?.isSome then (demandReading mv).getD 0 else 0) False := by
  simp only [firstOutlet, h, if_true]
  cases hk : c.kind with
  | modulating w m =>
    simp only [OutletCfg.modulating?, OutletCfg.enterUse, hk, Option.isSome_some, if_true]
    exact ⟨rfl, rfl, .inl rfl, fun _ => rfl, fun r e => (by cases hk.symm.trans e), fun _ e => (by cases e), fun _ _ (e : False) => e.elim⟩
  | batch w b =>
    simp only [OutletCfg.modulating?, OutletCfg.enterUse, hk, Option.isSome_none, Bool.false_eq_true, if_false]
    exact ⟨rfl, rfl, .inl rfl, fun _ => rfl, fun r e => (by cases hk.symm.trans e), fun _ e => (by cases e), fun _ _ _ => rfl⟩
  | monitor r =>
    simp only [OutletCfg.modulating?, OutletCfg.enterUse, hk, Option.isSome_none, Bool.false_eq_true, if_false]
    exact ⟨rfl, rfl, .inr rfl, fun e => (by simp [OutletCfg.batch?, hk] at e), fun _ _ => rfl,
      fun e => (by simp [OutletCfg.modulating?, hk] at e), fun _ e => (by cases e)⟩

theorem enterUse_outOfRange (c : OutletCfg) (o : Outlet) : (OutletCfg.enterUse c o).outOfRange = o.outOfRange := by
  unfold OutletCfg.enterUse
  split <;> rfl

theorem firstOutlet_outOfRange (mv : Nat) (c : OutletCfg) :
    (firstOutlet mv (.outlet c)).outOfRange = (c.modulating?.isSome && (demandReading mv).isNone) := by
  have hread : (if c.modulating?.isSome then Outlet.initial.takeReading (demandReading mv) else Outlet.initial).outOfRange =
      (c.modulating?.isSome && (demandReading mv).isNone) := by
    cases c.modulating?.isSome <;> rfl
  rw [← hread]
  unfold firstOutlet
  dsimp only
  split
  · exact enterUse_outOfRange c _
  · rfl

theorem firstOutlet_inRange {mv : Nat} (h : 400 ≤ mv ∧ mv ≤ 2600) (c : ChannelCfg) : (firstOutlet mv c).outOfRange = false := by
  cases c with
  | outlet c =>
    rw [firstOutlet_outOfRange, (demandReading_level mv).2, decide_eq_false (by omega), Bool.and_false]
  | stage c => rfl
  | unused => rfl

theorem firstOutlet_off {mv : Nat} {cc : ChannelCfg} (h : ∀ c, cc = .outlet c → c.enabledAtStart = false) :
    (firstOutlet mv cc).state = .off := by
  cases cc with
  | outlet c =>
    have he : ¬c.enabledAtStart = true := by rw [h c rfl]; exact Bool.false_ne_true
    simp only [firstOutlet, if_neg he]
    split <;> rfl
  | stage c => rfl
  | unused => rfl

/-! ### The faults of the load (R115, R142) -/

section
variable {s : State} {p ch : Chan} {P : Outlet → Prop}

theorem loadFaultStep_still_of_ne (h : p ≠ ch) : ((loadFaultStep p s).outlet ch).still = (s.outlet ch).still := by
  unfold loadFaultStep
  split
  · exact (reportFault_still_outlet (ch := ch) s .demandRange p).1 h
  · rfl

/-- A step of the sweep: a record keeps what the steps of a withdrawal and its own last-fault field leave alone, unless ISOLATE
takes it out. -/
theorem loadFaultStep_outlet_ind (hstep : ∀ o o', Outlet.Step False (s.outletCfg? ch) o o' → P o → P o')
    (hlast : ∀ o, P o → P { o with lastFault := some .demandRange })
    (hkept : (s.outlet ch).outOfRange = false ∨ (s.outlet ch).state = .off ∨ s.fru.responses.demandRange ≠ .isolate)
    (hs : P (s.outlet ch)) : P ((loadFaultStep p s).outlet ch) := by
  unfold loadFaultStep
  split
  · next hfault =>
    refine reportFault_outlet_ind hstep (fun _ => hlast) ?_ hs
    rintro rfl
    simp only [Bool.and_eq_true, bne_iff_ne, ne_eq] at hfault
    rcases hkept with h | h | h
    · rw [hfault.1] at h; cases h
    · exact absurd h hfault.2
    · exact h
  · exact hs

/-- An outlet in OFF is not reported. -/
theorem loadFaults_off (hs : (s.outlet ch).state = .off) : ((forEach channels loadFaultStep s).outlet ch).state = .off :=
  forEach_inv (fun t => (t.outlet ch).state = .off) channels loadFaultStep
    (fun _ _ ht => loadFaultStep_outlet_ind (P := fun o => o.state = .off) (fun _ _ hstep ho => (hstep.of_off ho).1) (fun _ ho => ho)
      (.inr (.inl ht)) ht) s hs

theorem loadFaults_loadFrame (s : State) : LoadFrame s (forEach channels loadFaultStep s) :=
  forEach_inv (LoadFrame s) channels loadFaultStep (fun p t ht => ht.trans (loadFaultStep_loadFrame t p)) s (.refl s)

end

/-- The sweep of the load before it reaches a channel whose outlet is in use. -/
structure SweepAt (s : State) (ch : Chan) (c : OutletCfg) (l : Nat) (range : Bool) (t : State) : Prop where
  frame : LoadFrame s t
  use : (t.outlet ch).FirstUse c l False
  range : (t.outlet ch).outOfRange = range

section
variable {s t : State} {p ch : Chan} {c : OutletCfg} {l : Nat} {range : Bool}

theorem SweepAt.refl (hs : (s.outlet ch).FirstUse c l False) (hr : (s.outlet ch).outOfRange = range) : SweepAt s ch c l range s :=
  ⟨.refl s, hs, hr⟩

theorem SweepAt.use_step (hc : s.outletCfg? ch = some c) (h : SweepAt s ch c l range t)
    (hkept : p = ch → range = false ∨ s.fru.responses.demandRange ≠ .isolate) :
    ((loadFaultStep p t).outlet ch).FirstUse c l False := by
  have hcfg : t.outletCfg? ch = some c := (h.frame.outletCfg ch).trans hc
  have hstep : ∀ o o', Outlet.Step False (t.outletCfg? ch) o o' → o.FirstUse c l False → o'.FirstUse c l False := fun o o' hstep ho =>
    ho.step (by rwa [hcfg] at hstep)
  by_cases hp : p = ch
  · refine loadFaultStep_outlet_ind (P := Outlet.FirstUse c l False) hstep (fun o ho => ho.congr rfl rfl rfl) ?_ h.use
    rw [h.range, h.frame.responses]
    exact (hkept hp).imp_right .inr
  · unfold loadFaultStep
    split
    · exact reportFault_outlet_ind (P := Outlet.FirstUse c l False) hstep (fun e => absurd e hp) (fun e => absurd e hp) h.use
    · exact h.use

/-- An outlet in use whose reading ISOLATE does not answer stays in its first state. -/
theorem loadFaults_firstUse (hc : s.outletCfg? ch = some c) (hs : (s.outlet ch).FirstUse c l False)
    (hkept : (s.outlet ch).outOfRange = false ∨ s.fru.responses.demandRange ≠ .isolate) :
    ((forEach channels loadFaultStep s).outlet ch).FirstUse c l False := by
  have keep : ∀ q t, q ≠ ch → SweepAt s ch c l (s.outlet ch).outOfRange t →
      SweepAt s ch c l (s.outlet ch).outOfRange (loadFaultStep q t) := fun q t hq ht =>
    ⟨ht.frame.trans (loadFaultStep_loadFrame t q), ht.use_step hc fun e => absurd e hq,
      (congrArg OutletStill.outOfRange (loadFaultStep_still_of_ne hq)).trans ht.range⟩
  refine (forEach_once (I := SweepAt s ch c l (s.outlet ch).outOfRange)
    (P := fun t => LoadFrame s t ∧ (t.outlet ch).FirstUse c l False) mem_channels_nodup (mem_channels ch) keep
    (fun t ht => ⟨ht.frame.trans (loadFaultStep_loadFrame t ch), ht.use_step hc fun _ => hkept⟩) (fun q t hq ht => ?_) (.refl hs rfl)).2
  have hat : SweepAt s ch c l (t.outlet ch).outOfRange t := ⟨ht.1, ht.2, rfl⟩
  exact ⟨ht.1.trans (loadFaultStep_loadFrame t q), hat.use_step hc fun e => absurd e hq⟩

/-- ISOLATE takes an outlet in use and out of span to FAULT (R118, R142). -/
theorem loadFaults_isolated (hc : s.outletCfg? ch = some c) (hs : (s.outlet ch).FirstUse c l False)
    (hrange : (s.outlet ch).outOfRange = true) (hisolate : s.fru.responses.demandRange = .isolate) :
    ((forEach channels loadFaultStep s).outlet ch).state = .fault := by
  refine forEach_once (I := SweepAt s ch c l true) (P := fun t => (t.outlet ch).state = .fault) mem_channels_nodup (mem_channels ch)
    (fun q t hq ht => ⟨ht.frame.trans (loadFaultStep_loadFrame t q), ht.use_step hc fun e => absurd e hq,
      (congrArg OutletStill.outOfRange (loadFaultStep_still_of_ne hq)).trans ht.range⟩)
    (fun t ht => ?_) (fun q t hq ht => ?_) (.refl hs hrange)
  · have hisolable : (t.outlet ch).state.isolable = true := by rcases ht.use.state with e | e <;> rw [e] <;> rfl
    have hused : (t.outlet ch).state ≠ .off := by rcases ht.use.state with e | e <;> rw [e] <;> exact OutletState.noConfusion
    have hresp : t.fru.responses.get .demandRange = .isolate := by rw [ht.frame.responses]; exact hisolate
    have hstill : (loadFaultStep ch t).still = Claims.reported t .demandRange ch t.still := by
      rw [loadFaultStep, if_pos (by rw [ht.range, bne_iff_ne.mpr hused]; rfl), reportFault_still]
    have hfault : ((loadFaultStep ch t).outlet ch).still.inFault = true := by
      rw [← still_outlet, hstill, Claims.reported]
      simp only [Fin.getElem_fin, Vector.getElem_set_self, hresp, hisolable, decide_true, Bool.and_self, Bool.true_or]
    exact of_decide_eq_true hfault
  · have hstill := congrArg OutletStill.inFault (loadFaultStep_still_of_ne (s := t) hq)
    exact of_decide_eq_true (hstill.trans (decide_eq_true ht))

theorem reportFault_memb {kind : FaultKind} (h : s.fru.responses.get kind ≠ .withdraw) : (s.reportFault kind ch).memb = s.memb := by
  have hresp : ∀ u : State, u.fru.responses = s.fru.responses → (u.respond kind ch).memb = u.memb := by
    intro u hu
    rw [State.respond, hu]
    split
    · rfl
    · split
      · exact memb_of_apart (State.isolate_apart u kind ch)
      · rfl
    · next e => exact absurd e h
  exact hresp ((s.setFlag .outletFault).countOutletFault.modOutlet ch fun o => { o with lastFault := some kind }) rfl

/-- Without a WITHDRAW the sweep leaves the station where it is. -/
theorem loadFaults_memb (h : s.fru.responses.demandRange ≠ .withdraw ∨ ∀ ch, (s.outlet ch).outOfRange = false) :
    (forEach channels loadFaultStep s).memb = s.memb := by
  rcases h with h | h
  · refine (forEach_inv (fun t => t.fru.responses = s.fru.responses ∧ t.memb = s.memb) channels loadFaultStep (fun p t ht => ?_) s
      ⟨rfl, rfl⟩).2
    refine ⟨(loadFaultStep_loadFrame t p).responses.trans ht.1, ?_⟩
    unfold loadFaultStep
    split
    · exact (reportFault_memb (by rw [ht.1]; exact h)).trans ht.2
    · exact ht.2
  · refine congrArg State.memb (forEach_inv (fun t => t = s) channels loadFaultStep (fun p t ht => ?_) s rfl)
    rw [ht, loadFaultStep, h p]
    rfl

end

end Sys2Proof.Machine

namespace Sys2Proof.Machine

section
variable (s : State) (b : List Byte)

/-- The state a valid image leaves, before the reactions. -/
def State.loadFaults : State := forEach channels loadFaultStep (s.begun b)

variable {s b}

theorem begun_staying : Claims.Staying (s.begun b) := by
  rw [Claims.Staying, begun_memb]
  exact LeaveMark.noConfusion

theorem begun_loader : (s.begun b).loader = { s.loader with
    reading := false, image := some (readImage b), source := .frozen, bytes := b, failedCheck := 0 } :=
  (congrArg Still.loader (begun_still s b)).trans (State.withImage_loader s b)

theorem begun_responses : (s.begun b).fru.responses = (readImage b).responses :=
  (congrArg Still.responses (begun_still s b)).trans (congrArg FaultUnit.responses (State.withImage_fru s b))

theorem begun_outlet (hst : s.station = .start) (ch : Chan) :
    (s.begun b).outlet ch = firstOutlet s.pins.demand[ch] (readImage b).channels[ch] :=
  (outlet_of_outlets (begun_aside s b hst).outlets ch).trans (State.withImage_outlet s b ch)

theorem begun_outletCfg {ch : Chan} {c : OutletCfg} (h : (readImage b).channels[ch] = .outlet c) :
    (s.begun b).outletCfg? ch = some c := by
  simp only [State.outletCfg?, State.cfg, begun_loader, h]

theorem begun_grants (hst : s.station = .start) : (s.begun b).grantsSound = true := by
  rw [State.grantsSound_iff]
  intro ch
  rw [begun_outlet hst]
  exact .inl (firstOutlet_valve _ _).1

theorem loadFaults_stages (hst : s.station = .start) : StagesInitial (s.loadFaults b) := by
  have hf := loadFaults_loadFrame (s.begun b)
  have hs : (s.begun b).station.loading = true := by rw [State.station, begun_memb]; rfl
  exact ⟨Station.ne_member_of_loading (hf.station hs), hf.stages.trans (begun_stagesInitial s b hst).stages⟩

theorem loadFaults_live : (s.loadFaults b).live = true := by
  have hf := loadFaults_loadFrame (s.begun b)
  have hs : (s.begun b).station.loading = true := by rw [State.station, begun_memb]; rfl
  have hload : (s.loadFaults b).station.loading = true := hf.station hs
  have hloader : (s.loadFaults b).loader = (s.begun b).loader := hf.loader
  rw [State.live, hloader, begun_loader]
  generalize (s.loadFaults b).station = st at hload
  cases st with
  | syncing => rfl
  | halted e => rfl
  | start => cases hload
  | inert => cases hload
  | joining => cases hload
  | member => cases hload
  | orphan => cases hload

theorem loadFaults_grants (hst : s.station = .start) : (s.loadFaults b).grantsSound = true := by
  have hm : Moves False (s.begun b) (s.loadFaults b) := .forEach channels loadFaultStep (fun ch t => loadFaultStep_moves t ch) _
  exact hm.grantsSound (begun_grants hst)

theorem begun_bands (hst : s.station = .start) (v : Svc) (k : Cls) :
    ((s.begun b).classHold v k).effBound = (Image.effectiveBounds (readImage b) v).get k ∧
    ((s.begun b).classHold v k).bandLimit = (bandLimits (Image.effectiveBounds (readImage b) v)).get k := by
  obtain ⟨heff, hlimit⟩ := bandLimit_of_bandsOf ((begun_aside s b hst).bands v) k
  obtain ⟨heff', hlimit'⟩ := withImage_bands s b v k
  exact ⟨heff.trans heff', hlimit.trans hlimit'⟩

theorem settingsReadCompletes_eq {status : Byte} (hpin : s.pins.reset = false) (hst : s.station = .start)
    (hread : s.loader.reading = true) (hstatus : status ≠ 255) (hlen : b.length = 384) (hcheck : failedCheck b = 0) :
    exec (.settingsReadCompletes status b) s = .next (s.loadFaults b).settle := by
  rw [exec, execSettingsReadCompletes, event_of_taken (by rw [hpin, hst, hread]; rfl), State.endRead, if_neg hstatus,
    fitBytes_of_length hlen]
  dsimp only
  rw [if_pos hcheck, loadImage_eq]
  rfl

end

end Sys2Proof.Machine

namespace Sys2Proof.Claims

open Machine

section
variable {s : State} {b : List Byte}

theorem BandsOf.of_classes {im : Image} {v : Svc} {h : ServiceHold}
    (hb : ∀ k, (h.classes.get k).effBound = (Image.effectiveBounds im v).get k ∧
      (h.classes.get k).bandLimit = (bandLimits (Image.effectiveBounds im v)).get k) : BandsOf im v h := by
  have skip : ∀ (k : Cls) (x y : Nat),
      ((∃ (ch : Chan) (c : OutletCfg), im.channels[ch] = .outlet c ∧ c.svc = v ∧ c.cls = k) →
        (if Image.hasOutlet im v k then x else y) = x) ∧
      ((¬∃ (ch : Chan) (c : OutletCfg), im.channels[ch] = .outlet c ∧ c.svc = v ∧ c.cls = k) →
        (if Image.hasOutlet im v k then x else y) = y) := fun k x y =>
    ⟨fun h => if_pos ((Image.hasOutlet_iff im v k).mpr h), fun h => if_neg fun e => h ((Image.hasOutlet_iff im v k).mp e)⟩
  have he : ∀ k, (h.classes.get k).effBound = (Image.effectiveBounds im v).get k := fun k => (hb k).1
  have hl : ∀ k, (h.classes.get k).bandLimit = (bandLimits (Image.effectiveBounds im v)).get k := fun k => (hb k).2
  simp only [BandsOf, he, hl]
  exact ⟨⟨(skip .c0 _ _).1, (skip .c0 _ _).2, rfl⟩, ⟨(skip .c1 _ _).1, (skip .c1 _ _).2, rfl⟩,
    ⟨(skip .c2 _ _).1, (skip .c2 _ _).2, rfl⟩, ⟨(skip .c3 _ _).1, (skip .c3 _ _).2, rfl⟩⟩

/-- An outlet enabled at start, at the end of the event of the load: what the sweep of the faults left, followed to its level. -/
theorem settled_firstUse {ch : Chan} {c : OutletCfg} (hst : s.station = .start) (hc : (readImage b).channels[ch] = .outlet c)
    (he : c.enabledAtStart = true) (hmark : Staying (s.loadFaults b))
    (hkept : (c.modulating?.isSome && (demandReading s.pins.demand[ch]).isNone) = false ∨
      (readImage b).responses.demandRange ≠ .isolate) :
    ((s.loadFaults b).settle.outlet ch).FirstUse c
      (if c.modulating?.isSome then (demandReading s.pins.demand[ch]).getD 0 else 0) True := by
  have hcfg := begun_outletCfg (s := s) hc
  have hfirst : (s.begun b).outlet ch = firstOutlet s.pins.demand[ch] (.outlet c) := by rw [begun_outlet hst, hc]
  have huse := loadFaults_firstUse hcfg (by rw [hfirst]; exact firstOutlet_of_enabled _ he)
    (by rw [hfirst, firstOutlet_outOfRange, begun_responses]; exact hkept)
  have hcfg' : (s.loadFaults b).outletCfg? ch = some c := ((loadFaults_loadFrame (s.begun b)).outletCfg ch).trans hcfg
  exact settle_firstUse loadFaults_live hmark hcfg' huse

/-- One out of span that ISOLATE answers. -/
theorem settled_fault {ch : Chan} {c : OutletCfg} (hst : s.station = .start) (hc : (readImage b).channels[ch] = .outlet c)
    (he : c.enabledAtStart = true) (hmark : Staying (s.loadFaults b))
    (hrange : (c.modulating?.isSome && (demandReading s.pins.demand[ch]).isNone) = true)
    (hisolate : (readImage b).responses.demandRange = .isolate) : ((s.loadFaults b).settle.outlet ch).state = .fault := by
  have hcfg := begun_outletCfg (s := s) hc
  have hfirst : (s.begun b).outlet ch = firstOutlet s.pins.demand[ch] (.outlet c) := by rw [begun_outlet hst, hc]
  have hfault : ((s.loadFaults b).outlet ch).state = .fault :=
    loadFaults_isolated hcfg (by rw [hfirst]; exact firstOutlet_of_enabled _ he) (by rw [hfirst, firstOutlet_outOfRange, hrange])
      (by rw [begun_responses, hisolate])
  have hstill : ((s.loadFaults b).settle.outlet ch).still.inFault = ((s.loadFaults b).outlet ch).still.inFault :=
    congrArg OutletStill.inFault (by rw [← still_outlet, ← still_outlet, settle_still _ hmark])
  have hshown : ∀ o : Outlet, o.still.inFault = decide (o.state = .fault) := fun _ => rfl
  rw [hshown, hshown, decide_eq_true hfault] at hstill
  exact of_decide_eq_true hstill

theorem settled_off {ch : Chan} (hst : s.station = .start) (hmark : Staying (s.loadFaults b))
    (hoff : ∀ c, (readImage b).channels[ch] = .outlet c → c.enabledAtStart = false) :
    ((s.loadFaults b).settle.outlet ch).state = .off := by
  have hs : ((s.begun b).outlet ch).state = .off := by
    rw [begun_outlet hst]
    exact firstOutlet_off hoff
  exact (settle_reacts _ hmark).outlet_ind (P := fun o => o.state = .off) (fun up o o' hstep ho => (hstep.of_off ho).1)
    (fun o ho => ho) (loadFaults_off hs)

theorem settled_firstState (hst : s.station = .start) (hmark : Staying (s.loadFaults b)) (ch : Chan) :
    FirstState (readImage b) s.pins.demand[ch] ch ((s.loadFaults b).settle.outlet ch) := by
  have hgrant : ((s.loadFaults b).settle.outlet ch).grant = 0 := by
    have hsound := (settle_reacts _ hmark).grantsSound (loadFaults_grants hst)
    rw [State.grantsSound_iff] at hsound
    refine (hsound ch).resolve_right fun h => ?_
    rw [isMember_iff] at h
    exact (settle_stagesInitial hmark (loadFaults_stages hst)).station h.1
  refine ⟨hgrant, fun h => settled_off hst hmark fun c e => absurd e (h c), fun c hc => ⟨fun he => ?_, fun he => ?_⟩⟩
  · exact settled_off hst hmark fun c' hc' => by
      obtain rfl : c = c' := ChannelCfg.outlet.inj (hc.symm.trans hc')
      exact he
  obtain ⟨hlevel, hnone⟩ := demandReading_level s.pins.demand[ch]
  have use := settled_firstUse (b := b) hst hc he hmark
  refine ⟨fun hb => ?_, fun r hr => ?_, fun hm => ?_⟩
  · have hm : c.modulating?.isSome = false := by
      cases hm : c.modulating?.isSome with
      | false => rfl
      | true => rw [(OutletCfg.not_batch_of_modulating hm).1] at hb; cases hb
    exact (use (.inl (by rw [hm]; rfl))).batch hb
  · have hm : c.modulating?.isSome = false := by
      cases hm : c.modulating?.isSome with
      | false => rfl
      | true => exact absurd hr ((OutletCfg.not_batch_of_modulating hm).2 r)
    exact (use (.inl (by rw [hm]; rfl))).monitor r hr
  · rw [hm, Bool.true_and, hnone, if_pos rfl, hlevel] at use
    have at_level : ∀ o : Outlet, o.FirstUse c
        (if s.pins.demand[ch] < 400 ∨ 2600 < s.pins.demand[ch] ∨ s.pins.demand[ch] ≤ 500 then 0
          else if 2500 ≤ s.pins.demand[ch] then 100 else (s.pins.demand[ch] - 500) / 20) True →
        o.state = if (s.pins.demand[ch] < 400 ∨ 2600 < s.pins.demand[ch]) ∨ s.pins.demand[ch] < 520 then .idle else .active := by
      intro o ho
      rcases ho.state with e | e
      · have h0 := ho.idle hm e trivial
        rw [e, if_pos]
        split at h0
        · omega
        · split at h0 <;> omega
      · have h0 := ho.active hm e
        rw [e, if_neg]
        split at h0
        · exact absurd rfl h0
        · split at h0 <;> omega
    by_cases hspan : s.pins.demand[ch] < 400 ∨ 2600 < s.pins.demand[ch]
    · rw [if_pos hspan]
      split
      · next hisolate =>
        exact settled_fault hst hc he hmark (by rw [hm, hnone, decide_eq_true hspan]; rfl) hisolate
      · next hisolate =>
        rw [at_level _ (use (.inr hisolate)), if_pos (.inl hspan)]
    · rw [at_level _ (use (.inl (decide_eq_false hspan))), if_neg hspan]
      exact ite_congr (propext (or_iff_right hspan)) (fun _ => rfl) fun _ => rfl

end

end Sys2Proof.Claims

namespace Sys2Proof.Proofs

open Machine Claims

/-- Settles O10: what the image hands to the blocks is in `State.begun`; the sweep of the faults and the reactions keep it, and every
record follows from its first by their steps. -/
theorem validImageIsFrozen : Obligations.ValidImageIsFrozen := by
  intro s status b hpin hst hread hstatus hlen hcheck
  refine ⟨(s.loadFaults b).settle, settingsReadCompletes_eq hpin hst hread hstatus hlen hcheck, ?_⟩
  have hframe : LoadFrame (s.begun b) (s.loadFaults b) := loadFaults_loadFrame (s.begun b)
  have hmark : Staying (s.loadFaults b) := hframe.staying begun_staying
  have hstages := settle_stagesInitial hmark (loadFaults_stages hst)
  have hreacts := settle_reacts (s.loadFaults b) hmark
  have hhanded : (s.loadFaults b).settle.still.handed = (s.withImage b).still.handed := by
    rw [settle_still _ hmark, hframe.handed, begun_still]
  have hmemb : (readImage b).responses.demandRange ≠ .withdraw ∨ (∀ ch : Chan, 400 ≤ s.pins.demand[ch] ∧ s.pins.demand[ch] ≤ 2600) →
      (s.loadFaults b).settle.memb = ⟨.syncing, .none, none, some 0, false⟩ := by
    intro h
    have hloaded : (s.loadFaults b).memb = ⟨.syncing, .none, none, some 0, false⟩ := by
      refine (loadFaults_memb ?_).trans (begun_memb s b)
      rw [begun_responses]
      refine h.imp_right fun hin ch => ?_
      rw [begun_outlet hst]
      exact firstOutlet_inRange (hin ch) _
    rw [← hloaded]
    exact settle_memb_of_waits _ (by rw [State.station, hloaded]; rfl) (by rw [hloaded])
  generalize hu : (s.loadFaults b).settle = t at hstages hhanded hmemb hreacts
  simp only [Still.handed, State.still, Prod.mk.injEq, State.withImage_loader, State.withImage_app, State.withImage_fru,
    State.withImage_ledger, State.withImage_pins, withImage_meterWindow] at hhanded
  obtain ⟨hloader, hguard, hresponses, hmask, hcopy, hpins, hwindow⟩ := hhanded
  refine ⟨fun v => .of_classes fun k => ?_, fun ch => ?_, fun ch => ?_, hwindow, hloader, hguard, hresponses, hmask, hcopy, hpins, hmemb⟩
  · obtain ⟨heff, hlimit⟩ := bandLimit_of_bandsOf ((hreacts.bands v).trans (hframe.bands v)) k
    obtain ⟨heff', hlimit'⟩ := begun_bands (b := b) hst v k
    exact ⟨heff.trans heff', hlimit.trans hlimit'⟩
  · rw [← hu]
    exact settled_firstState hst hmark ch
  · rw [State.stage, hstages.stages]
    exact Vector.getElem_replicate _

end Sys2Proof.Proofs

namespace Sys2Proof.Machine

/-! ### Half a second on the timers (log 2) -/

/-- A sweep that reaches one element once changes what it keeps of it once. -/
theorem forEach_once_value {α β : Type} {J : State → Prop} {l : List α} {f : α → State → State} {a : α} {g : State → β} {h : β → β}
    (hl : l.Nodup) (ha : a ∈ l) (hJ : ∀ b t, J t → J (f b t)) (hself : ∀ t, J t → g (f a t) = h (g t))
    (hne : ∀ b t, b ≠ a → g (f b t) = g t) {s : State} (hs : J s) : g (forEach l f s) = h (g s) := by
  have apart : ∀ (l : List α), a ∉ l → ∀ t, g (forEach l f t) = g t := by
    intro l
    induction l with
    | nil => exact fun _ _ => rfl
    | cons b l ih =>
      intro hn t
      rw [List.mem_cons, not_or] at hn
      exact (ih hn.2 (f b t)).trans (hne b t (Ne.symm hn.1))
  induction l generalizing s with
  | nil => cases ha
  | cons b rest ih =>
    obtain ⟨hb, hrest⟩ := List.nodup_cons.mp hl
    by_cases e : b = a
    · subst e
      exact (apart rest hb _).trans (hself s hs)
    · have hin : a ∈ rest := (List.mem_cons.mp ha).resolve_left (Ne.symm e)
      exact (ih hrest hin (hJ b s hs)).trans (congrArg h (hne b s e))

/-- Everything but the holdings, the supplies and the wait queues, where the timers of the services and classes stand. -/
def State.unticked (s : State) : State :=
  { s with hold := State.reset.hold, supply := State.reset.supply, app := { s.app with queues := State.reset.app.queues } }

section
variable (u : State)

theorem tickServices_unticked : (forEach services tickService u).unticked = u.unticked :=
  forEach_keeps State.unticked services tickService (fun _ _ => rfl) u

theorem tickClasses_unticked : (forEach serviceClasses (fun p => tickClass p.1 p.2) u).unticked = u.unticked :=
  forEach_keeps State.unticked serviceClasses (fun p => tickClass p.1 p.2) (fun _ _ => rfl) u

/-- Half a second on the timers of a service (R94, R182, R184). -/
theorem tickServices_get (v : Svc) :
    (forEach services tickService u).hold.get v =
      { u.hold.get v with reclaimTimer := Timer.tick (u.limit Image.tReclaim) (u.hold.get v).reclaimTimer } ∧
    (forEach services tickService u).supply.get v =
      { u.supply.get v with
        callTimer := Timer.tick (u.callDelay v) (u.supply.get v).callTimer
        dropTimer := Timer.tick (u.dropHold v) (u.supply.get v).dropTimer } := by
  cases v <;> exact ⟨rfl, rfl⟩

/-- The two records of a class with a timer (R86, R129). -/
def State.classTimers (s : State) (v : Svc) (k : Cls) : ClassHold × WaitQueue := (s.classHold v k, s.queue v k)

theorem modQueue_classHold {v w : Svc} {k j : Cls} (f : WaitQueue → WaitQueue) :
    (u.modQueue v k f).classHold w j = u.classHold w j := rfl

theorem modClass_queue {v w : Svc} {k j : Cls} (f : ClassHold → ClassHold) : (u.modClass v k f).queue w j = u.queue w j := rfl

theorem tickClass_of_ne {v w : Svc} {k j : Cls} (h : v ≠ w ∨ k ≠ j) : (tickClass v k u).classTimers w j = u.classTimers w j := by
  have hq : ∀ (t : State) (f : WaitQueue → WaitQueue), (t.modQueue v k f).queue w j = t.queue w j := by
    intro t f
    by_cases hv : v = w
    · subst hv
      simp only [State.queue, State.modQueue_app, Per8.get, Per8.set, Per2.get_set_self,
        Per4.get_set_of_ne _ _ (h.resolve_left fun hn => hn rfl)]
    · simp only [State.queue, State.modQueue_app, Per8.get, Per8.set, Per2.get_set_of_ne _ _ hv]
  rw [State.classTimers, tickClass, hq, modQueue_classHold, modClass_queue, modClass_classHold_of_ne u _ h]
  rfl

theorem tickClass_self (v : Svc) (k : Cls) : (tickClass v k u).classTimers v k =
    ({ u.classHold v k with spareTimer := Timer.tick (u.giveHold v) (u.classHold v k).spareTimer },
      { u.queue v k with blockTimer := Timer.tick (u.blockTicks v k) (u.queue v k).blockTimer }) := by
  have hq : ∀ (t : State) (f : WaitQueue → WaitQueue), (t.modQueue v k f).queue v k = f (t.queue v k) := fun t f => by
    simp only [State.queue, State.modQueue_app, Per8.get, Per8.set, Per2.get_set_self, Per4.get_set_self]
  rw [State.classTimers, tickClass, hq, modQueue_classHold, modClass_queue, modClass_classHold_self]

theorem waitTicks_of_loader {t : State} (h : t.loader = u.loader) : t.waitTicks = u.waitTicks := by
  funext ch
  rw [State.waitTicks, outletCfg_of_image (s := u) (t := t) (by rw [h])]
  rfl

theorem tickClasses_get (v : Svc) (k : Cls) :
    (forEach serviceClasses (fun p => tickClass p.1 p.2) u).classTimers v k =
      ({ u.classHold v k with spareTimer := Timer.tick (u.giveHold v) (u.classHold v k).spareTimer },
        { u.queue v k with blockTimer := Timer.tick (u.blockTicks v k) (u.queue v k).blockTimer }) := by
  refine forEach_once_value (J := fun t => t.loader = u.loader) (f := fun p : Svc × Cls => tickClass p.1 p.2)
    (g := fun t => t.classTimers v k) (h := fun r => ({ r.1 with spareTimer := Timer.tick (u.giveHold v) r.1.spareTimer },
      { r.2 with blockTimer := Timer.tick (match r.2.blocker with | some ch => u.waitTicks ch | none => 0) r.2.blockTimer }))
    (by decide) (mem_serviceClasses v k) (fun p t ht => ht) (fun t ht => ?_)
    (fun p t hp => tickClass_of_ne t (Classical.not_and_iff_not_or_not.mp fun h => hp (Prod.ext h.1 h.2))) rfl
  have hgive : t.giveHold v = u.giveHold v := by rw [State.giveHold, State.svcSetting, ht]; rfl
  rw [tickClass_self, hgive, State.blockTicks, waitTicks_of_loader u ht]
  rfl

theorem tickClasses_hold (v : Svc) :
    ((forEach serviceClasses (fun p => tickClass p.1 p.2) u).hold.get v).reclaimTimer = (u.hold.get v).reclaimTimer ∧
    (forEach serviceClasses (fun p => tickClass p.1 p.2) u).supply = u.supply := by
  refine ⟨forEach_keeps (fun t => (t.hold.get v).reclaimTimer) serviceClasses (fun p => tickClass p.1 p.2) (fun p t => ?_) u,
    forEach_keeps State.supply serviceClasses (fun p => tickClass p.1 p.2) (fun p t => rfl) u⟩
  obtain ⟨w, k⟩ := p
  cases v <;> cases w <;> rfl

end

end Sys2Proof.Machine

namespace Sys2Proof.Machine

section
variable {s t : State}

theorem unticked_parts (h : t.unticked = s.unticked) :
    t.loader = s.loader ∧ t.outlets = s.outlets ∧ t.stages = s.stages ∧ t.meterWindow = s.meterWindow ∧ t.liu = s.liu ∧
    t.memb = s.memb ∧ t.ledger = s.ledger ∧ t.still = s.still := by
  have shown : ∀ {β : Type} (g : State → β), (∀ u : State, g u.unticked = g u) → g t = g s := fun g hg => by
    rw [← hg t, h, hg s]
  exact ⟨shown _ fun _ => rfl, shown _ fun _ => rfl, shown _ fun _ => rfl, shown _ fun _ => rfl, shown _ fun _ => rfl,
    shown _ fun _ => rfl, shown _ fun _ => rfl, shown _ fun _ => rfl⟩

/-- The state in which the timers of the line, the outlets and the stages have counted on. -/
def State.lineTicked (s : State) : State := s.tickLine.tickOutlets

theorem lineTicked_parts :
    s.lineTicked.loader = s.loader ∧
    s.lineTicked.meterWindow = Timer.tick Config.meterWindow s.meterWindow ∧
    s.lineTicked.liu = { s.liu with retryPause := Timer.tick (s.limit Image.tKeep) s.liu.retryPause } ∧
    s.lineTicked.memb = { s.memb with
      ownLanding := Timer.tickVia (s.limit Image.tKeep) (s.limit Image.tSelf) s.memb.ownLanding
      syncWindow := Timer.tick (s.limit Image.syncWindow) s.memb.syncWindow } ∧
    s.lineTicked.ledger = { s.ledger with
      silence := mapAt (fun _ t => Timer.tickVia (s.limit Image.tSelf) (s.limit Image.tExp) t) s.ledger.silence } ∧
    s.lineTicked.hold = s.hold ∧ s.lineTicked.supply = s.supply ∧ s.lineTicked.app = s.app := by
  simp only [State.lineTicked, State.tickOutlets, State.tickLine, and_self]

theorem lineTicked_outlet {ch : Chan} {c : OutletCfg} (hc : s.outletCfg? ch = some c) :
    s.lineTicked.outlet ch = (s.outlet ch).tick c := by
  have hcfg : s.tickLine.outletCfg? ch = some c := by
    rw [← hc]
    simp only [State.outletCfg?, State.cfg, State.tickLine]
  have hat : s.tickLine.outlets = s.outlets := by simp only [State.tickLine]
  rw [State.lineTicked, State.outlet, State.tickOutlets, mapAt_get]
  simp only [hcfg, hat, State.outlet]

theorem lineTicked_stage {ch : Chan} {c : StageCfg} (hc : s.stageCfg? ch = some c) :
    s.lineTicked.stage ch = (s.stage ch).tick c := by
  have hcfg : s.tickLine.stageCfg? ch = some c := by
    rw [← hc]
    simp only [State.stageCfg?, State.cfg, State.tickLine]
  have hat : s.tickLine.stages = s.stages := by simp only [State.tickLine]
  rw [State.lineTicked, State.stage, State.tickOutlets, mapAt_get]
  simp only [hcfg, hat, State.stage]

theorem passTime_eq : s.passTime =
    forEach serviceClasses (fun p => tickClass p.1 p.2) (forEach services tickService s.lineTicked) := rfl

theorem passTime_unticked : s.passTime.unticked = s.lineTicked.unticked := by
  rw [passTime_eq, tickClasses_unticked, tickServices_unticked]

theorem passTime_loader : s.passTime.loader = s.loader := (unticked_parts passTime_unticked).1.trans lineTicked_parts.1

theorem passTime_outletCfg (ch : Chan) : s.passTime.outletCfg? ch = s.outletCfg? ch := outletCfg_of_image (by rw [passTime_loader])

theorem passTime_stageCfg (ch : Chan) : s.passTime.stageCfg? ch = s.stageCfg? ch := by
  simp only [State.stageCfg?, State.cfg, passTime_loader]

theorem passTime_limit (f : Image → Nat) : s.passTime.limit f = s.limit f := by simp only [State.limit, passTime_loader]

theorem passTime_svcSetting (v : Svc) (f : ServiceCfg → Nat) : s.passTime.svcSetting v f = s.svcSetting v f := by
  simp only [State.svcSetting, passTime_loader]

/-- Half a second on an outlet of the station. -/
theorem passTime_outlet_of {ch : Chan} {c : OutletCfg} (hc : s.outletCfg? ch = some c) : s.passTime.outlet ch = (s.outlet ch).tick c := by
  obtain ⟨-, houtlets, -⟩ := unticked_parts (passTime_unticked (s := s))
  rw [outlet_of_outlets houtlets, lineTicked_outlet hc]

/-- Half a second on a stage. -/
theorem passTime_stage_of {ch : Chan} {c : StageCfg} (hc : s.stageCfg? ch = some c) : s.passTime.stage ch = (s.stage ch).tick c := by
  obtain ⟨-, -, hstages, -⟩ := unticked_parts (passTime_unticked (s := s))
  rw [← lineTicked_stage hc, State.stage, State.stage, hstages]

/-- Half a second on the line's timers and the meter window. -/
theorem passTime_line :
    s.passTime.liu = { s.liu with retryPause := Timer.tick (s.limit Image.tKeep) s.liu.retryPause } ∧
    s.passTime.memb = { s.memb with
      ownLanding := Timer.tickVia (s.limit Image.tKeep) (s.limit Image.tSelf) s.memb.ownLanding
      syncWindow := Timer.tick (s.limit Image.syncWindow) s.memb.syncWindow } ∧
    s.passTime.meterWindow = Timer.tick Config.meterWindow s.meterWindow := by
  obtain ⟨-, -, -, hwindow, hliu, hmemb, -⟩ := unticked_parts (passTime_unticked (s := s))
  obtain ⟨-, hwindow', hliu', hmemb', -⟩ := lineTicked_parts (s := s)
  exact ⟨hliu.trans hliu', hmemb.trans hmemb', hwindow.trans hwindow'⟩

theorem passTime_silence (n : Stn) :
    s.passTime.ledger.silence[n] = Timer.tickVia (s.limit Image.tSelf) (s.limit Image.tExp) s.ledger.silence[n] := by
  obtain ⟨-, -, -, -, -, -, hledger, -⟩ := unticked_parts (passTime_unticked (s := s))
  obtain ⟨-, -, -, -, hledger', -⟩ := lineTicked_parts (s := s)
  rw [hledger, hledger', mapAt_get]

/-- Half a second on the timers of a service. -/
theorem passTime_service (v : Svc) :
    (s.passTime.hold.get v).reclaimTimer = Timer.tick (s.limit Image.tReclaim) (s.hold.get v).reclaimTimer ∧
    (s.passTime.supply.get v).callTimer = Timer.tick (s.callDelay v) (s.supply.get v).callTimer ∧
    (s.passTime.supply.get v).dropTimer = Timer.tick (s.dropHold v) (s.supply.get v).dropTimer := by
  obtain ⟨hreclaim, hsupply⟩ := tickClasses_hold (forEach services tickService s.lineTicked) v
  obtain ⟨hhold, hget⟩ := tickServices_get s.lineTicked v
  obtain ⟨hload, -, -, -, -, hhold', hsupply', -⟩ := lineTicked_parts (s := s)
  rw [passTime_eq, hreclaim, hsupply, hhold, hget]
  simp only [State.limit, State.callDelay, State.dropHold, State.svcSetting, hload, hhold', hsupply', and_self]

/-- Half a second on the timers of a class. -/
theorem passTime_class (v : Svc) (k : Cls) :
    (s.passTime.classHold v k).spareTimer = Timer.tick (s.giveHold v) (s.classHold v k).spareTimer ∧
    (s.passTime.queue v k).blockTimer = Timer.tick (s.blockTicks v k) (s.queue v k).blockTimer ∧
    (s.passTime.queue v k).blocker = (s.queue v k).blocker := by
  have hclass := tickClasses_get (forEach services tickService s.lineTicked) v k
  obtain ⟨hhold, -⟩ := tickServices_get s.lineTicked v
  rw [← passTime_eq] at hclass
  obtain ⟨hload', -, -, -, -, hhold', -, happ'⟩ := lineTicked_parts (s := s)
  have happ : (forEach services tickService s.lineTicked).app = s.app :=
    (forEach_keeps State.app services tickService (fun _ _ => rfl) s.lineTicked).trans happ'
  have hspare : (forEach services tickService s.lineTicked).classHold v k = s.classHold v k := by
    rw [State.classHold, State.classHold, hhold, hhold']
  have hqueue : (forEach services tickService s.lineTicked).queue v k = s.queue v k := by rw [State.queue, State.queue, happ]
  have hload : (forEach services tickService s.lineTicked).loader = s.loader :=
    (forEach_keeps State.loader services tickService (fun _ _ => rfl) s.lineTicked).trans hload'
  have hgive : (forEach services tickService s.lineTicked).giveHold v = s.giveHold v := by
    simp only [State.giveHold, State.svcSetting, hload]
  have hblock : (forEach services tickService s.lineTicked).blockTicks v k = s.blockTicks v k := by
    rw [State.blockTicks, hqueue, waitTicks_of_loader s hload]; rfl
  rw [hspare, hqueue, hgive, hblock, State.classTimers, Prod.mk.injEq] at hclass
  obtain ⟨hc, hq⟩ := hclass
  exact ⟨by rw [hc], by rw [hq], by rw [hq]⟩

end

end Sys2Proof.Machine

namespace Sys2Proof.Machine

/-! ### The expiries of a half-second -/

section
variable {limit middle : Nat} {t : Timer}

theorem nears_tick (h : Timer.nears limit t = true) : Timer.nears limit (Timer.tick limit t) = true := by
  cases t with
  | none => cases h
  | some n =>
    simp only [Timer.nears, Bool.and_eq_true, decide_eq_true_eq] at h
    have hn : ¬n + 1 < limit := by omega
    simp only [Timer.tick, Option.map_some, if_neg hn, Timer.nears, Bool.and_eq_true, decide_eq_true_eq]
    exact h

theorem nears_tickVia_middle (h : Timer.nears middle t = true) : Timer.nears middle (Timer.tickVia middle limit t) = true := by
  rwa [Timer.tickVia, if_pos h]

theorem nears_tickVia (h : Timer.nears limit t = true) : Timer.nears limit (Timer.tickVia middle limit t) = true := by
  unfold Timer.tickVia
  split
  · exact h
  · exact nears_tick h

theorem nears_tickPast (h : Timer.nears limit t = true) : Timer.nears limit (Timer.tickPast limit t) = true := by
  rwa [Timer.tickPast, if_pos h]

theorem idleNears_tick {t : IdleTimer} (h : t.nears limit = true) : (t.tick limit).nears limit = true := by
  cases t with
  | stopped => cases h
  | held => cases h
  | running n =>
    simp only [IdleTimer.nears, Bool.and_eq_true, decide_eq_true_eq] at h
    have hn : ¬n + 1 < limit := by omega
    simp only [IdleTimer.tick, if_neg hn, IdleTimer.nears, Bool.and_eq_true, decide_eq_true_eq]
    exact h

theorem countsOn_tick (h : Timer.nears limit t = false) : Claims.CountsOn limit t (Timer.tick limit t) := by
  rintro n rfl hn
  simp only [Timer.nears, Bool.and_eq_false_iff, decide_eq_false_iff_not] at h
  have hlt : n + 1 < limit := by omega
  simp only [Timer.tick, Option.map_some, if_pos hlt]

theorem countsOn_tickVia (hm : Timer.nears middle t = false) (h : Timer.nears limit t = false) :
    Claims.CountsOn limit t (Timer.tickVia middle limit t) := by
  rw [Timer.tickVia, if_neg (by rw [hm]; exact Bool.false_ne_true)]
  exact countsOn_tick h

end

/-- The expiries a state's timers can come to, each with whether it comes in this half-second. -/
def State.dueTable (s : State) : List (Bool × Expiry) :=
  dueLine s ++ stations.flatMap (dueSilence s) ++ services.flatMap (dueService s) ++ serviceClasses.flatMap (dueClass s)
    ++ channels.flatMap (dueOutlet s) ++ channels.flatMap (dueStage s)

/-- What is due in the first table is due in the second. -/
def DueStays (l l' : List (Bool × Expiry)) : Prop := ∀ e, (true, e) ∈ l → (true, e) ∈ l'

section
variable {l l' m m' : List (Bool × Expiry)}

theorem DueStays.nil : DueStays [] l' := fun _ h => by cases h

theorem DueStays.cons {b b' : Bool} {e : Expiry} (hb : b = true → b' = true) (h : DueStays l l') :
    DueStays ((b, e) :: l) ((b', e) :: l') := by
  intro x hx
  rcases List.mem_cons.mp hx with hx | hx
  · obtain ⟨hbt, rfl⟩ := Prod.mk.inj hx
    rw [hb hbt.symm]
    exact List.mem_cons_self
  · exact List.mem_cons_of_mem _ (h x hx)

theorem DueStays.append (h : DueStays l l') (h' : DueStays m m') : DueStays (l ++ m) (l' ++ m') := fun e he =>
  List.mem_append.mpr ((List.mem_append.mp he).imp (h e) (h' e))

theorem DueStays.flatMap {α : Type} {f g : α → List (Bool × Expiry)} (l : List α) (h : ∀ a, DueStays (f a) (g a)) :
    DueStays (l.flatMap f) (l.flatMap g) := fun e he => by
  obtain ⟨a, ha, hin⟩ := List.mem_flatMap.mp he
  exact List.mem_flatMap.mpr ⟨a, ha, h a e hin⟩

end

section
variable {s : State}

theorem mem_expiries {e : Expiry} : e ∈ s.expiries ↔ (true, e) ∈ s.dueTable := by
  unfold State.expiries
  rw [List.mem_map]
  constructor
  · rintro ⟨⟨b, e'⟩, hmem, rfl⟩
    obtain ⟨hmem, hb⟩ := List.mem_filter.mp hmem
    obtain rfl : b = true := hb
    exact hmem
  · exact fun h => ⟨(true, e), List.mem_filter.mpr ⟨h, rfl⟩, rfl⟩

/-- With no expiry due, no timer of the table comes to its limit. -/
theorem not_due_of_dueEvents (h : s.dueEvents = []) {b : Bool} {e : Expiry} (hmem : (b, e) ∈ s.dueTable) : b = false := by
  cases b with
  | false => rfl
  | true =>
    have hin : e ∈ s.expiries := mem_expiries.mpr hmem
    rw [State.dueEvents, List.map_eq_nil_iff] at h
    rw [h] at hin
    cases hin

theorem dueLine_passTime : DueStays (dueLine s) (dueLine s.passTime) := by
  obtain ⟨hliu, hmemb, hwindow⟩ := passTime_line (s := s)
  simp only [dueLine, hliu, hmemb, hwindow, passTime_limit]
  exact .cons nears_tick (.cons nears_tickVia_middle (.cons nears_tickVia (.cons nears_tick (.cons nears_tick .nil))))

theorem dueSilence_passTime (n : Stn) : DueStays (dueSilence s n) (dueSilence s.passTime n) := by
  simp only [dueSilence, passTime_silence, passTime_limit]
  exact .cons nears_tickVia_middle (.cons nears_tickVia .nil)

theorem dueService_passTime (v : Svc) : DueStays (dueService s v) (dueService s.passTime v) := by
  obtain ⟨hreclaim, hcall, hdrop⟩ := passTime_service (s := s) v
  simp only [dueService, hreclaim, hcall, hdrop, passTime_limit, State.callDelay, State.dropHold, passTime_svcSetting]
  exact .cons nears_tick (.cons nears_tick (.cons nears_tick .nil))

theorem passTime_blockTicks (v : Svc) (k : Cls) : s.passTime.blockTicks v k = s.blockTicks v k := by
  obtain ⟨-, -, hblocker⟩ := passTime_class (s := s) v k
  rw [State.blockTicks, hblocker, waitTicks_of_loader s passTime_loader]
  rfl

theorem dueClass_passTime (p : Svc × Cls) : DueStays (dueClass s p) (dueClass s.passTime p) := by
  obtain ⟨hspare, hblock, -⟩ := passTime_class (s := s) p.1 p.2
  simp only [dueClass, hspare, hblock, passTime_blockTicks, State.giveHold, passTime_svcSetting]
  exact .cons nears_tick (.cons nears_tick .nil)

theorem nears_strokeTick (c : OutletCfg) (o : Outlet) :
    (!c.feedback && Timer.nears c.strokeTicks o.stroke → !c.feedback && Timer.nears c.strokeTicks (o.tick c).stroke) ∧
    (c.feedback && Timer.nears (OutletCfg.overrunTicks c) o.stroke → c.feedback && Timer.nears (OutletCfg.overrunTicks c) (o.tick c).stroke) := by
  cases hf : c.feedback with
  | false =>
    have ht : (o.tick c).stroke = Timer.tick c.strokeTicks o.stroke := by simp only [Outlet.tick, hf, Bool.false_eq_true, if_false]
    rw [ht]
    exact ⟨nears_tick, id⟩
  | true =>
    have ht : (o.tick c).stroke = Timer.tickPast (OutletCfg.overrunTicks c) o.stroke := by simp only [Outlet.tick, hf, if_true]
    rw [ht]
    exact ⟨id, nears_tickPast⟩

theorem runEnds_tick (c : OutletCfg) (o : Outlet) (h : (o.countsDown && decide (o.runRemaining ≤ 1)) = true) :
    ((o.tick c).countsDown && decide ((o.tick c).runRemaining ≤ 1)) = true := by
  simp only [Bool.and_eq_true, decide_eq_true_eq] at h ⊢
  refine ⟨h.1, ?_⟩
  have ht : (o.tick c).runRemaining = o.runRemaining := by
    have hn : ¬(o.countsDown && decide (1 < o.runRemaining)) = true := by
      simp only [Bool.and_eq_true, decide_eq_true_eq]
      omega
    exact if_neg hn
  rw [ht]
  exact h.2

theorem dueOutlet_passTime (ch : Chan) : DueStays (dueOutlet s ch) (dueOutlet s.passTime ch) := by
  cases hc : s.outletCfg? ch with
  | none =>
    simp only [dueOutlet, hc]
    exact .nil
  | some c =>
    simp only [dueOutlet, passTime_outletCfg, hc, passTime_outlet_of hc]
    generalize s.outlet ch = o
    obtain ⟨hstroke, hoverrun⟩ := nears_strokeTick c o
    exact .cons idleNears_tick (.cons nears_tick (.cons nears_tick (.cons hstroke (.cons hoverrun (.cons nears_tick
      (.cons (runEnds_tick c o) (.cons nears_tick .nil)))))))

theorem dueStage_passTime (ch : Chan) : DueStays (dueStage s ch) (dueStage s.passTime ch) := by
  cases hc : s.stageCfg? ch with
  | none =>
    simp only [dueStage, hc]
    exact .nil
  | some c =>
    simp only [dueStage, passTime_stageCfg, hc, passTime_stage_of hc]
    exact .cons nears_tick (.cons nears_tick .nil)

/-- An expiry that comes still comes once the other timers have counted on. -/
theorem dueTable_passTime : DueStays s.dueTable s.passTime.dueTable :=
  (((((dueLine_passTime.append (.flatMap stations dueSilence_passTime)).append (.flatMap services dueService_passTime)).append
    (.flatMap serviceClasses dueClass_passTime)).append (.flatMap channels dueOutlet_passTime)).append
    (.flatMap channels dueStage_passTime))

end

end Sys2Proof.Machine

namespace Sys2Proof.Machine

section
variable {s : State}

theorem lineTicked_outlet_of_none {ch : Chan} (hc : s.outletCfg? ch = none) : s.lineTicked.outlet ch = s.outlet ch := by
  have hcfg : s.tickLine.outletCfg? ch = none := by
    rw [← hc]
    simp only [State.outletCfg?, State.cfg, State.tickLine]
  have hat : s.tickLine.outlets = s.outlets := by simp only [State.tickLine]
  rw [State.lineTicked, State.outlet, State.tickOutlets, mapAt_get]
  simp only [hcfg, hat, State.outlet]

theorem lineTicked_outlet_still (ch : Chan) : (s.lineTicked.outlet ch).still = (s.outlet ch).still := by
  cases hc : s.outletCfg? ch with
  | none => rw [lineTicked_outlet_of_none hc]
  | some c => rw [lineTicked_outlet hc]; rfl

/-- Half a second leaves what `State.still` holds, but for the meter window's timer. -/
theorem passTime_still : s.passTime.still = { s.still with meterWindow := s.passTime.meterWindow } := by
  obtain ⟨-, -, -, hwindow, -, -, -, hstill⟩ := unticked_parts (passTime_unticked (s := s))
  have houtlets : s.lineTicked.outlets.map Outlet.still = s.outlets.map Outlet.still := by
    apply Vector.ext
    intro i hi
    have hat : ∀ u : State, (u.outlets.map Outlet.still)[i] = (u.outlet ⟨i, hi⟩).still := fun u => Vector.getElem_map _ _
    rw [hat, hat, lineTicked_outlet_still]
  rw [hstill, hwindow, State.still, houtlets]
  simp only [State.still, State.lineTicked, State.tickOutlets, State.tickLine]

/-- An expiry as the timers give it: no fault owed, no OVERDRAW kept back. -/
def Expiry.Fresh (e : Expiry) : Prop := e.owed = false ∧ e.overdraws = []

theorem dueOutlet_fresh (ch : Chan) {p : Bool × Expiry} (h : p ∈ dueOutlet s ch) : p.2.Fresh := by
  cases hc : s.outletCfg? ch with
  | none => simp only [dueOutlet, hc, List.not_mem_nil] at h
  | some c =>
    simp only [dueOutlet, hc, List.mem_cons, List.not_mem_nil, or_false] at h
    rcases h with rfl | rfl | rfl | rfl | rfl | rfl | rfl | rfl
    case inr.inr.inr.inr.inl => dsimp only; split <;> exact ⟨rfl, rfl⟩
    all_goals exact ⟨rfl, rfl⟩

theorem dueStage_fresh (ch : Chan) {p : Bool × Expiry} (h : p ∈ dueStage s ch) : p.2.Fresh := by
  cases hc : s.stageCfg? ch with
  | none => simp only [dueStage, hc, List.not_mem_nil] at h
  | some c =>
    simp only [dueStage, hc, List.mem_cons, List.not_mem_nil, or_false] at h
    rcases h with rfl | rfl <;> exact ⟨rfl, rfl⟩

theorem dueTable_fresh {p : Bool × Expiry} (h : p ∈ s.dueTable) : p.2.Fresh := by
  simp only [State.dueTable, List.mem_append, List.mem_flatMap] at h
  rcases h with ((((h | ⟨n, -, h⟩) | ⟨v, -, h⟩) | ⟨q, -, h⟩) | ⟨ch, -, h⟩) | ⟨ch, -, h⟩
  · simp only [dueLine, List.mem_cons, List.not_mem_nil, or_false] at h
    rcases h with rfl | rfl | rfl | rfl | rfl <;> exact ⟨rfl, rfl⟩
  · simp only [dueSilence, List.mem_cons, List.not_mem_nil, or_false] at h
    rcases h with rfl | rfl <;> exact ⟨rfl, rfl⟩
  · simp only [dueService, List.mem_cons, List.not_mem_nil, or_false] at h
    rcases h with rfl | rfl | rfl <;> exact ⟨rfl, rfl⟩
  · simp only [dueClass, List.mem_cons, List.not_mem_nil, or_false] at h
    rcases h with rfl | rfl <;> exact ⟨rfl, rfl⟩
  · exact dueOutlet_fresh ch h
  · exact dueStage_fresh ch h

/-- Only one expiry is due: it is taken by its command, once the other timers have counted on. -/
theorem tick_of_single {c : Instr} (hacts : s.acts = true) (h : s.dueEvents = [c]) : s.tick = outcomeState s.passTime (exec c s.passTime) := by
  obtain ⟨e, he, rfl⟩ : ∃ e, s.expiries = [e] ∧ e.command = c := by
    rw [State.dueEvents, List.map_eq_singleton_iff] at h
    exact h
  have hmem : (true, e) ∈ s.dueTable := mem_expiries.mp (by rw [he]; exact List.mem_singleton_self e)
  obtain ⟨howed, hdraws⟩ : e.Fresh := dueTable_fresh hmem
  have hcomes : e.stands s.passTime = true := by
    have hin : e.command ∈ s.passTime.dueEvents := List.mem_map_of_mem (mem_expiries.mpr (dueTable_passTime e hmem))
    rw [Expiry.stands, Expiry.comes, List.contains_iff_mem.mpr hin]
    rfl
  have htake : e.take s.passTime = outcomeState s.passTime (exec e.command s.passTime) := by
    unfold Expiry.take
    rw [howed, hdraws]
    rfl
  rw [State.tick, if_pos hacts, he]
  simp only [List.length_singleton, fireDue, List.filter_cons, hcomes, if_true, List.filter_nil, State.pickFree, htake]

end
end Sys2Proof.Machine

namespace Sys2Proof.Claims

open Machine

section
variable {s : State}

/-- With no expiry due, every timer of the line, the shares and the stages counts on. -/
theorem passTime_lineAndShares (h : s.dueEvents = []) : LineAndShareTimersCount s s.passTime := by
  have due : ∀ {b : Bool} {e : Expiry}, (b, e) ∈ s.dueTable → b = false := not_due_of_dueEvents h
  obtain ⟨hliu, hmemb, hwindow⟩ := passTime_line (s := s)
  have line : ∀ {b : Bool} {e : Expiry}, (b, e) ∈ dueLine s → b = false := fun hm =>
    due (by unfold State.dueTable; simp only [List.mem_append]; exact .inl (.inl (.inl (.inl (.inl hm)))))
  have silent : ∀ {n : Stn} {b : Bool} {e : Expiry}, (b, e) ∈ dueSilence s n → b = false := fun {n} _ _ hm =>
    due (by
      unfold State.dueTable; simp only [List.mem_append]
      exact .inl (.inl (.inl (.inl (.inr (List.mem_flatMap.mpr ⟨n, mem_stations n, hm⟩))))))
  have service : ∀ {v : Svc} {b : Bool} {e : Expiry}, (b, e) ∈ dueService s v → b = false := fun {v} _ _ hm =>
    due (by
      unfold State.dueTable; simp only [List.mem_append]
      exact .inl (.inl (.inl (.inr (List.mem_flatMap.mpr ⟨v, mem_services v, hm⟩)))))
  have cls : ∀ {v : Svc} {k : Cls} {b : Bool} {e : Expiry}, (b, e) ∈ dueClass s (v, k) → b = false := fun {v k} _ _ hm =>
    due (by
      unfold State.dueTable; simp only [List.mem_append]
      exact .inl (.inl (.inr (List.mem_flatMap.mpr ⟨(v, k), mem_serviceClasses v k, hm⟩))))
  have stage : ∀ {ch : Chan} {b : Bool} {e : Expiry}, (b, e) ∈ dueStage s ch → b = false := fun {ch} _ _ hm =>
    due (by
      unfold State.dueTable; simp only [List.mem_append]
      exact .inr (List.mem_flatMap.mpr ⟨ch, mem_channels ch, hm⟩))
  refine ⟨?_, ?_, ?_, ?_, fun n => ?_, fun v => ?_, fun v k => ?_, fun ch c hc => ?_⟩
  · rw [hwindow]
    exact countsOn_tick (limit := Config.meterWindow) (line (e := .plain .meterWindowEnds) (by simp [dueLine]))
  · rw [hmemb]
    exact countsOn_tickVia (line (e := .plain .ownLandingTimerTKeep) (by simp [dueLine]))
      (line (e := .plain .ownLandingTimerTSelf) (by simp [dueLine]))
  · rw [hmemb]
    exact countsOn_tick (line (e := .plain .syncingWindowExpires) (by simp [dueLine]))
  · rw [hliu]
    exact countsOn_tick (line (e := .plain .retryPauseExpires) (by simp [dueLine]))
  · rw [passTime_silence]
    exact countsOn_tickVia (silent (n := n) (e := .plain (.silenceTimerTSelf n)) (by simp [dueSilence]))
      (silent (n := n) (e := .plain (.silenceTimerTExp n)) (by simp [dueSilence]))
  · obtain ⟨hreclaim, hcall, hdrop⟩ := passTime_service (s := s) v
    rw [hreclaim, hcall, hdrop]
    exact ⟨countsOn_tick (service (v := v) (e := .plain (.reclaimTimerExpires v)) (by simp [dueService])),
      countsOn_tick (service (v := v) (e := .plain (.callTimerExpires v)) (by simp [dueService])),
      countsOn_tick (service (v := v) (e := .plain (.dropHoldTimerExpires v)) (by simp [dueService]))⟩
  · obtain ⟨hspare, hblock, -⟩ := passTime_class (s := s) v k
    rw [hspare, hblock]
    exact ⟨countsOn_tick (cls (v := v) (k := k) (e := .plain (.spareTimerExpires v k)) (by simp [dueClass])),
      countsOn_tick (cls (v := v) (k := k) (e := .plain (.blockTimerExpires v k)) (by simp [dueClass]))⟩
  · rw [passTime_stage_of hc]
    exact ⟨countsOn_tick (stage (ch := ch) (e := .plain (.warmUpTimerExpires ch)) (by simp [dueStage, hc])),
      countsOn_tick (stage (ch := ch) (e := .plain (.lockoutTimerExpires ch)) (by simp [dueStage, hc]))⟩

theorem passTime_outlets (h : s.dueEvents = []) : OutletTimersCount s s.passTime := by
  intro ch c hc
  have due : ∀ {b : Bool} {e : Expiry}, (b, e) ∈ dueOutlet s ch → b = false := fun hm =>
    not_due_of_dueEvents h (by
      unfold State.dueTable; simp only [List.mem_append]
      exact .inl (.inr (List.mem_flatMap.mpr ⟨ch, mem_channels ch, hm⟩)))
  simp only [dueOutlet, hc, List.mem_cons, List.not_mem_nil, or_false] at due
  have hidle := due (.inl rfl)
  have hperiod := due (.inr (.inl rfl))
  have hlength := due (.inr (.inr (.inl rfl)))
  have hstroke := due (.inr (.inr (.inr (.inl rfl))))
  have hoverrun := due (.inr (.inr (.inr (.inr (.inl rfl)))))
  have hdrift := due (.inr (.inr (.inr (.inr (.inr (.inl rfl))))))
  have hrun := due (.inr (.inr (.inr (.inr (.inr (.inr (.inl rfl)))))))
  have hsuspension := due (.inr (.inr (.inr (.inr (.inr (.inr (.inr rfl)))))))
  simp only
  rw [passTime_outlet_of hc]
  generalize s.outlet ch = o at *
  refine ⟨fun n hn hlt => ?_, fun x hx hne => ?_, countsOn_tick hperiod, countsOn_tick hlength, countsOn_tick hsuspension,
    countsOn_tick hdrift, fun hf n hn => ?_, fun hf => ?_, fun hst hmov => ?_, fun hne => ?_⟩
  · rw [hn] at hidle
    simp only [IdleTimer.nears, Bool.and_eq_false_iff, decide_eq_false_iff_not] at hidle
    have hlt' : n + 1 < OutletCfg.idleTicks c := by omega
    simp only [Outlet.tick, hn, IdleTimer.tick, if_pos hlt']
  · subst hx
    cases ht : o.idleTimer with
    | running n => exact absurd ht (hne n)
    | stopped => simp only [Outlet.tick, ht, IdleTimer.tick]
    | held => simp only [Outlet.tick, ht, IdleTimer.tick]
  · rw [hf, Bool.true_and] at hoverrun
    have ht : (o.tick c).stroke = Timer.tickPast (OutletCfg.overrunTicks c) o.stroke := by simp only [Outlet.tick, hf, if_true]
    rw [ht, Timer.tickPast, if_neg (by rw [hoverrun]; exact Bool.false_ne_true), hn]
    rfl
  · rw [hf, Bool.not_false, Bool.true_and] at hstroke
    have ht : (o.tick c).stroke = Timer.tick (OutletCfg.strokeTicks c) o.stroke := by
      simp only [Outlet.tick, hf, Bool.false_eq_true, if_false]
    rw [ht]
    exact countsOn_tick hstroke
  · have hdown : o.countsDown = true := by rw [Outlet.countsDown, hst, hmov]; rfl
    rw [hdown, Bool.true_and, decide_eq_false_iff_not] at hrun
    have hlt : 1 < o.runRemaining := by omega
    simp only [Outlet.tick, hdown, Bool.true_and, decide_eq_true hlt, if_true]
    omega
  · have hdown : o.countsDown = false := by
      rw [Outlet.countsDown, Bool.and_eq_false_iff]
      refine hne.imp (fun h => ?_) fun h => by rw [h]; rfl
      exact beq_eq_false_iff_ne.mpr h
    simp only [Outlet.tick, hdown, Bool.false_and, Bool.false_eq_true, if_false]

end

end Sys2Proof.Claims

namespace Sys2Proof.Proofs

open Machine Claims

/-- Settles O2: every timer is short of its limit where no expiry is due; a due one stands, so that its expiry still comes. -/
theorem idleStepPassesTime : Obligations.IdleStepPassesTime := by
  intro s hqueue
  have hstep : step s = .next s.tick := by rw [step, hqueue]
  refine ⟨fun hacts => ?_, fun hacts hdue => ⟨s.passTime, ?_, passTime_still, passTime_lineAndShares hdue, passTime_outlets hdue, ?_, ?_⟩,
    fun c hacts hdue => ?_⟩
  · rw [hstep, State.tick, if_neg (by rw [hacts]; exact Bool.false_ne_true)]
  · have hnone : s.expiries = [] := List.map_eq_nil_iff.mp hdue
    rw [hstep, State.tick, if_pos hacts, hnone]
    rfl
  · obtain ⟨hliu, -, -⟩ := passTime_line (s := s)
    rw [hliu]
  · obtain ⟨-, hmemb, -⟩ := passTime_line (s := s)
    rw [hmemb]
  · obtain ⟨t, ht, -⟩ := everyCommandAnswers c s.passTime
    rw [hstep, tick_of_single hacts hdue, ht]
    rfl

end Sys2Proof.Proofs

namespace Sys2Proof.Machine

/-! ### A station that acts, and one that withdraws, stay so through an event -/

/-- A WITHDRAW has been taken: the withdrawal is under way or over, or it follows the orphan leave (R70, R71). -/
def State.withdrawn (s : State) : Prop := (∃ ended, s.station = .halted ended) ∨ (s.station = .orphan ∧ s.memb.leaveMark ≠ .none)

/-- A change of the station that leads to no state out of work, and out of no withdrawal. -/
structure StationKept (s t : State) : Prop where
  live : s.station.live = true → t.station.live = true
  withdrawn : s.withdrawn → t.withdrawn

section
variable {s t u : State}

theorem StationKept.trans (h1 : StationKept s t) (h2 : StationKept t u) : StationKept s u :=
  ⟨h2.live ∘ h1.live, h2.withdrawn ∘ h1.withdrawn⟩

theorem StationKept.of_memb (h : t.memb = s.memb) : StationKept s t := by
  refine ⟨fun hl => ?_, fun hw => ?_⟩
  · rwa [State.station, h]
  · rwa [State.withdrawn, State.station, h]

theorem StationKept.of_station (hst : t.station = s.station) (hmark : t.memb.leaveMark = s.memb.leaveMark) : StationKept s t :=
  ⟨fun hl => hst ▸ hl, fun hw => by rwa [State.withdrawn, hst, hmark]⟩

theorem StationKept.of_halted {ended : Bool} (h : t.station = .halted ended) : StationKept s t :=
  ⟨fun _ => by rw [h]; rfl, fun _ => .inl ⟨ended, h⟩⟩

theorem withdrawn_of_orphan (hst : s.station = .orphan) (hw : s.withdrawn) : s.memb.leaveMark ≠ .none := by
  rcases hw with ⟨ended, e⟩ | ⟨-, h⟩
  · rw [hst] at e; cases e
  · exact h

end

section
variable (s : State)

theorem contactPhase_stationKept : StationKept s s.contactPhase := by
  unfold State.contactPhase
  split
  · next h =>
    rw [Bool.and_eq_true, isMember_iff] at h
    have hst : s.enterOrphan.station = .orphan := by rw [State.station, enterOrphan_memb]
    refine ⟨fun _ => by rw [hst]; rfl, fun hw => ?_⟩
    rcases hw with ⟨ended, e⟩ | ⟨e, -⟩ <;> cases h.1.symm.trans e
  · exact .of_memb rfl

theorem orphanEndStep_stationKept : StationKept s (orphanEndStep s) := by
  unfold orphanEndStep
  split
  · next h =>
    simp only [Bool.and_eq_true, beq_iff_eq] at h
    unfold State.endOrphan
    split
    · next hmark =>
      refine ⟨fun _ => by rw [enterSyncing_station]; rfl, fun hw => ?_⟩
      exact absurd hmark (withdrawn_of_orphan h.1.1 hw)
    · exact .of_halted (enterHalted_station s)
  · exact .of_memb rfl

theorem leaveLine_station : s.leaveLine.station = .halted true := by
  simp only [State.leaveLine, State.station, State.turnLine, State.modLiu, State.modLedger, State.modMemb]

theorem withdrawalEndStep_stationKept (h : Claims.Staying s) : StationKept s (withdrawalEndStep s) := by
  unfold withdrawalEndStep
  split
  · rw [endWithdrawal_eq, if_neg (by rw [beq_iff_eq]; exact h)]
    exact .of_halted (leaveLine_station s)
  · exact .of_memb rfl

theorem afterContact_leaveMark : s.afterContact.memb.leaveMark = s.memb.leaveMark := by
  rw [State.afterContact, framePhase_leaveMark, State.stagePhase_memb, State.holdPhase_memb]

theorem react_stationKept (h : Claims.Staying s) : StationKept s s.react := by
  cases hlive : s.live with
  | false => rw [react_of_not_live s hlive]; exact .of_memb rfl
  | true =>
    have hafter : StationKept s.outletPhase.contactPhase s.outletPhase.contactPhase.afterContact :=
      .of_station (afterContact_station _) (afterContact_leaveMark _)
    have hwork : StationKept s s.reactWork :=
      (((StationKept.of_memb s.outletPhase_memb).trans (contactPhase_stationKept _)).trans hafter).trans (orphanEndStep_stationKept _)
    have hmark := reactWork_leaveMark s h
    rw [react_of_live s hlive]
    generalize s.reactWork = t at hwork hmark
    exact hwork.trans (withdrawalEndStep_stationKept t hmark)

theorem settle_leaveMark (h : Claims.Staying s) : Claims.Staying s.settle := by
  have h4 := react_leaveMark _ (react_leaveMark _ (react_leaveMark _ (react_leaveMark s h)))
  rw [Claims.Staying, State.settle, rest_memb]
  exact h4

theorem settle_stationKept (h : Claims.Staying s) : StationKept s s.settle := by
  have h1 := react_leaveMark s h
  have h2 := react_leaveMark _ h1
  have h3 := react_leaveMark _ h2
  exact ((((react_stationKept s h).trans (react_stationKept _ h1)).trans (react_stationKept _ h2)).trans
    (react_stationKept _ h3)).trans (.of_memb (rest_memb _))

theorem requestWithdraw_withdrawn (h : s.station.live = true) : s.requestWithdraw.withdrawn := by
  have halt : (s.setLeave .withdraw).enterHalted.withdrawn := .inl ⟨false, enterHalted_station _⟩
  unfold State.requestWithdraw
  split
  · exact halt
  · exact halt
  · exact halt
  · next hst =>
    split
    · exact .inr ⟨hst, LeaveMark.noConfusion⟩
    · next hmark => exact .inr ⟨hst, hmark⟩
  · next hst => rw [hst] at h; cases h
  · next hst => rw [hst] at h; cases h
  · next ended hst => exact .inl ⟨ended, hst⟩

theorem requestWithdraw_stationKept : StationKept s s.requestWithdraw := by
  by_cases hl : s.station.live = true
  · refine ⟨fun _ => ?_, fun _ => requestWithdraw_withdrawn s hl⟩
    rcases requestWithdraw_withdrawn s hl with ⟨ended, e⟩ | ⟨e, -⟩ <;> rw [e] <;> rfl
  · have hsame : s.requestWithdraw = s := by
      unfold State.requestWithdraw
      split
      · next e => rw [e] at hl; exact absurd rfl hl
      · next e => rw [e] at hl; exact absurd rfl hl
      · next e => rw [e] at hl; exact absurd rfl hl
      · next e => rw [e] at hl; exact absurd rfl hl
      all_goals rfl
    rw [hsame]
    exact .of_memb rfl

/-- A fault reported keeps the station at work, and leads to a withdrawal where its response is WITHDRAW (R70, R189). -/
theorem reportFault_stationKept (kind : FaultKind) (ch : Chan) : StationKept s (s.reportFault kind ch) ∧
    (s.station.live = true → s.fru.responses.get kind = .withdraw → (s.reportFault kind ch).withdrawn) := by
  have hresp : ∀ u : State, u.fru.responses = s.fru.responses → u.memb = s.memb → StationKept s (u.respond kind ch) ∧
      (s.station.live = true → s.fru.responses.get kind = .withdraw → (u.respond kind ch).withdrawn) := by
    intro u hu hm
    have hkept : StationKept s u := .of_memb hm
    rw [State.respond, hu]
    cases hk : s.fru.responses.get kind with
    | note => exact ⟨hkept, fun _ e => by cases e⟩
    | isolate =>
      refine ⟨?_, fun _ e => by cases e⟩
      dsimp only
      split
      · exact hkept.trans (.of_memb (memb_of_apart (State.isolate_apart u kind ch)))
      · exact hkept
    | withdraw => exact ⟨hkept.trans (requestWithdraw_stationKept u), fun hl _ => requestWithdraw_withdrawn u (hkept.live hl)⟩
  exact hresp ((s.setFlag .outletFault).countOutletFault.modOutlet ch fun o => { o with lastFault := some kind }) rfl rfl

end

/-! ### What a claim about faults reads of the station -/

/-- What of a record a report writes (R189). -/
def Outlet.faults (o : Outlet) : Option FaultKind × Option FaultKind × Bool := (o.lastFault, o.faultKind, decide (o.state = .fault))

/-- The station acts, and no RESTART is asked for. -/
def State.able (s : State) : Prop := Claims.Staying s ∧ s.acts = true

/-- A change that reports no fault. -/
structure FaultsKept (s t : State) : Prop where
  able : t.able
  loader : t.loader = s.loader
  responses : t.fru.responses = s.fru.responses
  count : t.fru.counters.outletFaults = s.fru.counters.outletFaults
  flag : s.flagSet .outletFault = true → t.flagSet .outletFault = true
  faults : ∀ p, (t.outlet p).faults = (s.outlet p).faults
  withdrawn : s.withdrawn → t.withdrawn

/-- A change that reports one fault on a channel. -/
structure FaultReported (kind : FaultKind) (ch : Chan) (s t : State) : Prop where
  able : t.able
  loader : t.loader = s.loader
  responses : t.fru.responses = s.fru.responses
  count : t.fru.counters.outletFaults = countUp s.fru.counters.outletFaults
  flag : t.flagSet .outletFault = true
  last : (t.outlet ch).lastFault = some kind
  others : ∀ p, p ≠ ch → (t.outlet p).faults = (s.outlet p).faults
  kept : (s.outlet ch).state = .fault → (t.outlet ch).state = .fault ∧ (t.outlet ch).faultKind = (s.outlet ch).faultKind
  withdrawn : s.withdrawn ∨ s.fru.responses.get kind = .withdraw → t.withdrawn

/-- ISOLATE answers the fault (R118). -/
def FaultIsolates (kind : FaultKind) (ch : Chan) (s t : State) : Prop :=
  s.fru.responses.get kind = .isolate → (s.outlet ch).state.isolable = true →
    (t.outlet ch).state = .fault ∧ (t.outlet ch).faultKind = some kind

section
variable {s t u : State} {kind : FaultKind} {ch : Chan}

theorem Outlet.faults_of_still {o o' : Outlet} (h : o'.still = o.still) : o'.faults = o.faults :=
  congrArg (fun q : OutletStill => (q.lastFault, q.faultKind, q.inFault)) h

theorem Outlet.faults_split {o o' : Outlet} (h : o'.faults = o.faults) :
    o'.lastFault = o.lastFault ∧ o'.faultKind = o.faultKind ∧ (o.state = .fault → o'.state = .fault) := by
  simp only [Outlet.faults, Prod.mk.injEq] at h
  refine ⟨h.1, h.2.1, fun e => ?_⟩
  have hd := h.2.2
  rw [e, decide_eq_true rfl] at hd
  exact of_decide_eq_true hd

theorem FaultsKept.refl (h : s.able) : FaultsKept s s := ⟨h, rfl, rfl, rfl, id, fun _ => rfl, id⟩

theorem FaultsKept.trans (h1 : FaultsKept s t) (h2 : FaultsKept t u) : FaultsKept s u where
  able := h2.able
  loader := h2.loader.trans h1.loader
  responses := h2.responses.trans h1.responses
  count := h2.count.trans h1.count
  flag := h2.flag ∘ h1.flag
  faults p := (h2.faults p).trans (h1.faults p)
  withdrawn := h2.withdrawn ∘ h1.withdrawn

theorem FaultReported.followed (h1 : FaultReported kind ch s t) (h2 : FaultsKept t u) : FaultReported kind ch s u where
  able := h2.able
  loader := h2.loader.trans h1.loader
  responses := h2.responses.trans h1.responses
  count := h2.count.trans h1.count
  flag := h2.flag h1.flag
  last := (Outlet.faults_split (h2.faults ch)).1.trans h1.last
  others p hp := (h2.faults p).trans (h1.others p hp)
  kept e := by
    obtain ⟨hst, hkind⟩ := h1.kept e
    obtain ⟨-, hkind', hst'⟩ := Outlet.faults_split (h2.faults ch)
    exact ⟨hst' hst, hkind'.trans hkind⟩
  withdrawn := h2.withdrawn ∘ h1.withdrawn

theorem FaultReported.preceded (h1 : FaultsKept s t) (h2 : FaultReported kind ch t u) : FaultReported kind ch s u where
  able := h2.able
  loader := h2.loader.trans h1.loader
  responses := h2.responses.trans h1.responses
  count := by rw [h2.count, h1.count]
  flag := h2.flag
  last := h2.last
  others p hp := (h2.others p hp).trans (h1.faults p)
  kept e := by
    obtain ⟨-, hkind, hst⟩ := Outlet.faults_split (h1.faults ch)
    obtain ⟨hst', hkind'⟩ := h2.kept (hst e)
    exact ⟨hst', hkind'.trans hkind⟩
  withdrawn h := h2.withdrawn (h.imp h1.withdrawn fun e => by rw [h1.responses]; exact e)

theorem FaultIsolates.followed (h1 : FaultIsolates kind ch s t) (h2 : FaultsKept t u) : FaultIsolates kind ch s u := fun hr hi => by
  obtain ⟨hst, hkind⟩ := h1 hr hi
  obtain ⟨-, hkind', hst'⟩ := Outlet.faults_split (h2.faults ch)
  exact ⟨hst' hst, hkind'.trans hkind⟩

/-- `State.still` shows that no fault is reported. -/
theorem FaultsKept.of_still (h : t.still = s.still) (hable : t.able) (hkept : StationKept s t) : FaultsKept s t where
  able := hable
  loader := congrArg Still.loader h
  responses := congrArg Still.responses h
  count := congrArg Still.outletFaults h
  flag hf := by
    rw [outletFault_of_still, h, ← outletFault_of_still]
    exact hf
  faults p := Outlet.faults_of_still (by rw [← still_outlet, ← still_outlet, h])
  withdrawn := hkept.withdrawn

theorem able_of_parts (h : s.able) (hmark : Claims.Staying t) (hpins : t.pins = s.pins) (hloader : t.loader = s.loader)
    (hkept : StationKept s t) : t.able := by
  obtain ⟨-, hacts⟩ := h
  refine ⟨hmark, ?_⟩
  simp only [State.acts, State.live, Bool.and_eq_true, hpins, hloader] at hacts ⊢
  exact ⟨hacts.1, hacts.2.1, hkept.live hacts.2.2⟩

/-- The reactions report no outlet fault. -/
theorem settle_faultsKept (h : s.able) : FaultsKept s s.settle := by
  have hstill := settle_still s h.1
  have hkept := settle_stationKept s h.1
  exact .of_still hstill (able_of_parts h (settle_leaveMark s h.1) (congrArg Still.pins hstill) (congrArg Still.loader hstill) hkept) hkept

/-- A change of one record that leaves what a report writes reports none. -/
theorem modOutlet_faultsKept (h : s.able) {f : Outlet → Outlet} (hf : (f (s.outlet ch)).faults = (s.outlet ch).faults) :
    FaultsKept s (s.modOutlet ch f) := by
  refine ⟨h, rfl, rfl, rfl, id, fun p => ?_, id⟩
  by_cases hp : ch = p
  · subst hp
    rw [State.modOutlet_outlet_self]
    exact hf
  · rw [State.modOutlet_outlet_of_ne _ _ hp]

/-- One fault reported (R189). -/
theorem reportFault_reported (h : s.able) (kind : FaultKind) (ch : Chan) :
    FaultReported kind ch s (s.reportFault kind ch) ∧ FaultIsolates kind ch s (s.reportFault kind ch) := by
  have hstill := reportFault_still s kind ch
  obtain ⟨hkept, hwithdraw⟩ := reportFault_stationKept s kind ch
  have hlive : s.station.live = true := by
    obtain ⟨-, hacts⟩ := h
    simp only [State.acts, State.live, Bool.and_eq_true] at hacts
    exact hacts.2.2
  have hable := able_of_parts h (reportFault_leaveMark s kind ch h.1) ((congrArg Still.pins hstill).trans rfl)
    ((congrArg Still.loader hstill).trans rfl) hkept
  obtain ⟨-, hlast, -⟩ := reportFault_still_outlet (ch := ch) s kind ch
  have hself : ((s.reportFault kind ch).outlet ch).still =
      { (s.outlet ch).still with
        lastFault := some kind
        faultKind := if decide (s.fru.responses.get kind = .isolate) && (s.outlet ch).state.isolable then some kind
          else (s.outlet ch).still.faultKind
        inFault := decide (s.fru.responses.get kind = .isolate) && (s.outlet ch).state.isolable || (s.outlet ch).still.inFault } := by
    rw [← still_outlet, hstill, ← still_outlet]
    exact Vector.getElem_set_self _
  have hfault := congrArg OutletStill.inFault hself
  have hkind := congrArg OutletStill.faultKind hself
  have hshown : ∀ o : Outlet, o.still.inFault = decide (o.state = .fault) ∧ o.still.faultKind = o.faultKind := fun _ => ⟨rfl, rfl⟩
  simp only [(hshown _).1] at hfault
  simp only [(hshown _).2] at hkind
  refine ⟨⟨hable, (congrArg Still.loader hstill).trans rfl, (congrArg Still.responses hstill).trans rfl,
    (congrArg Still.outletFaults hstill).trans rfl, reportFault_flag s kind ch, hlast, fun p hp => ?_, fun e => ?_, fun hw => ?_⟩,
    fun hr hi => ?_⟩
  · exact Outlet.faults_of_still ((reportFault_still_outlet (ch := p) s kind ch).1 (Ne.symm hp))
  · rw [e, decide_eq_true rfl, Bool.or_true, decide_eq_true_eq] at hfault
    refine ⟨hfault, ?_⟩
    rw [hkind, e]
    simp only [OutletState.isolable, Bool.and_false, Bool.false_eq_true, if_false]
  · exact hw.elim hkept.withdrawn (hwithdraw hlive)
  · rw [hr, hi, decide_eq_true rfl, Bool.and_self, Bool.true_or, decide_eq_true_eq] at hfault
    rw [hr, hi, decide_eq_true rfl, Bool.and_self, if_pos rfl] at hkind
    exact ⟨hfault, hkind⟩

end

end Sys2Proof.Machine

namespace Sys2Proof.Machine

/-! ### The faults that the end of a meter window reports (R141, R190) -/

section
variable {s : State} {ch p a : Chan} {kind : FaultKind}

/-- A report that a change of the same record comes with. -/
theorem modOutlet_reportFault_reported (h : s.able) {f : Outlet → Outlet} (hf : (f (s.outlet ch)).faults = (s.outlet ch).faults)
    (hi : (f (s.outlet ch)).state.isolable = (s.outlet ch).state.isolable) (kind : FaultKind) :
    FaultReported kind ch s ((s.modOutlet ch f).reportFault kind ch) ∧
      FaultIsolates kind ch s ((s.modOutlet ch f).reportFault kind ch) := by
  have hmod := modOutlet_faultsKept h hf
  obtain ⟨hreport, hisolate⟩ := reportFault_reported hmod.able kind ch
  refine ⟨hreport.preceded hmod, fun hr hiso => hisolate hr ?_⟩
  rw [State.modOutlet_outlet_self, hi]
  exact hiso

theorem overdrawDue_of (c : OutletCfg) (hc : s.outletCfg? ch = some c) : s.overdrawDue ch = OutletCfg.overdraws c (s.outlet ch) := by
  rw [State.overdrawDue, hc]
  rfl

theorem overdrawDue_of_none (hc : s.outletCfg? ch = none) : s.overdrawDue ch = false := by
  rw [State.overdrawDue, hc]
  rfl

/-- What the end of a window judges a record by. -/
theorem overdraws_congr (c : OutletCfg) {o o' : Outlet} (hpulses : o'.pulses = o.pulses) (hexcess : o'.excess = o.excess)
    (hbound : o'.largestBound = o.largestBound) (hoff : o'.wasOff = o.wasOff) :
    OutletCfg.overdraws c o' = OutletCfg.overdraws c o := by
  unfold OutletCfg.overdraws OutletCfg.excessAfter OutletCfg.isExcess
  rw [hpulses, hexcess, hbound, hoff]

theorem overdraws_of_meterAs (c : OutletCfg) {o o' : Outlet} (h : o.MeterAs o') : OutletCfg.overdraws c o' = OutletCfg.overdraws c o := by
  obtain ⟨hstill, hmarks⟩ := h
  exact overdraws_congr c (congrArg OutletStill.pulses hstill) (congrArg OutletStill.excess hstill) (congrArg Prod.fst hmarks)
    (congrArg (fun m : Nat × Bool × Bool => m.2.1) hmarks)

theorem windowStep_meterAs_of_ne (h : p ≠ ch) : (s.outlet ch).MeterAs ((windowStep p s).outlet ch) :=
  ⟨windowStep_still_of_ne s h, windowStep_outlet_ind s (P := fun o => o.meterMarks = (s.outlet ch).meterMarks)
    (fun _ _ hstep ho => hstep.meterMarks.trans ho) h rfl⟩

theorem windowStep_loader (p : Chan) : (windowStep p s).loader = s.loader := by
  cases hc : s.outletCfg? p with
  | none => rw [windowStep_of_none s hc]
  | some c =>
    have hreport : ∀ u : State, (u.reportFault .overdraw p).loader = u.loader := fun u =>
      (congrArg Still.loader (reportFault_still u .overdraw p)).trans rfl
    rw [windowStep_of s hc]
    split
    · exact hreport (s.modOutlet p (OutletCfg.endWindow c))
    · rfl

theorem windowStep_overdrawDue_of_ne (h : p ≠ ch) : (windowStep p s).overdrawDue ch = s.overdrawDue ch := by
  have hcfg : (windowStep p s).outletCfg? ch = s.outletCfg? ch := outletCfg_of_image (by rw [windowStep_loader])
  cases hc : s.outletCfg? ch with
  | none => rw [overdrawDue_of_none hc, overdrawDue_of_none (hcfg.trans hc)]
  | some c => rw [overdrawDue_of c hc, overdrawDue_of c (hcfg.trans hc), overdraws_of_meterAs c (windowStep_meterAs_of_ne h)]

theorem endWindow_faults (c : OutletCfg) (o : Outlet) : (OutletCfg.endWindow c o).faults = o.faults := by
  have h := endWindow_still c o
  exact congrArg (fun q : OutletStill => (q.lastFault, q.faultKind, q.inFault)) h

theorem endWindow_isolable (c : OutletCfg) (o : Outlet) : (OutletCfg.endWindow c o).state.isolable = o.state.isolable := by
  have hflow : ∀ o : Outlet, o.ownFlow.state.isolable = o.state.isolable := by
    intro o
    unfold Outlet.ownFlow
    split
    · split <;> rfl
    · next h => rw [h]; rfl
    all_goals rfl
  unfold OutletCfg.endWindow
  dsimp only
  split
  · exact hflow _
  · rfl

theorem windowStep_quiet (h : s.able) (hdue : s.overdrawDue p = false) :
    FaultsKept s (windowStep p s) ∧ ∀ q, q ≠ p → (windowStep p s).outlet q = s.outlet q := by
  cases hc : s.outletCfg? p with
  | none => rw [windowStep_of_none s hc]; exact ⟨.refl h, fun _ _ => rfl⟩
  | some c =>
    rw [overdrawDue_of c hc] at hdue
    rw [windowStep_of s hc, if_neg (by rw [hdue]; exact Bool.false_ne_true)]
    exact ⟨modOutlet_faultsKept h (endWindow_faults c _), fun q hq => State.modOutlet_outlet_of_ne _ _ (Ne.symm hq)⟩

theorem windowStep_reports (h : s.able) (hdue : s.overdrawDue a = true) :
    FaultReported .overdraw a s (windowStep a s) ∧ FaultIsolates .overdraw a s (windowStep a s) := by
  cases hc : s.outletCfg? a with
  | none => rw [overdrawDue_of_none hc] at hdue; cases hdue
  | some c =>
    rw [overdrawDue_of c hc] at hdue
    rw [windowStep_of s hc, if_pos hdue]
    exact modOutlet_reportFault_reported h (endWindow_faults c _) (endWindow_isolable c _) .overdraw

theorem windowSweep_quiet {l : List Chan} (hl : l.Nodup) (h : s.able) (hdue : ∀ p ∈ l, s.overdrawDue p = false) :
    FaultsKept s (forEach l windowStep s) := by
  induction l generalizing s with
  | nil => exact .refl h
  | cons p rest ih =>
    obtain ⟨hp, hrest⟩ := List.nodup_cons.mp hl
    obtain ⟨hstep, -⟩ := windowStep_quiet h (hdue p List.mem_cons_self)
    refine hstep.trans (ih hrest hstep.able fun q hq => ?_)
    rw [windowStep_overdrawDue_of_ne fun e : p = q => hp (e ▸ hq)]
    exact hdue q (List.mem_cons_of_mem _ hq)

theorem windowSweep_reports {l : List Chan} (hl : l.Nodup) (ha : a ∈ l) (h : s.able) (hdue : s.overdrawDue a = true)
    (hothers : ∀ p ∈ l, p ≠ a → s.overdrawDue p = false) :
    FaultReported .overdraw a s (forEach l windowStep s) ∧ FaultIsolates .overdraw a s (forEach l windowStep s) := by
  induction l generalizing s with
  | nil => cases ha
  | cons p rest ih =>
    obtain ⟨hp, hrest⟩ := List.nodup_cons.mp hl
    have hlater : ∀ q ∈ rest, (windowStep p s).overdrawDue q = s.overdrawDue q := fun q hq =>
      windowStep_overdrawDue_of_ne fun e => hp (e ▸ hq)
    by_cases e : p = a
    · subst e
      obtain ⟨hreport, hisolate⟩ := windowStep_reports h hdue
      have hkept : FaultsKept (windowStep p s) (forEach rest windowStep (windowStep p s)) :=
        windowSweep_quiet hrest hreport.able fun q hq => by
          rw [hlater q hq]
          exact hothers q (List.mem_cons_of_mem _ hq) fun e => hp (e ▸ hq)
      exact ⟨hreport.followed hkept, hisolate.followed hkept⟩
    · have hin : a ∈ rest := (List.mem_cons.mp ha).resolve_left (Ne.symm e)
      obtain ⟨hstep, hsame⟩ := windowStep_quiet h (hothers p List.mem_cons_self e)
      obtain ⟨hreport, hisolate⟩ := ih hrest hin hstep.able (by rw [hlater a hin]; exact hdue) fun q hq hne => by
        rw [hlater q hq]
        exact hothers q (List.mem_cons_of_mem _ hq) hne
      refine ⟨hreport.preceded hstep, fun hr hi => hisolate ?_ ?_⟩
      · rw [hstep.responses]; exact hr
      · rw [hsame a (Ne.symm e)]; exact hi

theorem restartWindow_faultsKept (h : s.able) : FaultsKept s { s with meterWindow := some 0 } :=
  ⟨h, rfl, rfl, rfl, id, fun _ => rfl, id⟩

/-- The end of a window in which no OVERDRAW is due. -/
theorem windowEnds_quiet (h : s.able) (hdue : ∀ p, s.overdrawDue p = false) : FaultsKept s s.windowEnds := by
  have hstart := restartWindow_faultsKept h
  exact hstart.trans (windowSweep_quiet mem_channels_nodup hstart.able fun p _ => hdue p)

/-- The end of a window in which one OVERDRAW is due. -/
theorem windowEnds_reports (h : s.able) (hdue : s.overdrawDue a = true) (hothers : ∀ p, p ≠ a → s.overdrawDue p = false) :
    FaultReported .overdraw a s s.windowEnds ∧ FaultIsolates .overdraw a s s.windowEnds := by
  have hstart := restartWindow_faultsKept h
  obtain ⟨hreport, hisolate⟩ := windowSweep_reports mem_channels_nodup (mem_channels a) hstart.able (a := a) hdue fun p _ => hothers p
  exact ⟨hreport.preceded hstart, hisolate⟩

/-! ### The faults of a stuck stroke and of what has been called off (R138, R190, log 37) -/

theorem overrunStroke_reports (h : s.able) (hover : (s.outlet ch).overrun = false) (ticks : Nat) :
    FaultReported .strokeOverrun ch s (s.overrunStroke ch ticks) ∧ FaultIsolates .strokeOverrun ch s (s.overrunStroke ch ticks) := by
  rw [State.overrunStroke, hover]
  exact modOutlet_reportFault_reported h rfl rfl .strokeOverrun

theorem strokeOverrun_eq {c : OutletCfg} (hacts : s.acts = true) (hc : s.outletCfg? ch = some c) (hfeed : c.feedback = true)
    (hmoving : (s.outlet ch).moving = true) (hbelow : Timer.below (OutletCfg.overrunTicks c) (s.outlet ch).stroke = true) :
    exec (.strokeOverrun ch) s = .next (s.overrunStroke ch (OutletCfg.overrunTicks c)).settle := by
  rw [exec, execStrokeOverrun, event_of_taken (outletTakes_of hacts hc (by rw [hfeed, hmoving, hbelow]; rfl)), hc]

/-- A STROKE-OVERRUN called off by the fault taken before it. -/
theorem lateOverrun_reports (h : s.able) : FaultReported .strokeOverrun ch s
    ((s.detectLate .strokeOverrun ch).reportFault .strokeOverrun ch).settle := by
  have hreport := (modOutlet_reportFault_reported (ch := ch) h (f := fun o => { o with overrun := o.overrun || o.moving }) rfl rfl
    .strokeOverrun).1
  exact hreport.followed (settle_faultsKept hreport.able)

/-- An OVERDRAW that the fault taken before the window's end has kept it from reporting. -/
theorem lateOverdraw_reports (h : s.able) {c : OutletCfg} (hc : s.outletCfg? ch = some c) :
    FaultReported .overdraw ch s (lateOverdraw ch s) := by
  have hreport := (modOutlet_reportFault_reported (ch := ch) h (f := fun o => { o with excess := c.persistence }) rfl rfl .overdraw).1
  have hlate : lateOverdraw ch s = ((s.modOutlet ch fun o => { o with excess := c.persistence }).reportFault .overdraw ch).settle := by
    simp only [lateOverdraw, hc]
  rw [hlate]
  exact hreport.followed (settle_faultsKept hreport.able)

end

end Sys2Proof.Machine

namespace Sys2Proof.Machine

/-! ### What of a record outlasts the reports and the reactions -/

/-- A property of one record that everything after a command's own act keeps. -/
structure Outlet.Lasting (c? : Option OutletCfg) (P : Outlet → Prop) : Prop where
  step : ∀ up o o', Outlet.Step up c? o o' → P o → P o'
  observe : ∀ o, P o → P o.observe
  reported : ∀ o kind, P o → P { o with lastFault := some kind }
  takenOut : ∀ o st, P o → P (Outlet.takeOut st o)
  marked : ∀ o kind, P o → P { o with faultKind := some kind }

section
variable {s t : State} {ch : Chan} {P : Outlet → Prop}

theorem Outlet.Lasting.isolate (h : Outlet.Lasting (s.outletCfg? ch) P) (kind : FaultKind) (p : Chan) (hs : P (s.outlet ch)) :
    P ((s.isolate kind p).outlet ch) := by
  rw [State.isolate]
  refine modOutlet_outlet_ind ?_ fun _ ho => h.marked _ kind ho
  rw [State.takeOut, State.leaveStartOrder_outlet, State.leaveQueue_outlet]
  have hmod : P ((s.modOutlet p (Outlet.takeOut .fault)).outlet ch) := modOutlet_outlet_ind hs fun _ ho => h.takenOut _ .fault ho
  exact (setGrant_zero_works (up := False) (s.modOutlet p (Outlet.takeOut .fault)) p).keeps ch P (h.step False) hmod

theorem Outlet.Lasting.reportFault (h : Outlet.Lasting (s.outletCfg? ch) P) (kind : FaultKind) (p : Chan) (hs : P (s.outlet ch)) :
    P ((s.reportFault kind p).outlet ch) := by
  have hnoted : P (((s.setFlag .outletFault).countOutletFault.modOutlet p fun o => { o with lastFault := some kind }).outlet ch) :=
    modOutlet_outlet_ind (s := (s.setFlag .outletFault).countOutletFault) hs fun _ ho => h.reported _ kind ho
  have hcfg : ((s.setFlag .outletFault).countOutletFault.modOutlet p fun o => { o with lastFault := some kind }).outletCfg? ch =
      s.outletCfg? ch := rfl
  rw [State.reportFault, State.respond]
  generalize (s.setFlag .outletFault).countOutletFault.modOutlet p (fun o => { o with lastFault := some kind }) = u at *
  rw [← hcfg] at h
  split
  · exact hnoted
  · split
    · exact h.isolate kind p hnoted
    · exact hnoted
  · exact requestWithdraw_outlet_ind (h.step False) hnoted

theorem Outlet.Lasting.settle (h : Outlet.Lasting (s.outletCfg? ch) P) (hstay : Claims.Staying s) (hs : P (s.outlet ch)) :
    P (s.settle.outlet ch) := (settle_reacts s hstay).outlet_ind h.step h.observe hs

theorem Outlet.Lasting.windowStep (h : Outlet.Lasting (s.outletCfg? ch) P)
    (hend : ∀ c o, s.outletCfg? ch = some c → P o → P (OutletCfg.endWindow c o)) (p : Chan) (hs : P (s.outlet ch)) :
    P ((windowStep p s).outlet ch) := by
  cases hc : s.outletCfg? p with
  | none => rwa [windowStep_of_none s hc]
  | some c =>
    have hmod : P ((s.modOutlet p (OutletCfg.endWindow c)).outlet ch) :=
      modOutlet_outlet_ind hs fun e ho => hend c _ (by rw [← e]; exact hc) ho
    have hcfg : (s.modOutlet p (OutletCfg.endWindow c)).outletCfg? ch = s.outletCfg? ch := rfl
    rw [windowStep_of s hc]
    split
    · exact Outlet.Lasting.reportFault (s := s.modOutlet p (OutletCfg.endWindow c)) h .overdraw p hmod
    · exact hmod

theorem Outlet.Lasting.windowEnds (h : Outlet.Lasting (s.outletCfg? ch) P)
    (hend : ∀ c o, s.outletCfg? ch = some c → P o → P (OutletCfg.endWindow c o)) (hs : P (s.outlet ch)) :
    P (s.windowEnds.outlet ch) := by
  refine (forEach_inv (fun t => t.outletCfg? ch = s.outletCfg? ch ∧ P (t.outlet ch)) channels Machine.windowStep (fun p t ht => ?_)
    { s with meterWindow := some 0 } ⟨rfl, hs⟩).2
  obtain ⟨hcfg, ht⟩ := ht
  refine ⟨(outletCfg_of_image (by rw [windowStep_loader])).trans hcfg, ?_⟩
  rw [← hcfg] at h hend
  exact h.windowStep hend p ht

end

/-! ### A stroke not yet reported -/

/-- A stroke whose overrun is not reported: while its timer runs, the valve moves (R134, R138). -/
def Outlet.Unreported (o : Outlet) : Prop := o.overrun = false ∧ (o.stroke.isSome = true → o.moving = true)

theorem Outlet.Unreported.of_same {o o' : Outlet} (h : o.Unreported) (hover : o'.overrun = o.overrun) (hstroke : o'.stroke = o.stroke)
    (hmoving : o'.moving = o.moving) : o'.Unreported := by
  rw [Outlet.Unreported, hover, hstroke, hmoving]
  exact h

/-- What the valve's own record shows of a stroke. -/
def Outlet.strokeMarks (o : Outlet) : Bool × Timer × Bool := (o.overrun, o.stroke, o.moving)

theorem Outlet.Unreported.of_marks {o o' : Outlet} (h : o.Unreported) (hm : o'.strokeMarks = o.strokeMarks) : o'.Unreported := by
  simp only [Outlet.strokeMarks, Prod.mk.injEq] at hm
  exact h.of_same hm.1 hm.2.1 hm.2.2

theorem unreported_lasting (c? : Option OutletCfg) : Outlet.Lasting c? Outlet.Unreported where
  step up o o' hstep ho := by
    cases hstep with
    | level c _ _ =>
      exact ho.of_marks (by
        unfold Outlet.followLevel
        repeat' split
        all_goals rfl)
    | group c v m b _ _ _ =>
      exact ho.of_marks (by
        unfold Outlet.followGroup
        repeat' split
        all_goals rfl)
    | stroke c v pin g _ _ _ => exact ⟨ho.1, fun _ => rfl⟩
    | settle c _ =>
      obtain ⟨-, -, hstroke, hover⟩ := OutletCfg.settleState_leaves c o.settleRecord
      refine ⟨hover, fun h => ?_⟩
      rw [hstroke] at h
      cases h
    | _ => exact ho.of_marks rfl
  observe o ho := ho.of_marks rfl
  reported o kind ho := ho.of_marks rfl
  takenOut o st ho := ho.of_marks rfl
  marked o kind ho := ho.of_marks rfl

theorem endWindow_strokeMarks (c : OutletCfg) (o : Outlet) : (OutletCfg.endWindow c o).strokeMarks = o.strokeMarks := by
  have hflow : ∀ o : Outlet, o.ownFlow.strokeMarks = o.strokeMarks := by
    intro o
    unfold Outlet.ownFlow
    repeat' split
    all_goals rfl
  unfold OutletCfg.endWindow
  dsimp only
  split
  · exact hflow _
  · rfl

/-! ### The meter's marks while a window runs -/

/-- A window's marks only ever speak for the outlet as the window goes on: a larger bound, a time in OFF (R104, R140). -/
def Outlet.Excuses (bound : Nat) (wasOff : Bool) (o : Outlet) : Prop := bound ≤ o.largestBound ∧ (wasOff = true → o.wasOff = true)

theorem excuses_lasting (c? : Option OutletCfg) (bound : Nat) (wasOff : Bool) : Outlet.Lasting c? (Outlet.Excuses bound wasOff) where
  step up o o' hstep ho := by
    have hm := hstep.meterMarks
    simp only [Outlet.meterMarks, Prod.mk.injEq] at hm
    rw [Outlet.Excuses, hm.1, hm.2.1]
    exact ho
  observe o ho := ⟨Nat.le_trans ho.1 (Nat.le_max_left _ _), fun h => by
    have hoff := ho.2 h
    rw [Outlet.observe, hoff]
    rfl⟩
  reported o kind ho := ho
  takenOut o st ho := ho
  marked o kind ho := ho

theorem overdrawLimit_mono {x y : Nat} (h : x ≤ y) (t : Nat) : overdrawLimit x t ≤ overdrawLimit y t := by
  have hm : x * (100 + t) ≤ y * (100 + t) := Nat.mul_le_mul_right _ h
  have hd := Nat.div_le_div_right (c := 100) hm
  exact Nat.add_le_add_right hd 1

/-- A window that no OVERDRAW is due for comes to none by its marks. -/
theorem overdraws_of_excuses (c : OutletCfg) {o o' : Outlet} (hpulses : o'.pulses = o.pulses) (hexcess : o'.excess = o.excess)
    (h : o'.Excuses o.largestBound o.wasOff) (hdue : OutletCfg.overdraws c o' = true) : OutletCfg.overdraws c o = true := by
  obtain ⟨hbound, hoff⟩ := h
  unfold OutletCfg.overdraws OutletCfg.excessAfter at hdue ⊢
  rw [hpulses, hexcess] at hdue
  cases hnow : OutletCfg.isExcess c o' (o.pulses * c.pulseWeight) with
  | false =>
    rw [hnow, if_neg Bool.false_ne_true] at hdue
    simp only [Bool.and_eq_true, beq_iff_eq, decide_eq_true_eq] at hdue
    omega
  | true =>
    have hthen : OutletCfg.isExcess c o (o.pulses * c.pulseWeight) = true := by
      simp only [OutletCfg.isExcess, Bool.and_eq_true, Bool.not_eq_true', decide_eq_true_eq] at hnow ⊢
      refine ⟨?_, Nat.lt_of_le_of_lt (overdrawLimit_mono hbound _) hnow.2⟩
      cases hw : o.wasOff with
      | false => rfl
      | true => rw [hoff hw] at hnow; cases hnow.1
    rw [hnow] at hdue
    rw [hthen]
    exact hdue

end Sys2Proof.Machine

namespace Sys2Proof.Machine

/-! ### Two expiries of one half-second -/

section
variable {s : State} {b : Chan}

/-- The end of the window and a stroke's overrun come from the line's table and the outlets'. -/
theorem dueTable_cases {p : Bool × Expiry} (h : p ∈ s.dueTable) : p ∈ dueLine s ∨ (∃ ch, p ∈ dueOutlet s ch) ∨
    (p.2.command ≠ .meterWindowEnds ∧ ∀ b, p.2.command ≠ .strokeOverrun b) := by
  simp only [State.dueTable, List.mem_append, List.mem_flatMap] at h
  rcases h with ((((h | ⟨n, -, h⟩) | ⟨v, -, h⟩) | ⟨q, -, h⟩) | ⟨ch, -, h⟩) | ⟨ch, -, h⟩
  · exact .inl h
  · simp only [dueSilence, List.mem_cons, List.not_mem_nil, or_false] at h
    rcases h with rfl | rfl <;> exact .inr (.inr ⟨Instr.noConfusion, fun _ => Instr.noConfusion⟩)
  · simp only [dueService, List.mem_cons, List.not_mem_nil, or_false] at h
    rcases h with rfl | rfl | rfl <;> exact .inr (.inr ⟨Instr.noConfusion, fun _ => Instr.noConfusion⟩)
  · simp only [dueClass, List.mem_cons, List.not_mem_nil, or_false] at h
    rcases h with rfl | rfl <;> exact .inr (.inr ⟨Instr.noConfusion, fun _ => Instr.noConfusion⟩)
  · exact .inr (.inl ⟨ch, h⟩)
  · cases hc : s.stageCfg? ch with
    | none => simp only [dueStage, hc, List.not_mem_nil] at h
    | some c =>
      simp only [dueStage, hc, List.mem_cons, List.not_mem_nil, or_false] at h
      rcases h with rfl | rfl <;> exact .inr (.inr ⟨Instr.noConfusion, fun _ => Instr.noConfusion⟩)

theorem dueLine_command {x : Bool} {e : Expiry} (h : (x, e) ∈ dueLine s) : (∀ b, e.command ≠ .strokeOverrun b) ∧
    (e.command = .meterWindowEnds → e = .plain .meterWindowEnds ∧ x = Timer.nears Config.meterWindow s.meterWindow) := by
  simp only [dueLine, List.mem_cons, List.not_mem_nil, or_false, Prod.mk.injEq] at h
  rcases h with ⟨-, rfl⟩ | ⟨-, rfl⟩ | ⟨-, rfl⟩ | ⟨-, rfl⟩ | ⟨hx, rfl⟩
  case inr.inr.inr.inr => exact ⟨fun _ => Instr.noConfusion, fun _ => ⟨rfl, hx⟩⟩
  all_goals exact ⟨fun _ => Instr.noConfusion, fun he => by cases he⟩

theorem dueOutlet_command {x : Bool} {e : Expiry} {ch : Chan} (h : (x, e) ∈ dueOutlet s ch) : e.command ≠ .meterWindowEnds ∧
    ∀ b, e.command = .strokeOverrun b →
      ∃ c, s.outletCfg? b = some c ∧ x = (OutletCfg.feedback c && Timer.nears (OutletCfg.overrunTicks c) (s.outlet b).stroke) ∧
        e = if (s.outlet b).overrun then .plain (.strokeOverrun b) else .detected .strokeOverrun b (.strokeOverrun b) := by
  cases hc : s.outletCfg? ch with
  | none => simp only [dueOutlet, hc, List.not_mem_nil] at h
  | some c =>
    simp only [dueOutlet, hc, List.mem_cons, List.not_mem_nil, or_false, Prod.mk.injEq] at h
    rcases h with ⟨-, rfl⟩ | ⟨-, rfl⟩ | ⟨-, rfl⟩ | ⟨-, rfl⟩ | ⟨hx, rfl⟩ | ⟨-, rfl⟩ | ⟨-, rfl⟩ | ⟨-, rfl⟩
    case inr.inr.inr.inr.inl =>
      have hcommand : (if (s.outlet ch).overrun then Expiry.plain (.strokeOverrun ch)
          else Expiry.detected .strokeOverrun ch (.strokeOverrun ch)).command = .strokeOverrun ch := by split <;> rfl
      rw [hcommand]
      refine ⟨Instr.noConfusion, fun b hb => ?_⟩
      cases hb
      exact ⟨c, hc, hx, rfl⟩
    all_goals exact ⟨Instr.noConfusion, fun b hb => by cases hb⟩

theorem dueLine_of_windowEnds {x : Bool} {e : Expiry} (h : (x, e) ∈ s.dueTable) (he : e.command = .meterWindowEnds) :
    e = .plain .meterWindowEnds ∧ x = Timer.nears Config.meterWindow s.meterWindow := by
  rcases dueTable_cases h with h | ⟨ch, h⟩ | ⟨h, -⟩
  · exact (dueLine_command h).2 he
  · exact absurd he (dueOutlet_command h).1
  · exact absurd he h

theorem dueOutlet_of_strokeOverrun {x : Bool} {e : Expiry} (h : (x, e) ∈ s.dueTable) (he : e.command = .strokeOverrun b) :
    ∃ c, s.outletCfg? b = some c ∧ x = (OutletCfg.feedback c && Timer.nears (OutletCfg.overrunTicks c) (s.outlet b).stroke) ∧
      e = if (s.outlet b).overrun then .plain (.strokeOverrun b) else .detected .strokeOverrun b (.strokeOverrun b) := by
  rcases dueTable_cases h with h | ⟨ch, h⟩ | ⟨-, h⟩
  · exact absurd he ((dueLine_command h).1 b)
  · exact (dueOutlet_command h).2 b he
  · exact absurd he (h b)

theorem comes_iff {e : Expiry} : e.comes s = true ↔ ∃ f, (true, f) ∈ s.dueTable ∧ f.command = e.command := by
  rw [Expiry.comes, List.contains_iff_mem, State.dueEvents, List.mem_map]
  exact exists_congr fun f => and_congr_left' mem_expiries

/-- The end of the meter window, as it comes due. -/
def Expiry.window : Expiry := .plain .meterWindowEnds

/-- The overrun of a stuck stroke, as it comes due. -/
def Expiry.overrun (b : Chan) : Expiry := .detected .strokeOverrun b (.strokeOverrun b)

theorem expiries_of_two (h : s.dueEvents = [.meterWindowEnds, .strokeOverrun b]) (hover : (s.outlet b).overrun = false) :
    s.expiries = [.window, .overrun b] := by
  rw [State.dueEvents, List.map_eq_cons_iff] at h
  obtain ⟨e, l, he, hwindow, hl⟩ := h
  obtain ⟨f, rfl, hstroke⟩ := List.map_eq_singleton_iff.mp hl
  have hmem : ∀ x ∈ [e, f], (true, x) ∈ s.dueTable := fun x hx => mem_expiries.mp (by rw [he]; exact hx)
  obtain ⟨rfl, -⟩ := dueLine_of_windowEnds (hmem e List.mem_cons_self) hwindow
  obtain ⟨c, -, -, rfl⟩ := dueOutlet_of_strokeOverrun (hmem f (by simp)) hstroke
  rw [he, hover, if_neg Bool.false_ne_true]
  rfl

theorem comes_window : Expiry.window.comes s = true ↔ Timer.nears Config.meterWindow s.meterWindow = true := by
  rw [comes_iff]
  constructor
  · rintro ⟨f, hf, hc⟩
    exact (dueLine_of_windowEnds hf hc).2.symm
  · intro h
    refine ⟨.window, ?_, rfl⟩
    simp only [State.dueTable, List.mem_append, dueLine, h, List.mem_cons]
    exact .inl (.inl (.inl (.inl (.inl (.inr (.inr (.inr (.inr (.inl rfl)))))))))

theorem expiries_freeUses (n : Nat) : ({ s with freeUses := n } : State).expiries = s.expiries := rfl

theorem pickFree_two {α : Type} (x y : α) : ∃ n, s.pickFree [x, y] = some (x, { s with freeUses := n }) ∨
    s.pickFree [x, y] = some (y, { s with freeUses := n }) := by
  refine ⟨s.freeUses + 1, ?_⟩
  have hlt : Config.freeChoice s.freeUses % 2 < 2 := Nat.mod_lt _ (by decide)
  simp only [State.pickFree, List.length_cons, List.length_nil, Nat.zero_add, Nat.reduceAdd]
  generalize Config.freeChoice s.freeUses % 2 = i at hlt
  obtain rfl | rfl : i = 0 ∨ i = 1 := by omega
  · exact .inl rfl
  · exact .inr rfl

theorem fireDue_one {e : Expiry} (h : e.stands s = true) : fireDue 1 [e] s = e.take s := by
  simp only [fireDue, List.filter_cons, h, if_true, List.filter_nil, State.pickFree]

/-- Two expiries that stand are taken one after the other, in either order (log 3). -/
theorem fireDue_two {e f : Expiry} (hne : e ≠ f) (he : e.stands s = true) (hf : f.stands s = true) :
    ∃ n, (fireDue 2 [e, f] s = fireDue 1 [Expiry.owe e { s with freeUses := n } (e.take { s with freeUses := n }) f]
        (e.take { s with freeUses := n })) ∨
      (fireDue 2 [e, f] s = fireDue 1 [Expiry.owe f { s with freeUses := n } (f.take { s with freeUses := n }) e]
        (f.take { s with freeUses := n })) := by
  have hfilter : [e, f].filter (Expiry.stands s) = [e, f] := by
    simp only [List.filter_cons, he, hf, if_true, List.filter_nil]
  have herase : [e, f].erase f = [e] := by
    rw [List.erase_cons_tail (by simpa using hne), List.erase_cons_head]
  obtain ⟨n, h⟩ := pickFree_two (s := s) e f
  refine ⟨n, h.imp (fun h => ?_) fun h => ?_⟩
  · rw [fireDue, hfilter, h]
    simp only [List.erase_cons_head, List.map_cons, List.map_nil]
  · rw [fireDue, hfilter, h]
    simp only [herase, List.map_cons, List.map_nil]

end

end Sys2Proof.Machine

namespace Sys2Proof.Machine

/-! ### A STROKE-OVERRUN and an OVERDRAW of one half-second (R190, logs 3, 37) -/

/-- An OVERDRAW of channel `a` alone at the window's end, and the overrun of the stroke of channel `b`, both due. -/
structure BothDue (a b : Chan) (s : State) : Prop where
  able : s.able
  window : Timer.nears Config.meterWindow s.meterWindow = true
  stroke : ∃ c, s.outletCfg? b = some c ∧ OutletCfg.feedback c = true ∧
    Timer.nears (OutletCfg.overrunTicks c) (s.outlet b).stroke = true
  moving : (s.outlet b).moving = true
  overrun : (s.outlet b).overrun = false
  due : s.overdrawDue a = true
  others : ∀ ch, ch ≠ a → s.overdrawDue ch = false

section
variable {s u : State} {a b : Chan}

theorem below_of_nears {limit : Nat} {t : Timer} (h : Timer.nears limit t = true) : Timer.below limit t = true := by
  cases t with
  | none => cases h
  | some n =>
    simp only [Timer.nears, Bool.and_eq_true] at h
    exact h.1

theorem isSome_of_nears {limit : Nat} {t : Timer} (h : Timer.nears limit t = true) : t.isSome = true := by
  cases t with
  | none => cases h
  | some n => rfl

/-- A stroke's overrun comes where the timer of a valve with feedback nears its limit. -/
theorem comes_overrun : (Expiry.overrun b).comes s = true ↔ ∃ c, s.outletCfg? b = some c ∧ OutletCfg.feedback c = true ∧
    Timer.nears (OutletCfg.overrunTicks c) (s.outlet b).stroke = true := by
  rw [comes_iff]
  constructor
  · rintro ⟨f, hf, hcommand⟩
    obtain ⟨c, hc, hx, -⟩ := dueOutlet_of_strokeOverrun hf hcommand
    rw [eq_comm, Bool.and_eq_true] at hx
    exact ⟨c, hc, hx⟩
  · rintro ⟨c, hc, hfeed, hnears⟩
    refine ⟨if (s.outlet b).overrun then .plain (.strokeOverrun b) else .detected .strokeOverrun b (.strokeOverrun b), ?_, ?_⟩
    · simp only [State.dueTable, List.mem_append, List.mem_flatMap]
      refine .inl (.inr ⟨b, mem_channels b, ?_⟩)
      simp only [dueOutlet, hc, List.mem_cons, hfeed, hnears, Bool.and_self]
      exact .inr (.inr (.inr (.inr (.inl trivial))))
    · split <;> rfl

theorem BothDue.comes_window (h : BothDue a b s) : Expiry.window.comes s = true := Machine.comes_window.mpr h.window

theorem BothDue.comes_overrun (h : BothDue a b s) : (Expiry.overrun b).comes s = true := Machine.comes_overrun.mpr h.stroke

theorem window_take (h : s.acts = true) (hwindow : Timer.nears Config.meterWindow s.meterWindow = true) :
    outcomeState s (exec .meterWindowEnds s) = s.windowEnds.settle := by
  rw [meterWindowEnds_eq h (isSome_of_nears hwindow)]
  rfl

/-- The stroke's overrun taken while it comes. -/
theorem overrun_take (h : s.able) (hcomes : (Expiry.overrun b).comes s = true) (hopen : (s.outlet b).Unreported) :
    FaultReported .strokeOverrun b s ((Expiry.overrun b).take s) ∧ FaultIsolates .strokeOverrun b s ((Expiry.overrun b).take s) ∧
      ∃ ticks, (Expiry.overrun b).take s = (s.overrunStroke b ticks).settle := by
  obtain ⟨c, hc, hfeed, hnears⟩ := comes_overrun.mp hcomes
  have htake : (Expiry.overrun b).take s = (s.overrunStroke b (OutletCfg.overrunTicks c)).settle := by
    have hrun : (Expiry.overrun b).take s = outcomeState s (exec (.strokeOverrun b) s) := rfl
    rw [hrun, strokeOverrun_eq h.2 hc hfeed (hopen.2 (isSome_of_nears hnears)) (below_of_nears hnears)]
    rfl
  obtain ⟨hreport, hisolate⟩ := overrunStroke_reports h hopen.1 (OutletCfg.overrunTicks c)
  have hkept := settle_faultsKept hreport.able
  rw [htake]
  exact ⟨hreport.followed hkept, hisolate.followed hkept, _, rfl⟩

theorem BothDue.unreported (h : BothDue a b s) : (s.outlet b).Unreported := ⟨h.overrun, fun _ => h.moving⟩

/-- The window's end first: the stroke's overrun, once it has been reported, or is owed. -/
theorem BothDue.windowFirst (h : BothDue a b s) :
    FaultReported .overdraw a s (Expiry.window.take s) ∧ FaultIsolates .overdraw a s (Expiry.window.take s) ∧
    FaultReported .strokeOverrun b (Expiry.window.take s)
      (fireDue 1 [Expiry.owe .window s (Expiry.window.take s) (.overrun b)] (Expiry.window.take s)) := by
  have htake : Expiry.window.take s = s.windowEnds.settle := window_take h.able.2 h.window
  obtain ⟨hreport, hisolate⟩ := windowEnds_reports h.able h.due h.others
  have hkept := settle_faultsKept hreport.able
  have hopen : (Expiry.window.take s |>.outlet b).Unreported := by
    have hended : (s.windowEnds.outlet b).Unreported := (unreported_lasting _).windowEnds
      (fun c o _ ho => ho.of_marks (endWindow_strokeMarks c o)) h.unreported
    rw [htake]
    exact (unreported_lasting _).settle hreport.able.1 hended
  rw [← htake] at hkept
  have hfirst := hreport.followed hkept
  refine ⟨hfirst, hisolate.followed hkept, ?_⟩
  have howe : Expiry.owe .window s (Expiry.window.take s) (.overrun b) =
      { Expiry.overrun b with owed := !(Expiry.overrun b).comes (Expiry.window.take s) } := by
    rw [Expiry.owe, if_pos (by rw [h.comes_overrun]; rfl)]
    rfl
  rw [howe]
  generalize Expiry.window.take s = t at hfirst hopen
  cases hcomes : (Expiry.overrun b).comes t with
  | true =>
    have hstands : (Expiry.overrun b).stands t = true := by rw [Expiry.stands, hcomes]; rfl
    exact (congrArg (FaultReported .strokeOverrun b t) (fireDue_one hstands)).mpr (overrun_take hfirst.able hcomes hopen).1
  | false =>
    have hstands : Expiry.stands t { Expiry.overrun b with owed := true } = true := by
      rw [Expiry.stands, hfirst.able.2, Bool.and_true]
      exact Bool.or_true _
    exact (congrArg (FaultReported .strokeOverrun b t) (fireDue_one hstands)).mpr (lateOverrun_reports hfirst.able)

theorem overrunStroke_of (hover : (s.outlet b).overrun = false) (ticks : Nat) : s.overrunStroke b ticks =
    (s.modOutlet b fun o => { o with stroke := some ticks, overrun := true }).reportFault .strokeOverrun b := by
  rw [State.overrunStroke, hover]
  rfl

theorem overrunStroke_settle_window (h : s.able) (hover : (s.outlet b).overrun = false) (ticks : Nat) :
    (s.overrunStroke b ticks).settle.meterWindow = s.meterWindow := by
  obtain ⟨hreport, -⟩ := overrunStroke_reports h hover ticks
  refine (congrArg Still.meterWindow (settle_still _ hreport.able.1)).trans ?_
  rw [overrunStroke_of hover]
  exact (congrArg Still.meterWindow (reportFault_still _ _ _)).trans rfl

/-- What the window's end still judges, after a stroke's overrun, it judged before (R141). -/
theorem overdrawDue_of_overrun (h : s.able) (hover : (s.outlet b).overrun = false) (ticks : Nat) {ch : Chan}
    (hdue : (s.overrunStroke b ticks).settle.overdrawDue ch = true) : s.overdrawDue ch = true := by
  obtain ⟨hreport, -⟩ := overrunStroke_reports h hover ticks
  have hcfg : (s.overrunStroke b ticks).settle.outletCfg? ch = s.outletCfg? ch :=
    outletCfg_of_image (by rw [(hreport.followed (settle_faultsKept hreport.able)).loader])
  cases hc : s.outletCfg? ch with
  | none => rw [overdrawDue_of_none (hcfg.trans hc)] at hdue; cases hdue
  | some c =>
    rw [overdrawDue_of c (hcfg.trans hc)] at hdue
    rw [overdrawDue_of c hc]
    have hstroke := overrunStroke_of hover ticks
    have hmod : ((s.modOutlet b fun o => { o with stroke := some ticks, overrun := true }).outlet ch).still = (s.outlet ch).still ∧
        ((s.modOutlet b fun o => { o with stroke := some ticks, overrun := true }).outlet ch).Excuses (s.outlet ch).largestBound
          (s.outlet ch).wasOff :=
      modOutlet_outlet_ind (P := fun o => o.still = (s.outlet ch).still ∧ o.Excuses (s.outlet ch).largestBound (s.outlet ch).wasOff)
        ⟨rfl, Nat.le_refl _, id⟩ fun _ ho => ho
    have hexcused : ((s.overrunStroke b ticks).settle.outlet ch).Excuses (s.outlet ch).largestBound (s.outlet ch).wasOff := by
      refine (excuses_lasting _ _ _).settle hreport.able.1 ?_
      rw [hstroke]
      exact (excuses_lasting _ _ _).reportFault .strokeOverrun b hmod.2
    have hmeter : ((s.overrunStroke b ticks).settle.outlet ch).pulses = (s.outlet ch).pulses ∧
        ((s.overrunStroke b ticks).settle.outlet ch).excess = (s.outlet ch).excess := by
      have hsettled : ((s.overrunStroke b ticks).settle.outlet ch).still = ((s.overrunStroke b ticks).outlet ch).still := by
        rw [← still_outlet, settle_still _ hreport.able.1, still_outlet]
      have hpulses := congrArg OutletStill.pulses hsettled
      have hexcess := congrArg OutletStill.excess hsettled
      rw [hstroke] at hpulses hexcess ⊢
      generalize hu : (s.modOutlet b fun o => { o with stroke := some ticks, overrun := true }) = u at *
      obtain ⟨hother, -⟩ := reportFault_still_outlet (ch := ch) u .strokeOverrun b
      have hstill := hmod.1
      by_cases hb : b = ch
      · subst hb
        obtain ⟨-, -, -, hp, he⟩ := reportFault_still_outlet (ch := b) u .strokeOverrun b
        exact ⟨hpulses.trans (hp.trans (congrArg OutletStill.pulses hstill)), hexcess.trans (he.trans (congrArg OutletStill.excess hstill))⟩
      · have hsame := (hother hb).trans hstill
        exact ⟨hpulses.trans (congrArg OutletStill.pulses hsame), hexcess.trans (congrArg OutletStill.excess hsame)⟩
    exact overdraws_of_excuses c hmeter.1 hmeter.2 hexcused hdue

theorem channels_filter_eq (a : Chan) {p : Chan → Bool} (ha : p a = true) (hothers : ∀ ch, ch ≠ a → p ch = false) :
    channels.filter p = [a] := by
  have hp : p = fun ch => decide (ch = a) := by
    funext ch
    by_cases e : ch = a
    · rw [e, ha, decide_eq_true rfl]
    · rw [hothers ch e, decide_eq_false e]
  have hall : ∀ a : Chan, channels.filter (fun ch => decide (ch = a)) = [a] := by decide
  rw [hp, hall]

theorem channels_filter_nil {p : Chan → Bool} (h : ∀ ch, p ch = false) : channels.filter p = [] := by
  rw [List.filter_eq_nil_iff]
  exact fun ch _ => by rw [h ch]; exact Bool.false_ne_true

/-- The stroke's overrun first: the window's end reports the OVERDRAW, or it follows. -/
theorem BothDue.overrunFirst (h : BothDue a b s) :
    FaultReported .strokeOverrun b s ((Expiry.overrun b).take s) ∧ FaultIsolates .strokeOverrun b s ((Expiry.overrun b).take s) ∧
    FaultReported .overdraw a ((Expiry.overrun b).take s)
      (fireDue 1 [Expiry.owe (.overrun b) s ((Expiry.overrun b).take s) .window] ((Expiry.overrun b).take s)) := by
  obtain ⟨hfirst, hisolate, ticks, htake⟩ := overrun_take h.able h.comes_overrun h.unreported
  refine ⟨hfirst, hisolate, ?_⟩
  have hwindow : Timer.nears Config.meterWindow ((Expiry.overrun b).take s).meterWindow = true := by
    rw [htake, overrunStroke_settle_window h.able h.overrun]
    exact h.window
  have hnew : ∀ ch, ((Expiry.overrun b).take s).overdrawDue ch = true → s.overdrawDue ch = true := fun ch hch =>
    overdrawDue_of_overrun h.able h.overrun ticks (by rw [← htake]; exact hch)
  have howe : Expiry.owe (.overrun b) s ((Expiry.overrun b).take s) .window = { Expiry.window with
      overdraws := channels.filter fun ch => s.overdrawDue ch && !((Expiry.overrun b).take s).overdrawDue ch } := by
    rw [Expiry.owe, if_pos (by rw [h.comes_window]; rfl)]
    rfl
  rw [howe]
  generalize (Expiry.overrun b).take s = t at hfirst hwindow hnew
  have hothers : ∀ ch, ch ≠ a → t.overdrawDue ch = false := fun ch hch => by
    cases hd : t.overdrawDue ch with
    | false => rfl
    | true => exact absurd (hnew ch hd) (by rw [h.others ch hch]; exact Bool.false_ne_true)
  have hstands : ∀ l, Expiry.stands t { Expiry.window with overdraws := l } = true := fun l => by
    have hcomes : Expiry.comes t { Expiry.window with overdraws := l } = true := Machine.comes_window.mpr hwindow
    rw [Expiry.stands, hcomes]
    rfl
  have hend : ∀ l, Expiry.take { Expiry.window with overdraws := l } t = forEach l lateOverdraw t.windowEnds.settle := fun l => by
    have hrun : Expiry.take { Expiry.window with overdraws := l } t =
        forEach l lateOverdraw (outcomeState t (exec .meterWindowEnds t)) := rfl
    rw [hrun, window_take hfirst.able.2 hwindow]
  rw [fireDue_one (hstands _), hend]
  cases hdue : t.overdrawDue a with
  | true =>
    rw [channels_filter_nil fun ch => ?_]
    · have hreport := (windowEnds_reports hfirst.able hdue hothers).1
      exact hreport.followed (settle_faultsKept hreport.able)
    · by_cases e : ch = a
      · rw [e, hdue, Bool.not_true, Bool.and_false]
      · rw [h.others ch e, Bool.false_and]
  | false =>
    rw [channels_filter_eq a (by rw [h.due, hdue]; rfl) fun ch hch => by rw [h.others ch hch, Bool.false_and]]
    have hquiet : FaultsKept t t.windowEnds := windowEnds_quiet hfirst.able fun ch => by
      by_cases e : ch = a
      · rw [e, hdue]
      · exact hothers ch e
    have hkept := hquiet.trans (settle_faultsKept hquiet.able)
    cases hc : s.outletCfg? a with
    | none =>
      have hnone := h.due
      rw [overdrawDue_of_none hc] at hnone
      cases hnone
    | some c =>
      have hca : t.windowEnds.settle.outletCfg? a = some c := by
        rw [← hc]
        exact outletCfg_of_image (by rw [hkept.loader, hfirst.loader])
      exact (lateOverdraw_reports hkept.able hca).preceded hkept

end

end Sys2Proof.Machine

namespace Sys2Proof.Machine

section
variable {s : State} {a b : Chan}

/-- Half a second leaves what a report writes of a record, and what the window's end judges. -/
theorem passTime_outlet_leaves (ch : Chan) : (s.passTime.outlet ch).faults = (s.outlet ch).faults ∧
    (s.passTime.outlet ch).state = (s.outlet ch).state ∧ (s.passTime.outlet ch).moving = (s.outlet ch).moving ∧
    (s.passTime.outlet ch).overrun = (s.outlet ch).overrun ∧ s.passTime.overdrawDue ch = s.overdrawDue ch := by
  cases hc : s.outletCfg? ch with
  | none =>
    obtain ⟨-, houtlets, -⟩ := unticked_parts (passTime_unticked (s := s))
    have hsame : s.passTime.outlet ch = s.outlet ch := (outlet_of_outlets houtlets ch).trans (lineTicked_outlet_of_none hc)
    rw [hsame, overdrawDue_of_none hc, overdrawDue_of_none ((passTime_outletCfg ch).trans hc)]
    exact ⟨rfl, rfl, rfl, rfl, rfl⟩
  | some c =>
    rw [passTime_outlet_of hc, overdrawDue_of c hc, overdrawDue_of c ((passTime_outletCfg ch).trans hc), passTime_outlet_of hc]
    exact ⟨rfl, rfl, rfl, rfl, rfl⟩

theorem FaultsKept.freeUses {t : State} (h : FaultsKept s t) (n : Nat) : FaultsKept s { t with freeUses := n } :=
  ⟨h.able, h.loader, h.responses, h.count, h.flag, h.faults, h.withdrawn⟩

theorem BothDue.freeUses (h : BothDue a b s) (n : Nat) : BothDue a b { s with freeUses := n } :=
  ⟨h.able, h.window, h.stroke, h.moving, h.overrun, h.due, h.others⟩

theorem faultsKept_of_window {t : State} {w : Timer} (hstill : t.still = { s.still with meterWindow := w }) (hable : t.able)
    (hkept : StationKept s t) (hfaults : ∀ p, (t.outlet p).faults = (s.outlet p).faults) : FaultsKept s t := by
  refine ⟨hable, congrArg Still.loader hstill, congrArg Still.responses hstill, congrArg Still.outletFaults hstill, fun hf => ?_,
    hfaults, hkept.withdrawn⟩
  rw [outletFault_of_still] at hf ⊢
  rw [hstill]
  exact hf

theorem passTime_faultsKept (h : s.able) : FaultsKept s s.passTime := by
  obtain ⟨-, hmemb, -⟩ := passTime_line (s := s)
  have hstation : s.passTime.memb.station = s.memb.station := by rw [hmemb]
  have hmark : s.passTime.memb.leaveMark = s.memb.leaveMark := by rw [hmemb]
  have hstill := passTime_still (s := s)
  have hloader := passTime_loader (s := s)
  have hfaults := fun p => (passTime_outlet_leaves (s := s) p).1
  generalize s.passTime = t at hstation hmark hstill hloader hfaults ⊢
  have hkept : StationKept s t := .of_station hstation hmark
  exact faultsKept_of_window hstill
    (able_of_parts h (by rw [Claims.Staying, hmark]; exact h.1) (congrArg Still.pins hstill) hloader hkept) hkept hfaults

/-- The two expiries stand when the other timers have counted on. -/
theorem bothDue_of_passTime (h : s.able) (hdue : s.dueEvents = [.meterWindowEnds, .strokeOverrun b])
    (hmoving : (s.outlet b).moving = true) (hover : (s.outlet b).overrun = false) (ha : s.overdrawDue a = true)
    (hothers : ∀ ch, ch ≠ a → s.overdrawDue ch = false) : BothDue a b s.passTime := by
  have hexp := expiries_of_two hdue hover
  have hstays : ∀ e ∈ [Expiry.window, Expiry.overrun b], e.comes s.passTime = true := fun e he =>
    comes_iff.mpr ⟨e, dueTable_passTime e (mem_expiries.mp (by rw [hexp]; exact he)), rfl⟩
  have hleaves := fun ch => passTime_outlet_leaves (s := s) ch
  have hable := (passTime_faultsKept h).able
  generalize s.passTime = t at hstays hleaves hable ⊢
  obtain ⟨-, -, hmov, hov, -⟩ := hleaves b
  obtain ⟨-, -, -, -, hdraw⟩ := hleaves a
  exact ⟨hable, comes_window.mp (hstays _ List.mem_cons_self), comes_overrun.mp (hstays _ (List.mem_cons_of_mem _ List.mem_cons_self)),
    hmov.trans hmoving, hov.trans hover, hdraw.trans ha, fun ch hch => (hleaves ch).2.2.2.2.trans (hothers ch hch)⟩

/-- The half-second reports the two faults, one after the other. -/
theorem tick_of_bothDue (h : s.able) (hdue : s.dueEvents = [.meterWindowEnds, .strokeOverrun b])
    (hmoving : (s.outlet b).moving = true) (hover : (s.outlet b).overrun = false) (ha : s.overdrawDue a = true)
    (hothers : ∀ ch, ch ≠ a → s.overdrawDue ch = false) :
    ∃ first second c d u w, ((first = .overdraw ∧ c = a ∧ second = .strokeOverrun ∧ d = b) ∨
        (first = .strokeOverrun ∧ c = b ∧ second = .overdraw ∧ d = a)) ∧
      FaultsKept s w ∧ (∀ p, (w.outlet p).state = (s.outlet p).state) ∧
      FaultReported first c w u ∧ FaultIsolates first c w u ∧ FaultReported second d u s.tick := by
  have hboth := bothDue_of_passTime h hdue hmoving hover ha hothers
  have hw := passTime_faultsKept h
  have hstate : ∀ p, (s.passTime.outlet p).state = (s.outlet p).state := fun p => (passTime_outlet_leaves p).2.1
  have htick : s.tick = fireDue 2 [.window, .overrun b] s.passTime := by
    rw [State.tick, if_pos h.2, expiries_of_two hdue hover]
    rfl
  rw [htick]
  generalize s.passTime = t at hboth hw hstate ⊢
  have hwindow : Expiry.window.stands t = true := by rw [Expiry.stands, hboth.comes_window]; rfl
  have hoverrun : (Expiry.overrun b).stands t = true := by rw [Expiry.stands, hboth.comes_overrun]; rfl
  have hne : Expiry.window ≠ Expiry.overrun b := fun e => by
    have hcommand := congrArg Expiry.command e
    cases hcommand
  obtain ⟨n, horder⟩ := fireDue_two hne hwindow hoverrun
  rcases horder with horder | horder
  · obtain ⟨hfirst, hisolate, hsecond⟩ := (hboth.freeUses n).windowFirst
    rw [horder]
    exact ⟨.overdraw, .strokeOverrun, a, b, _, { t with freeUses := n }, .inl ⟨rfl, rfl, rfl, rfl⟩, hw.freeUses n, hstate,
      hfirst, hisolate, hsecond⟩
  · obtain ⟨hfirst, hisolate, hsecond⟩ := (hboth.freeUses n).overrunFirst
    rw [horder]
    exact ⟨.strokeOverrun, .overdraw, b, a, _, { t with freeUses := n }, .inr ⟨rfl, rfl, rfl, rfl⟩, hw.freeUses n, hstate,
      hfirst, hisolate, hsecond⟩

end

end Sys2Proof.Machine

namespace Sys2Proof.Proofs

open Machine Claims

/-- Settles O45: the two are reported one after the other, in either order; each claim follows from the pair of reports. -/
theorem faultsTogetherAreReported : Obligations.FaultsTogetherAreReported := by
  intro s a b hqueue hacts hstay hdue hmoving hover ha hothers
  have hable : s.able := ⟨hstay, hacts⟩
  obtain ⟨first, second, c, d, u, w, horder, hw, hstate, hfirst, hisolate, hsecond⟩ :=
    tick_of_bothDue hable hdue hmoving hover ha hothers
  have hstep : step s = .next s.tick := by rw [step, hqueue]
  refine ⟨s.tick, hstep, hsecond.flag, by rw [hsecond.count, hfirst.count, hw.count], fun hne => ?_, fun he => ?_, fun hresp => ?_⟩
  · have hcd : c ≠ d := by
      rcases horder with ⟨-, rfl, -, rfl⟩ | ⟨-, rfl, -, rfl⟩
      · exact hne
      · exact Ne.symm hne
    have hc : (s.tick.outlet c).lastFault = some first :=
      (Outlet.faults_split (hsecond.others c hcd)).1.trans hfirst.last
    rcases horder with ⟨rfl, rfl, rfl, rfl⟩ | ⟨rfl, rfl, rfl, rfl⟩
    · exact ⟨hc, hsecond.last⟩
    · exact ⟨hsecond.last, hc⟩
  · subst he
    have hca : c = a ∧ d = a := by
      rcases horder with ⟨-, hc, -, hd⟩ | ⟨-, hc, -, hd⟩ <;> exact ⟨hc, hd⟩
    obtain ⟨rfl, rfl⟩ := hca
    refine ⟨first, second, horder.imp (fun h => ⟨h.1, h.2.2.1⟩) fun h => ⟨h.1, h.2.2.1⟩, hsecond.last, fun hr hi => ?_⟩
    obtain ⟨hfault, hkind⟩ := hisolate (by rw [hw.responses]; exact hr) (by rw [hstate]; exact hi)
    obtain ⟨hfault', hkind'⟩ := hsecond.kept hfault
    exact ⟨hfault', hkind'.trans hkind⟩
  · have hwithdrawn : s.tick.withdrawn := by
      rcases horder with ⟨rfl, -, rfl, -⟩ | ⟨rfl, -, rfl, -⟩
      · refine hsecond.withdrawn (hresp.imp (fun h => hfirst.withdrawn (.inr ?_)) fun h => ?_)
        · rw [hw.responses]; exact h
        · rw [hfirst.responses, hw.responses]; exact h
      · refine hsecond.withdrawn (hresp.symm.imp (fun h => hfirst.withdrawn (.inr ?_)) fun h => ?_)
        · rw [hw.responses]; exact h
        · rw [hfirst.responses, hw.responses]; exact h
    exact hwithdrawn

end Sys2Proof.Proofs

namespace Sys2Proof.Machine

/-! ### The figures of the standing rules, and what leaves them (chapter 4)

A rule served by one phase of an event stays served to its end where the later phases leave the figures it speaks of. -/

/-- What the shares read of an outlet. -/
def Outlet.shareMarks (o : Outlet) : OutletState × Nat × Nat × Nat × PulsePhase := (o.state, o.desired, o.grant, o.peak, o.pulsePhase)

/-- What the rules after the keep amounts read of a class. -/
def ClassHold.figures (c : ClassHold) : Nat × Nat × Bool × Nat × Nat :=
  (c.bandLimit, c.keep, c.dutyMark, c.carriedShortage, c.carriedReclaim)

/-- The two amounts left unplaced (R92). -/
def ServiceHold.unplaced (h : ServiceHold) : Nat × Nat := (h.unplacedShortage, h.unplacedReclaim)

/-- What the rules of the TAKE and the WANT read of a service. -/
def ServiceHold.asks (h : ServiceHold) : Option (Cls × Nat) × Bool := (h.outstanding, h.wantMark)

/-- The guard and the two orders. -/
def Apportioner.orders (a : Apportioner) : Guard × Per8 (List Chan) × Per8 (List Chan) := (a.guard, a.raiseOrder, a.startOrder)

/-- A change that leaves the figures of the shares. -/
structure Figures (s t : State) : Prop where
  loader : t.loader = s.loader
  copy : t.ledger.copy = s.ledger.copy
  station : t.station = s.station
  landing : t.memb.ownLanding = s.memb.ownLanding
  outlets : ∀ ch, (t.outlet ch).shareMarks = (s.outlet ch).shareMarks
  orders : t.app.orders = s.app.orders
  classes : ∀ v k, (t.classHold v k).figures = (s.classHold v k).figures
  unplaced : ∀ v, (t.hold.get v).unplaced = (s.hold.get v).unplaced
  normal : ∀ v k, t.normalTerm v k = s.normalTerm v k

theorem Figures.refl (s : State) : Figures s s :=
  ⟨rfl, rfl, rfl, rfl, fun _ => rfl, rfl, fun _ _ => rfl, fun _ => rfl, fun _ _ => rfl⟩

theorem Figures.trans {s t u : State} (h1 : Figures s t) (h2 : Figures t u) : Figures s u where
  loader := h2.loader.trans h1.loader
  copy := h2.copy.trans h1.copy
  station := h2.station.trans h1.station
  landing := h2.landing.trans h1.landing
  outlets ch := (h2.outlets ch).trans (h1.outlets ch)
  orders := h2.orders.trans h1.orders
  classes v k := (h2.classes v k).trans (h1.classes v k)
  unplaced v := (h2.unplaced v).trans (h1.unplaced v)
  normal v k := (h2.normal v k).trans (h1.normal v k)

theorem Figures.forEach {α : Type} (l : List α) (f : α → State → State) (h : ∀ a t, Figures t (f a t)) (s : State) :
    Figures s (forEach l f s) :=
  forEach_inv (Figures s) l f (fun a t ht => ht.trans (h a t)) s (.refl s)

section
variable {s t : State} {v : Svc} {k : Cls}

/-- What an outlet asks of its class: its desired draw, while it counts (R78). -/
def Outlet.share (o : Outlet) : Nat := if o.state.counts then o.desired else 0

theorem share_of_shareMarks {o o' : Outlet} (h : o'.shareMarks = o.shareMarks) : o'.share = o.share := by
  simp only [Outlet.shareMarks, Prod.mk.injEq] at h
  rw [Outlet.share, Outlet.share, h.1, h.2.1]

theorem demand_of_shares (hloader : t.loader = s.loader)
    (hshares : ∀ ch, s.inClass v k ch = true → (t.outlet ch).share = (s.outlet ch).share) : t.demand v k = s.demand v k := by
  change ((t.classChannels v k).map fun ch => (t.outlet ch).share).sum = ((s.classChannels v k).map fun ch => (s.outlet ch).share).sum
  rw [classChannels_of_loader hloader]
  exact congrArg List.sum (List.map_congr_left fun ch hch => hshares ch (List.mem_filter.mp hch).2)

/-- The same image, shares and band give the same target. -/
theorem target_of_shares (hloader : t.loader = s.loader)
    (hshares : ∀ ch, s.inClass v k ch = true → (t.outlet ch).share = (s.outlet ch).share)
    (hband : (t.classHold v k).bandLimit = (s.classHold v k).bandLimit) : t.target v k = s.target v k := by
  rw [State.target, State.target, demand_of_shares hloader hshares, hband]

theorem own_of_loader (hloader : t.loader = s.loader) : t.own = s.own := by simp only [State.own, hloader]

theorem ownEntry_of_parts (hloader : t.loader = s.loader) (hcopy : t.ledger.copy = s.ledger.copy) : t.ownEntry = s.ownEntry := by
  simp only [State.ownEntry, State.entry, own_of_loader hloader, hcopy]

theorem ownHolding_of_parts (hloader : t.loader = s.loader) (hcopy : t.ledger.copy = s.ledger.copy) :
    t.ownHolding v k = s.ownHolding v k := by rw [State.ownHolding, State.ownHolding, ownEntry_of_parts hloader hcopy]

theorem svcSetting_of_loader (hloader : t.loader = s.loader) (f : ServiceCfg → Nat) : t.svcSetting v f = s.svcSetting v f := by
  simp only [State.svcSetting, hloader]

/-- What leaves the station, the copy, the shares, the band and the releasing mark leaves the normal term. -/
theorem normalTerm_of_shares (hloader : t.loader = s.loader) (hcopy : t.ledger.copy = s.ledger.copy) (hstation : t.station = s.station)
    (hshares : ∀ ch, s.inClass v k ch = true → (t.outlet ch).share = (s.outlet ch).share)
    (hband : (t.classHold v k).bandLimit = (s.classHold v k).bandLimit)
    (hreleasing : (t.classHold v k).releasing = (s.classHold v k).releasing) : t.normalTerm v k = s.normalTerm v k := by
  have htarget := target_of_shares hloader hshares hband
  have hstands : t.spareStands v k = s.spareStands v k := by
    rw [State.spareStands, State.spareStands, hstation, htarget, svcSetting_of_loader hloader, ownHolding_of_parts hloader hcopy]
  rw [State.normalTerm, State.normalTerm, hreleasing, hstands, htarget, ownHolding_of_parts hloader hcopy]

/-- A change outside the copy, the holdings and what the shares read of the outlets. -/
theorem Figures.of_parts (hloader : t.loader = s.loader) (hcopy : t.ledger.copy = s.ledger.copy) (hstation : t.station = s.station)
    (hlanding : t.memb.ownLanding = s.memb.ownLanding) (houtlets : ∀ ch, (t.outlet ch).shareMarks = (s.outlet ch).shareMarks)
    (horders : t.app.orders = s.app.orders) (hhold : t.hold = s.hold) : Figures s t := by
  have hclass : ∀ v k, t.classHold v k = s.classHold v k := fun v k => by rw [State.classHold, State.classHold, hhold]
  exact ⟨hloader, hcopy, hstation, hlanding, houtlets, horders, fun v k => by rw [hclass], fun v => by rw [hhold],
    fun v k => normalTerm_of_shares hloader hcopy hstation (fun ch _ => share_of_shareMarks (houtlets ch)) (by rw [hclass])
      (by rw [hclass])⟩

/-- A change outside the outlets, the Apportioner, the holdings and the copy. -/
theorem Figures.of_aside (hloader : t.loader = s.loader) (hcopy : t.ledger.copy = s.ledger.copy) (hstation : t.station = s.station)
    (hlanding : t.memb.ownLanding = s.memb.ownLanding) (houtlets : t.outlets = s.outlets) (happ : t.app = s.app)
    (hhold : t.hold = s.hold) : Figures s t :=
  .of_parts hloader hcopy hstation hlanding (fun ch => by rw [outlet_of_outlets houtlets]) (by rw [happ]) hhold

theorem modHold_get (w : Svc) (f : ServiceHold → ServiceHold) :
    (s.modHold v f).hold.get w = if v = w then f (s.hold.get w) else s.hold.get w := by
  by_cases h : v = w
  · subst h; rw [if_pos rfl, State.modHold_hold, Per2.get_set_self]
  · rw [if_neg h, State.modHold_hold, Per2.get_set_of_ne _ _ h]

/-- A change of a service's record that leaves its classes and its unplaced amounts. -/
theorem modHold_figures {f : ServiceHold → ServiceHold} (hclasses : ∀ h, (f h).classes = h.classes)
    (hunplaced : ∀ h, (f h).unplaced = h.unplaced) : Figures s (s.modHold v f) := by
  have hclass : ∀ w k, (s.modHold v f).classHold w k = s.classHold w k := fun w k => by
    rw [State.classHold, modHold_get]
    split
    · rw [hclasses]; rfl
    · rfl
  refine ⟨rfl, rfl, rfl, rfl, fun _ => rfl, rfl, fun w k => by rw [hclass], fun w => ?_,
    fun w k => normalTerm_of_shares rfl rfl rfl (fun _ _ => rfl) (by rw [hclass]) (by rw [hclass])⟩
  rw [modHold_get]
  split
  · exact hunplaced _
  · rfl

theorem modTxQueue_figures (f : TxQueue → TxQueue) : Figures s (s.modTxQueue f) := .of_aside rfl rfl rfl rfl rfl rfl rfl

/-! ### The phases after the keep amounts -/

theorem reclaimStep_figures (v : Svc) (s : State) : Figures s (reclaimStep v s) := by
  unfold reclaimStep
  exact modHold_figures (fun _ => rfl) fun _ => rfl

theorem placeGive_figures (v : Svc) (k : Cls) (n : Nat) (s : State) : Figures s (s.placeGive v k n) := modTxQueue_figures _

theorem giveStep_figures (v : Svc) (k : Cls) (s : State) : Figures s (giveStep v k s) := by
  unfold giveStep
  dsimp only
  split
  · exact placeGive_figures v k _ s
  · exact .refl s

theorem takeStep_figures (v : Svc) (s : State) : Figures s (takeStep v s) := by
  unfold takeStep
  split
  · split
    · dsimp only
      split
      · exact Figures.trans (t := s.placeTake v _ _) (modTxQueue_figures _) (modHold_figures (fun _ => rfl) fun _ => rfl)
      · exact .refl s
    · exact .refl s
  · exact .refl s

theorem wantStep_figures (v : Svc) (s : State) : Figures s (wantStep v s) := by
  unfold wantStep
  split
  · have hmark : ∀ mark, Figures s (s.modHold v fun h => { h with wantMark := mark }) := fun mark =>
      modHold_figures (fun _ => rfl) fun _ => rfl
    dsimp only
    split
    · exact (hmark _).trans (modTxQueue_figures _)
    · exact hmark _
  · exact .refl s

theorem alwaysStep_figures (ch : Chan) (s : State) : Figures s (alwaysStep ch s) := by
  unfold alwaysStep
  split
  · exact .of_aside rfl rfl rfl rfl rfl rfl rfl
  · exact .refl s

theorem callStep_figures (v : Svc) (s : State) : Figures s (callStep v s) := by
  unfold callStep
  dsimp only
  split
  · split <;> exact .of_aside rfl rfl rfl rfl rfl rfl rfl
  · exact .of_aside rfl rfl rfl rfl rfl rfl rfl

theorem offerStep_figures (v : Svc) (s : State) : Figures s (offerStep v s) := by
  unfold offerStep
  split
  · exact modTxQueue_figures _
  · exact .refl s

theorem dropStep_figures (v : Svc) (s : State) : Figures s (dropStep v s) := .of_aside rfl rfl rfl rfl rfl rfl rfl

theorem stagePhase_figures (s : State) : Figures s s.stagePhase := by
  unfold State.stagePhase
  split
  · exact (((Figures.forEach channels alwaysStep alwaysStep_figures s).trans (.forEach services callStep callStep_figures _)).trans
      (.forEach services offerStep offerStep_figures _)).trans (.forEach services dropStep dropStep_figures _)
  · exact .of_aside rfl rfl rfl rfl rfl rfl rfl

theorem expiryStep_figures (n : Stn) (s : State) : Figures s (expiryStep n s) := by
  unfold expiryStep
  split
  · exact .of_aside rfl rfl rfl rfl rfl rfl rfl
  · exact .refl s

theorem selfStep_figures (s : State) : Figures s (selfStep s) := by
  unfold selfStep
  split
  · exact .of_aside rfl rfl rfl rfl rfl rfl rfl
  · exact .refl s

theorem lapseKeyStep_figures (s : State) : Figures s (lapseKeyStep s) := by
  unfold lapseKeyStep
  split
  · exact .refl s
  · split
    · exact .of_aside rfl rfl rfl rfl rfl rfl rfl
    · split
      · split
        · exact .of_aside rfl rfl rfl rfl rfl rfl rfl
        · exact .refl s
      · exact .refl s

theorem refreshStep_figures (s : State) : Figures s (refreshStep s) := by
  unfold refreshStep
  split
  · exact modTxQueue_figures _
  · exact .refl s

theorem framePhase_figures (s : State) : Figures s s.framePhase := by
  have hexpiry : Figures s (if s.isMember then forEach stations expiryStep s else s) := by
    split
    · exact .forEach stations expiryStep expiryStep_figures s
    · exact .refl s
  unfold State.framePhase
  exact ((hexpiry.trans (selfStep_figures _)).trans (lapseKeyStep_figures _)).trans (refreshStep_figures _)

/-! ### The end of an event -/

theorem modClass_figures {f : ClassHold → ClassHold} (hf : (f (s.classHold v k)).figures = (s.classHold v k).figures)
    (hnormal : (s.modClass v k f).normalTerm v k = s.normalTerm v k) : Figures s (s.modClass v k f) := by
  have hclass : ∀ w j, ((s.modClass v k f).classHold w j).figures = (s.classHold w j).figures ∧
      (s.modClass v k f).normalTerm w j = s.normalTerm w j := by
    intro w j
    by_cases h : v = w ∧ k = j
    · obtain ⟨rfl, rfl⟩ := h
      exact ⟨by rw [modClass_classHold_self, hf], hnormal⟩
    · have hsame := modClass_classHold_of_ne s f (Classical.not_and_iff_not_or_not.mp h)
      exact ⟨by rw [hsame], normalTerm_of_shares rfl rfl rfl (fun _ _ => rfl) (by rw [hsame]) (by rw [hsame])⟩
  refine ⟨rfl, rfl, rfl, rfl, fun _ => rfl, rfl, fun w j => (hclass w j).1, fun w => ?_, fun w j => (hclass w j).2⟩
  rw [State.modClass, modHold_get]
  split <;> rfl

/-- A releasing mark whose spare does not stand counts for nothing, and falls (R86). -/
theorem spareStep_figures (v : Svc) (k : Cls) (s : State) : Figures s (spareStep v k s) := by
  have hbasis : SpareBasis s (spareStep v k s) := spareStep_spareBasis v k
  have hreleasing : ((spareStep v k s).classHold v k).releasing = ((s.classHold v k).releasing && s.spareStands v k) :=
    congrArg Prod.snd (spareStep_self v k)
  have hnormal : (spareStep v k s).normalTerm v k = s.normalTerm v k := by
    rw [State.normalTerm, State.normalTerm, hbasis.spareStands, hbasis.target, hbasis.ownHolding, hreleasing, Bool.and_assoc,
      Bool.and_self]
  exact modClass_figures rfl hnormal

theorem shedShortStep_figures (v : Svc) (s : State) : Figures s (shedShortStep v s) := by
  have hmark : ∀ a b, Figures s (s.modHold v fun h => { h with unplacedTrue := a, overrunTrue := b }) := fun a b =>
    modHold_figures (fun _ => rfl) fun _ => rfl
  unfold shedShortStep
  dsimp only
  split
  · exact (hmark _ _).trans (.of_aside rfl rfl rfl rfl rfl rfl rfl)
  · exact hmark _ _

theorem observe_figures (s : State) : Figures s s.observe := by
  refine .of_parts s.observe_loader (by rw [s.observe_ledger]) (by rw [State.station, s.observe_memb, State.station])
    (by rw [s.observe_memb]) (fun ch => ?_) (by rw [s.observe_app]) s.observe_hold
  rw [State.outlet, State.observe_outlets, mapAt_get]
  split <;> rfl

/-- The moment counted and the passes made. -/
theorem counted_figures (n : Nat) (s : State) :
    Figures s { s with app := { s.app with passDue := Per8.all false }, now := n } :=
  .of_parts rfl rfl rfl rfl (fun _ => rfl) rfl rfl

theorem rest_figures (s : State) : Figures s s.rest := by
  have hjudged : Figures s (if s.live then (Machine.forEach services shedShortStep s.sparePhase).observe else s) := by
    split
    · exact ((Figures.forEach serviceClasses (fun p => spareStep p.1 p.2) (fun p t => spareStep_figures p.1 p.2 t) s).trans
        (.forEach services shedShortStep shedShortStep_figures _)).trans (observe_figures _)
    · exact .refl s
  unfold State.rest
  exact hjudged.trans (counted_figures _ _)

end

end Sys2Proof.Machine

namespace Sys2Proof.Machine

/-! ### The last round of an event that ends in MEMBER -/

section
variable (s : State)

theorem endWithdrawal_not_member : s.endWithdrawal.isMember = false := by
  have hst : s.leaveLine.station = .halted true := by
    simp only [State.leaveLine, State.station, State.turnLine, State.modLiu, State.modLedger, State.modMemb]
  rw [endWithdrawal_eq]
  split
  · split
    · exact isMember_of_station _ hst
    · rfl
  · exact isMember_of_station _ hst

theorem endOrphan_not_member : s.endOrphan.isMember = false := by
  unfold State.endOrphan
  split
  · exact isMember_of_station _ (enterSyncing_station s)
  · exact isMember_of_station _ (enterHalted_station s)

/-- No leave leads into MEMBER, and none changes a MEMBER (R69, R72). -/
theorem leavePhase_of_isMember (h : s.leavePhase.isMember = true) : s.isMember = true := by
  have hwithdrawal : ∀ t : State, (withdrawalEndStep t).isMember = true → t.isMember = true := by
    intro t ht
    unfold withdrawalEndStep at ht
    split at ht
    · rw [endWithdrawal_not_member] at ht; cases ht
    · exact ht
  have horphan := hwithdrawal _ h
  unfold orphanEndStep at horphan
  split at horphan
  · rw [endOrphan_not_member] at horphan; cases horphan
  · exact horphan

theorem station_of_isMember (h : s.isMember = true) : s.station = .member := (isMember_iff s).mp h

theorem contactPhase_of_isMember (h : s.contactPhase.isMember = true) : s.contactPhase = s := by
  unfold State.contactPhase at h ⊢
  split
  · next hlost =>
    rw [if_pos hlost, State.isMember, State.station, enterOrphan_memb] at h
    cases h
  · rfl

theorem afterContact_isMember : s.afterContact.isMember = s.isMember := by rw [State.isMember, afterContact_station]; rfl

theorem live_of_react (h : s.react.live = true) : s.live = true := by
  refine eq_true_of_ne_false fun hlive => ?_
  rw [react_of_not_live s hlive, hlive] at h
  cases h

theorem react_reacts_of_live (h : s.react.live = true) : Reacts s s.react := by
  refine (react_cases s).resolve_right fun ⟨t, _, e⟩ => ?_
  rw [e, live_fullReset] at h
  cases h

/-- A round that ends in MEMBER began there, and kept contact. -/
theorem react_of_isMember (hlive : s.react.live = true) (hm : s.react.isMember = true) :
    s.isMember = true ∧ s.react = s.outletPhase.afterContact := by
  have hreact := react_eq s (live_of_react s hlive)
  rw [hreact] at hm
  have hafter := leavePhase_of_isMember _ hm
  have hcontact := contactPhase_of_isMember s.outletPhase (by rwa [← afterContact_isMember])
  have hround : s.outletPhase.contactPhase.afterContact.leavePhase = s.outletPhase.afterContact := by
    rw [leavePhase_of_member _ (station_of_isMember _ hafter), hcontact]
  rw [hcontact, afterContact_isMember] at hafter
  exact ⟨(outletPhase_works (up := True) s).isMember.symm.trans hafter, hreact.trans hround⟩

theorem rest_live : s.rest.live = s.live := by
  have hloader : s.rest.loader = s.loader := (rest_reacts s).loader
  unfold State.live
  rw [rest_station, hloader]

theorem rest_isMember : s.rest.isMember = s.isMember := by rw [State.isMember, State.isMember, rest_station]

/-- What an event that ends in MEMBER leaves is what its last round made of the outlets. -/
theorem settle_lastRound (hlive : s.settle.live = true) (hm : s.settle.isMember = true) :
    ∃ x : State, Reacts s x ∧ x.isMember = true ∧ x.live = true ∧ s.settle = x.outletPhase.afterContact.rest := by
  have h4 : s.react.react.react.react.live = true := by rwa [State.settle, rest_live] at hlive
  have h3 := live_of_react _ h4
  have h2 := live_of_react _ h3
  obtain ⟨hmember, hround⟩ := react_of_isMember _ h4 (by rwa [State.settle, rest_isMember] at hm)
  refine ⟨s.react.react.react, ?_, hmember, h3, by rw [State.settle, hround]⟩
  exact ((react_reacts_of_live s (live_of_react _ h2)).trans (react_reacts_of_live _ h2)).trans (react_reacts_of_live _ h3)

end

end Sys2Proof.Machine

namespace Sys2Proof.Machine

/-! ### Work within one class

The steps of one class of a service leave the outlets, orders and queues of every other class alone. -/

theorem forEach_inv_mem {α : Type} {P : State → Prop} {l : List α} {f : α → State → State}
    (h : ∀ a ∈ l, ∀ t, P t → P (f a t)) {s : State} (hs : P s) : P (forEach l f s) := by
  induction l generalizing s with
  | nil => exact hs
  | cons a rest ih =>
    exact ih (fun b hb => h b (List.mem_cons_of_mem a hb)) (h a (List.mem_cons_self ..) s hs)

/-- A change of the outlets, orders and queue of one class alone. -/
structure Within (v : Svc) (k : Cls) (s t : State) : Prop where
  loader : t.loader = s.loader
  ledger : t.ledger = s.ledger
  memb : t.memb = s.memb
  guard : t.app.guard = s.app.guard
  outlets : ∀ ch, s.inClass v k ch = false → t.outlet ch = s.outlet ch
  raise : ∀ w j, v ≠ w ∨ k ≠ j → t.app.raiseOrder.get w j = s.app.raiseOrder.get w j
  start : ∀ w j, v ≠ w ∨ k ≠ j → t.app.startOrder.get w j = s.app.startOrder.get w j
  queue : ∀ w j, v ≠ w ∨ k ≠ j → t.queue w j = s.queue w j

section
variable {s t u : State} {v : Svc} {k : Cls}

theorem inClass_of_loader (h : t.loader = s.loader) (ch : Chan) : t.inClass v k ch = s.inClass v k ch :=
  inClass_of_image (by rw [h])

theorem Within.refl (s : State) : Within v k s s :=
  ⟨rfl, rfl, rfl, rfl, fun _ _ => rfl, fun _ _ _ => rfl, fun _ _ _ => rfl, fun _ _ _ => rfl⟩

theorem Within.trans (h1 : Within v k s t) (h2 : Within v k t u) : Within v k s u where
  loader := h2.loader.trans h1.loader
  ledger := h2.ledger.trans h1.ledger
  memb := h2.memb.trans h1.memb
  guard := h2.guard.trans h1.guard
  outlets ch h := (h2.outlets ch (by rwa [inClass_of_loader h1.loader])).trans (h1.outlets ch h)
  raise w j h := (h2.raise w j h).trans (h1.raise w j h)
  start w j h := (h2.start w j h).trans (h1.start w j h)
  queue w j h := (h2.queue w j h).trans (h1.queue w j h)

theorem Within.ite {a b : State} {p : Prop} [Decidable p] (ha : p → Within v k s a) (hb : ¬p → Within v k s b) :
    Within v k s (if p then a else b) := by
  split
  · next h => exact ha h
  · next h => exact hb h

theorem Within.forEach {l : List Chan} {f : Chan → State → State} (hl : ∀ ch ∈ l, s.inClass v k ch = true)
    (h : ∀ ch t, t.inClass v k ch = true → Within v k t (f ch t)) : Within v k s (forEach l f s) :=
  forEach_inv_mem (P := Within v k s) (fun ch hch t ht => ht.trans (h ch t (by rw [inClass_of_loader ht.loader]; exact hl ch hch)))
    (.refl s)

/-- What leaves the outlets and the Apportioner. -/
theorem Within.of_hold (hloader : t.loader = s.loader) (hledger : t.ledger = s.ledger) (hmemb : t.memb = s.memb)
    (houtlets : t.outlets = s.outlets) (happ : t.app = s.app) : Within v k s t :=
  ⟨hloader, hledger, hmemb, by rw [happ], fun ch _ => outlet_of_outlets houtlets ch, fun _ _ _ => by rw [happ],
    fun _ _ _ => by rw [happ], fun _ _ _ => by rw [State.queue, happ]; rfl⟩

end

section
variable (s : State) {v : Svc} {k : Cls}

theorem modOutlet_within {ch : Chan} (hch : s.inClass v k ch = true) (f : Outlet → Outlet) : Within v k s (s.modOutlet ch f) :=
  ⟨rfl, rfl, rfl, rfl, fun p hp => State.modOutlet_outlet_of_ne s f (fun e => by subst e; rw [hch] at hp; cases hp),
    fun _ _ _ => rfl, fun _ _ _ => rfl, fun _ _ _ => rfl⟩

theorem markPass_within (w : Svc) (j : Cls) : Within v k s (s.markPass w j) :=
  ⟨rfl, rfl, rfl, rfl, fun _ _ => rfl, fun _ _ _ => rfl, fun _ _ _ => rfl, fun _ _ _ => rfl⟩

theorem clearPass_within (w : Svc) (j : Cls) : Within v k s (s.clearPass w j) :=
  ⟨rfl, rfl, rfl, rfl, fun _ _ => rfl, fun _ _ _ => rfl, fun _ _ _ => rfl, fun _ _ _ => rfl⟩

theorem modQueue_within (f : WaitQueue → WaitQueue) : Within v k s (s.modQueue v k f) :=
  ⟨rfl, rfl, rfl, rfl, fun _ _ => rfl, fun _ _ _ => rfl, fun _ _ _ => rfl, fun _ _ h => Per8.get_set_of_ne _ _ h⟩

theorem modRaiseOrder_within (f : List Chan → List Chan) : Within v k s (s.modRaiseOrder v k f) :=
  ⟨rfl, rfl, rfl, rfl, fun _ _ => rfl, fun _ _ h => Per8.get_set_of_ne _ _ h, fun _ _ _ => rfl, fun _ _ _ => rfl⟩

theorem modStartOrder_within (f : List Chan → List Chan) : Within v k s (s.modStartOrder v k f) :=
  ⟨rfl, rfl, rfl, rfl, fun _ _ => rfl, fun _ _ _ => rfl, fun _ _ h => Per8.get_set_of_ne _ _ h, fun _ _ _ => rfl⟩

theorem modClass_within (w : Svc) (j : Cls) (f : ClassHold → ClassHold) : Within v k s (s.modClass w j f) :=
  .of_hold rfl rfl rfl rfl rfl

variable {ch : Chan}

/-- An outlet's class, read off its configuration. -/
theorem class_of_inClass {c : OutletCfg} (hch : s.inClass v k ch = true) (hc : s.outletCfg? ch = some c) : c.svc = v ∧ c.cls = k := by
  simpa only [State.inClass, hc, Bool.and_eq_true, beq_iff_eq] using hch

theorem outletCfg_of_inClass (hch : s.inClass v k ch = true) : (s.outletCfg? ch).isSome = true := by
  unfold State.inClass at hch
  split at hch
  · next c hc => rw [hc]; rfl
  · cases hch

theorem not_inClass_of_ne {w : Svc} {j : Cls} (hne : w ≠ v ∨ j ≠ k) (hch : s.inClass v k ch = true) : s.inClass w j ch = false := by
  refine eq_false_of_ne_true fun e => ?_
  obtain ⟨c, hc⟩ := Option.isSome_iff_exists.mp (outletCfg_of_inClass s hch)
  obtain ⟨hsvc, hcls⟩ := class_of_inClass s hch hc
  obtain ⟨hsvc', hcls'⟩ := class_of_inClass s e hc
  rcases hne with hne | hne
  · exact hne (hsvc'.symm.trans hsvc)
  · exact hne (hcls'.symm.trans hcls)

theorem leaveStartOrder_within (hch : s.inClass v k ch = true) : Within v k s (s.leaveStartOrder ch) := by
  unfold State.leaveStartOrder
  split
  · next c hc =>
    obtain ⟨rfl, rfl⟩ := class_of_inClass s hch hc
    exact modStartOrder_within s _
  · exact .refl s

theorem enterStartOrder_within (hch : s.inClass v k ch = true) : Within v k s (s.enterStartOrder ch) := by
  unfold State.enterStartOrder
  split
  · next c hc =>
    obtain ⟨rfl, rfl⟩ := class_of_inClass s hch hc
    exact modStartOrder_within s _
  · exact .refl s

theorem settleValve_within (hch : s.inClass v k ch = true) : Within v k s (s.settleValve ch) := by
  unfold State.settleValve
  split
  · exact .ite (fun _ => (modOutlet_within s hch _).trans (markPass_within _ _ _)) fun _ => modOutlet_within s hch _
  · exact .refl s

theorem beforeGrant_within {c : OutletCfg} (g : Nat) (hsvc : c.svc = v) (hcls : c.cls = k) : Within v k s (s.beforeGrant c ch g) := by
  subst hsvc hcls
  have hraise : Within c.svc c.cls s
      (if s.rotating then s.modRaiseOrder c.svc c.cls (raiseOrderAfter ch (s.outlet ch).grant g) else s) :=
    .ite (fun _ => modRaiseOrder_within s _) fun _ => .refl s
  exact .ite (fun _ => hraise.trans (markPass_within _ _ _)) fun _ => hraise

theorem setGrant_within (hch : s.inClass v k ch = true) (g : Nat) : Within v k s (s.setGrant ch g) := by
  by_cases h : (s.outlet ch).grant = g
  · rw [setGrant_of_eq s h]; exact .refl s
  · cases hc : s.outletCfg? ch with
    | none => rw [setGrant_of_none s hc]; exact .refl s
    | some c =>
      obtain ⟨hsvc, hcls⟩ := class_of_inClass s hch hc
      have hbefore := beforeGrant_within s (ch := ch) g hsvc hcls
      have hch' : (s.beforeGrant c ch g).inClass v k ch = true := by rwa [inClass_of_loader hbefore.loader]
      rw [setGrant_of_ne s hc h]
      split
      · next w _ =>
        have hstroke := hbefore.trans (modOutlet_within _ hch' (Outlet.strokeTo w.ratedDraw s.pins.inPosition[ch] g))
        exact .ite (fun _ => hstroke.trans (settleValve_within _ hch')) fun _ => hstroke
      · exact hbefore.trans (modOutlet_within _ hch' _)

theorem requeue_within : Within v k s (s.requeue v k) :=
  .ite (fun _ => (modQueue_within s _).trans (markPass_within _ _ _)) fun _ => modQueue_within s _

theorem cutPulse_within (hch : s.inClass v k ch = true) : Within v k s (s.cutPulse ch) :=
  ((modOutlet_within s hch _).trans (setGrant_within (s.modOutlet ch _) hch 0)).trans (.of_hold rfl rfl rfl rfl rfl)

theorem suspendRun_within (hch : s.inClass v k ch = true) : Within v k s (s.suspendRun ch) := by
  refine .ite (fun _ => ?_) fun _ => (modOutlet_within s hch _).trans (setGrant_within (s.modOutlet ch _) hch 0)
  have hgrant := (modOutlet_within s hch (Outlet.discardRun .off)).trans (setGrant_within (s.modOutlet ch _) hch 0)
  exact hgrant.trans (leaveStartOrder_within _ (by rwa [inClass_of_loader hgrant.loader]))

theorem cutPulseStep_within (hch : s.inClass v k ch = true) : Within v k s (cutPulseStep v k ch s) :=
  .ite (fun _ => cutPulse_within s hch) fun _ => .refl s

theorem trimStep_within (hch : s.inClass v k ch = true) : Within v k s (trimStep v k ch s) := by
  unfold trimStep
  split
  · exact .ite (fun _ => setGrant_within s hch _) fun _ => .refl s
  · exact .refl s

theorem closeStep_within (hch : s.inClass v k ch = true) : Within v k s (closeStep v k ch s) :=
  .ite (fun _ => setGrant_within s hch 0) fun _ => .refl s

theorem cutRunStep_within (hch : s.inClass v k ch = true) : Within v k s (cutRunStep v k ch s) :=
  .ite (fun _ => suspendRun_within s hch) fun _ => .refl s

/-! ### A keep cut, by its sweeps -/

variable {s}

theorem inClass_of_mem_classChannels {p : Chan} (h : p ∈ s.classChannels v k) : s.inClass v k p = true := (List.mem_filter.mp h).2

theorem inClass_of_reverseOrder (hs : s.ordersSound = true) {p : Chan} (h : p ∈ s.reverseOrder v k) : s.inClass v k p = true := by
  unfold State.reverseOrder at h
  split at h
  · exact ((s.ordersSound_iff.mp hs).2 v k).1 p (List.mem_reverse.mp h)
  · exact inClass_of_mem_classChannels (List.mem_reverse.mp h)

theorem inClass_of_startOrder (hs : s.ordersSound = true) {p : Chan} (h : p ∈ s.app.startOrder.get v k) : s.inClass v k p = true :=
  ((s.ordersSound_iff.mp hs).2 v k).2 p h

variable (s) in
/-- A property that the four steps of a keep cut keep of the channels of the class, and the queue's change keeps, holds after the
cut. -/
theorem keepCut_inv (hs : s.ordersSound = true) {P : State → Prop} (h0 : P s)
    (hpulse : ∀ ch t, t.inClass v k ch = true → P t → P (cutPulseStep v k ch t))
    (htrim : ∀ ch t, t.inClass v k ch = true → P t → P (trimStep v k ch t))
    (hclose : ∀ ch t, t.inClass v k ch = true → P t → P (closeStep v k ch t))
    (hrun : ∀ ch t, t.inClass v k ch = true → P t → P (cutRunStep v k ch t))
    (hqueue : ∀ t, P t → P (t.requeue v k)) : P (s.keepCut v k) := by
  have hclass : ∀ {a b : State} {p}, b.loader = a.loader → a.inClass v k p = true → b.inClass v k p = true := fun hl h => by
    rwa [inClass_of_loader hl]
  have hpulsesWork : Works True s (s.pulsesCut v k) := .forEach _ _ (fun ch t => cutPulseStep_works t v k ch) s
  have hpulsesSound := hpulsesWork.ordersSound hs
  have sweep : ∀ {a b : State} {l : List Chan} {f : Chan → State → State}, b.loader = a.loader →
      (∀ ch ∈ l, a.inClass v k ch = true) → (∀ ch t, (f ch t).loader = t.loader) →
      (∀ ch t, t.inClass v k ch = true → P t → P (f ch t)) → P b → P (forEach l f b) := by
    intro a b l f hb hl hf h hP
    refine (forEach_inv_mem (P := fun t => t.loader = a.loader ∧ P t) (fun ch hch t ht => ?_) ⟨hb, hP⟩).2
    exact ⟨(hf ch t).trans ht.1, h ch t (hclass ht.1 (hl ch hch)) ht.2⟩
  have hpulses : P (s.pulsesCut v k) :=
    sweep rfl (fun _ h => inClass_of_reverseOrder hs h) (fun ch t => (cutPulseStep_cuts t v k ch).loader) hpulse h0
  have htrims := sweep rfl (fun _ h => inClass_of_reverseOrder hpulsesSound h) (fun ch t => (trimStep_cuts t v k ch).loader)
    htrim hpulses
  have hswept : P (s.swept v k) := sweep (a := s.pulsesCut v k)
    ((Cuts.forEach ((s.pulsesCut v k).reverseOrder v k) (trimStep v k) (fun ch t => trimStep_cuts t v k ch) (s.pulsesCut v k)).loader)
    (fun _ h => inClass_of_reverseOrder hpulsesSound h) (fun ch t => (closeStep_cuts t v k ch).loader) hclose htrims
  have hsweptSound : (s.swept v k).ordersSound = true := by
    refine Works.ordersSound (up := True) (s := s.pulsesCut v k) ?_ hpulsesSound
    exact (Works.forEach _ _ (fun ch t => trimStep_works t v k ch) _).trans (.forEach _ _ (fun ch t => closeStep_works t v k ch) _)
  have hruns : P (s.runsCut v k) := sweep rfl (fun _ h => inClass_of_startOrder hsweptSound (List.mem_reverse.mp h))
    (fun ch t => (cutRunStep_cuts t v k ch).loader) hrun hswept
  rw [keepCut_eq]
  exact hqueue _ hruns

theorem keepCut_within (hs : s.ordersSound = true) : Within v k s (s.keepCut v k) :=
  keepCut_inv s hs (P := Within v k s) (.refl s) (fun _ t hch ht => ht.trans (cutPulseStep_within t hch))
    (fun _ t hch ht => ht.trans (trimStep_within t hch)) (fun _ t hch ht => ht.trans (closeStep_within t hch))
    (fun _ t hch ht => ht.trans (cutRunStep_within t hch)) fun t ht => ht.trans (requeue_within t)

end

end Sys2Proof.Machine

namespace Sys2Proof.Machine

/-! ### A service pass and a class step within one class -/

/-- The queue of the class names OUTLET channels of the class alone. -/
def State.queueSound (s : State) (v : Svc) (k : Cls) : Prop := ∀ ch ∈ (s.queue v k).members, s.inClass v k ch = true

section
variable {s t : State} {v : Svc} {k : Cls} {ch : Chan}

theorem State.queueSound.of_eq (h : s.queueSound v k) (hloader : t.loader = s.loader) (hqueue : t.queue v k = s.queue v k) :
    t.queueSound v k := by
  intro p hp
  rw [inClass_of_loader hloader]
  exact h p (by rwa [← hqueue])

/-- Work within another class leaves the queue sound. -/
theorem Within.queueSound {w : Svc} {j : Cls} (h : Within w j s t) (hne : w ≠ v ∨ j ≠ k) (hs : s.queueSound v k) :
    t.queueSound v k := hs.of_eq h.loader (h.queue v k hne)

variable (s) in
theorem requeued_subset : ∀ p ∈ s.requeued v k, p ∈ s.classChannels v k := by
  intro p hp
  unfold State.requeued at hp
  have heligible : ∀ {l : List Chan}, p ∈ l → (∀ q ∈ l, q ∈ (s.classChannels v k).filter fun ch => (s.outlet ch).queues) →
      p ∈ s.classChannels v k := fun h hl => (List.mem_filter.mp (hl p h)).1
  dsimp only at hp
  split at hp
  · simp only [List.mem_append] at hp
    rcases hp with (hp | hp) | hp
    · exact heligible hp fun q hq => (List.mem_filter.mp (List.mem_filter.mp hq).1).1
    · exact heligible hp fun q hq => List.contains_iff_mem.mp ((List.mem_filter.mp hq).2)
    · exact heligible hp fun q hq => (List.mem_filter.mp (List.mem_filter.mp hq).1).1
  · exact (List.mem_filter.mp hp).1

variable (s) in
theorem requeue_members : ((s.requeue v k).queue v k).members = s.requeued v k := by
  have hqueue : ∀ t : State, t.queue v k = (s.modQueue v k fun q =>
      if q.blocker.any fun b => !(s.requeued v k).contains b then ⟨s.requeued v k, none, none⟩
      else { q with members := s.requeued v k }).queue v k → (t.queue v k).members = s.requeued v k := by
    intro t ht
    have hself : ∀ f, (s.modQueue v k f).queue v k = f (s.queue v k) := fun f => Per8.get_set_self _ _ _ _
    rw [ht, hself]
    split <;> rfl
  unfold State.requeue
  dsimp only
  split
  · exact hqueue _ rfl
  · exact hqueue _ rfl

variable (s) in
theorem requeue_queueSound : (s.requeue v k).queueSound v k := by
  intro p hp
  rw [requeue_members] at hp
  rw [inClass_of_loader (requeue_within s).loader]
  exact inClass_of_mem_classChannels (requeued_subset s p hp)

theorem beginRaise_within (hch : s.inClass v k ch = true) : Within v k s (s.beginRaise ch) := by
  unfold State.beginRaise
  split
  · exact (modOutlet_within s hch _).trans (enterStartOrder_within (s.modOutlet ch _) hch)
  · exact modOutlet_within s hch _
  · exact modOutlet_within s hch _
  all_goals exact .refl s

theorem replace_within : Within v k s (s.replace v k ch) :=
  .ite (fun _ => .ite (fun _ => modQueue_within s _) fun _ => .refl s) fun _ => modQueue_within s _

theorem passMember_within (hch : s.inClass v k ch = true) : Within v k s (passMember v k (s, none) ch).1 := by
  rw [passMember_request]
  split
  · dsimp only
    split
    · exact (setGrant_within s hch _).trans replace_within
    · exact .refl s
  · split
    · rw [raiseWhole_eq]
      have hbegin := beginRaise_within (s := s) hch
      exact (hbegin.trans (setGrant_within _ (by rwa [inClass_of_loader hbegin.loader]) _)).trans replace_within
    · split <;> exact .refl s
  · exact .refl s

theorem servicePass_within (hq : s.queueSound v k) : Within v k s (s.servicePass v k) := by
  have hmembers : Within v k s ((s.queue v k).members.foldl (passMember v k) (s, none)).1 :=
    foldl_passMember_inv (P := Within v k s) _
      (fun t p hp ht => ht.trans (passMember_within (by rw [inClass_of_loader ht.loader]; exact hq p hp))) none (.refl s)
  exact hmembers.trans (modQueue_within _ _)

theorem presentKeep_within (w : Svc) (j : Cls) : Within v k s (s.presentKeep w j) :=
  .ite (fun _ => (modClass_within s _ _ _).trans (markPass_within _ _ _)) fun _ => modClass_within s _ _ _

theorem cutIfOver_within (hs : s.ordersSound = true) : Within v k s (s.cutIfOver v k) :=
  .ite (fun _ => (keepCut_within hs).trans (presentKeep_within _ _)) fun _ => .refl s

theorem presentKeep_queue (w : Svc) (j : Cls) : (s.presentKeep w j).queue v k = s.queue v k := by
  unfold State.presentKeep
  dsimp only
  split <;> rfl

theorem cutIfOver_queueSound (hq : s.queueSound v k) : (s.cutIfOver v k).queueSound v k := by
  have hcut : (s.keepCut v k).queueSound v k := requeue_queueSound (s.runsCut v k)
  unfold State.cutIfOver
  split
  · exact hcut.of_eq (presentKeep_within (v := v) (k := k) v k).loader (presentKeep_queue v k)
  · exact hq

theorem passIfDue_within (hq : s.queueSound v k) : Within v k s (s.passIfDue v k) :=
  .ite (fun _ => (clearPass_within s v k).trans (servicePass_within (s := s.clearPass v k) hq)) fun _ => .refl s

theorem carry_leaves : (s.carry v k).loader = s.loader ∧ (s.carry v k).ledger = s.ledger ∧ (s.carry v k).memb = s.memb ∧
    (s.carry v k).outlets = s.outlets ∧ (s.carry v k).app = s.app := by
  unfold State.carry
  dsimp only
  split <;> exact ⟨rfl, rfl, rfl, rfl, rfl⟩

theorem carry_within : Within v k s (s.carry v k) := by
  obtain ⟨hloader, hledger, hmemb, houtlets, happ⟩ := carry_leaves (s := s) (v := v) (k := k)
  exact .of_hold hloader hledger hmemb houtlets happ

variable (s v k) in
/-- The keep amount of a class presented, and the keep cut made. -/
def State.cutStep : State := (s.presentKeep v k).cutIfOver v k

variable (s v k) in
/-- A class step up to the carry. -/
def State.passStep : State := (s.cutStep v k).passIfDue v k

theorem classStep_eq : classStep v k s = (s.passStep v k).carry v k := rfl

theorem presentKeep_ordersSound (hs : s.ordersSound = true) : (s.presentKeep v k).ordersSound = true :=
  (Reacts.aside (presentKeep_aside s v k)).ordersSound hs

theorem presentKeep_queueSound (hq : s.queueSound v k) : (s.presentKeep v k).queueSound v k :=
  hq.of_eq (presentKeep_within (v := v) (k := k) v k).loader (presentKeep_queue v k)

theorem cutStep_within (hs : s.ordersSound = true) : Within v k s (s.cutStep v k) :=
  (presentKeep_within v k).trans (cutIfOver_within (presentKeep_ordersSound hs))

theorem cutStep_queueSound (hq : s.queueSound v k) : (s.cutStep v k).queueSound v k :=
  cutIfOver_queueSound (presentKeep_queueSound hq)

theorem passStep_within (hs : s.ordersSound = true) (hq : s.queueSound v k) : Within v k s (s.passStep v k) :=
  (cutStep_within hs).trans (passIfDue_within (cutStep_queueSound hq))

theorem classStep_within (hs : s.ordersSound = true) (hq : s.queueSound v k) : Within v k s (classStep v k s) :=
  (passStep_within hs hq).trans carry_within

/-! ### What a class step does to the holdings -/

theorem modHold_classHold_of_classes {w : Svc} {j : Cls} {f : ServiceHold → ServiceHold} (hf : ∀ h, (f h).classes = h.classes) :
    (s.modHold v f).classHold w j = s.classHold w j := by
  rw [State.classHold, modHold_get]
  split
  · rw [hf]; rfl
  · rfl

variable (s v k) in
/-- What the presentation of a keep amount makes of the class (R86, R87). -/
def State.presented : ClassHold → ClassHold :=
  ClassHold.take s.station.keeps (s.normalTerm v k) (s.ownHolding v k - s.shortageBurden v k) (s.ownHolding v k - s.reclaimBurden v k)

theorem presentKeep_hold : (s.presentKeep v k).hold = (s.modClass v k (s.presented v k)).hold := by
  unfold State.presentKeep State.presented
  dsimp only
  split <;> rfl

/-- The class is as it was but for what the presentation of its keep sets. -/
theorem presentKeep_classHold : (s.presentKeep v k).classHold v k = s.presented v k (s.classHold v k) := by
  rw [State.classHold, presentKeep_hold]
  exact modClass_classHold_self s v k _

theorem presentKeep_classHold_of_ne {w : Svc} {j : Cls} (h : v ≠ w ∨ k ≠ j) :
    (s.presentKeep v k).classHold w j = s.classHold w j := by
  rw [State.classHold, presentKeep_hold]
  exact modClass_classHold_of_ne s _ h

theorem modClass_unplaced {w : Svc} (f : ClassHold → ClassHold) :
    ((s.modClass v k f).hold.get w).unplaced = (s.hold.get w).unplaced := by
  rw [State.modClass, modHold_get]
  split <;> rfl

theorem presentKeep_unplaced (w : Svc) : ((s.presentKeep v k).hold.get w).unplaced = (s.hold.get w).unplaced := by
  rw [presentKeep_hold]
  exact modClass_unplaced _

theorem passStep_hold : (s.passStep v k).hold = (s.cutStep v k).hold := by
  unfold State.passStep State.passIfDue
  split
  · exact hold_of_apart (State.servicePass_apart ((s.cutStep v k).clearPass v k) v k)
  · rfl

theorem cutStep_cases : s.cutStep v k = s.presentKeep v k ∨
    s.cutStep v k = ((s.presentKeep v k).keepCut v k).presentKeep v k := by
  unfold State.cutStep State.cutIfOver
  split
  · exact .inr rfl
  · exact .inl rfl

/-- A class step leaves the other classes alone, but for what it carries on. -/
theorem passStep_classHold_of_ne {w : Svc} {j : Cls} (h : v ≠ w ∨ k ≠ j) :
    (s.passStep v k).classHold w j = s.classHold w j := by
  have hpass : (s.passStep v k).classHold w j = (s.cutStep v k).classHold w j := by rw [State.classHold, passStep_hold]; rfl
  rw [hpass]
  rcases cutStep_cases (s := s) (v := v) (k := k) with e | e
  · rw [e, presentKeep_classHold_of_ne h]
  · rw [e, presentKeep_classHold_of_ne h, (keepCut_cuts _ v k).classHold, presentKeep_classHold_of_ne h]

theorem passStep_unplaced (w : Svc) : ((s.passStep v k).hold.get w).unplaced = (s.hold.get w).unplaced := by
  rw [passStep_hold]
  rcases cutStep_cases (s := s) (v := v) (k := k) with e | e
  · rw [e, presentKeep_unplaced]
  · rw [e, presentKeep_unplaced, hold_of_apart (State.keepCut_apart _ v k), presentKeep_unplaced]

end

end Sys2Proof.Machine

namespace Sys2Proof.Machine

/-! ### What a keep cut takes off the demand -/

/-- Out of use or idle, an outlet desires nothing (R100). -/
def Outlet.Resting (o : Outlet) : Prop := o.state.counts = false ∨ o.state = .idle → o.desired = 0

/-- A record after the outlet work of an event: granted no more than it desires, and out of use or idle it desires nothing. -/
def Outlet.Asking (o : Outlet) : Prop := o.grant ≤ o.desired ∧ o.Resting

theorem Outlet.Asking.grant_le_share {o : Outlet} (h : o.Asking) : o.grant ≤ o.share := by
  obtain ⟨hle, hzero⟩ := h
  unfold Outlet.share
  split
  · exact hle
  · next hn => rw [hzero (.inl (eq_false_of_ne_true hn))] at hle; exact hle

theorem Outlet.Asking.share_of_desired {o : Outlet} (h : o.Asking) : o.share = o.desired := by
  unfold Outlet.share
  split
  · rfl
  · next hn => exact (h.2 (.inl (eq_false_of_ne_true hn))).symm

theorem Outlet.Asking.of_zero {o : Outlet} (hgrant : o.grant = 0) (hdesired : o.desired = 0) : o.Asking :=
  ⟨Nat.le_of_eq (hgrant.trans hdesired.symm), fun _ => hdesired⟩

/-- A record's grant and what it asks for fall. -/
def Outlet.Shrinks (o o' : Outlet) : Prop := o.Asking → o'.Asking ∧ o'.share ≤ o.share

theorem Outlet.Shrinks.refl (o : Outlet) : o.Shrinks o := fun h => ⟨h, Nat.le_refl _⟩

theorem Outlet.Shrinks.trans {o o' o'' : Outlet} (h1 : o.Shrinks o') (h2 : o'.Shrinks o'') : o.Shrinks o'' := fun h =>
  ⟨(h2 (h1 h).1).1, Nat.le_trans (h2 (h1 h).1).2 (h1 h).2⟩

theorem Outlet.Shrinks.to_zero {o o' : Outlet} (hgrant : o'.grant = 0) (hdesired : o'.desired = 0) : o.Shrinks o' := fun _ => by
  have h := Outlet.Asking.of_zero hgrant hdesired
  exact ⟨h, by rw [h.share_of_desired, hdesired]; exact Nat.zero_le _⟩

/-- A grant that falls alone. -/
theorem Outlet.Shrinks.of_grant {o o' : Outlet} (hgrant : o'.grant ≤ o.grant) (hdesired : o'.desired = o.desired)
    (hstate : o'.state = o.state) : o.Shrinks o' := fun h =>
  ⟨⟨by rw [hdesired]; exact Nat.le_trans hgrant h.1, by rw [Outlet.Resting, hstate, hdesired]; exact h.2⟩,
    Nat.le_of_eq (by simp only [Outlet.share, hdesired, hstate])⟩

/-- A settling moves the state of an idle run alone (R170). -/
theorem OutletCfg.settleState_state {c : OutletCfg} {o : Outlet} (h : c.batch? = none ∨ o.state ≠ .idle) :
    (OutletCfg.settleState c o).state = o.state := by
  unfold OutletCfg.settleState
  split
  · exact Outlet.settlePulse_state _ _
  · next w b hk =>
    have hidle : o.state ≠ .idle := h.resolve_left fun hb => by rw [OutletCfg.batch?, hk] at hb; cases hb
    rw [Outlet.settleRun, if_neg fun e => hidle e.1]
  · rfl

theorem OutletCfg.settleState_shrinks (c : OutletCfg) (o : Outlet) : o.Shrinks (OutletCfg.settleState c o) := by
  have hdesired := OutletCfg.settleState_desired c o
  have hgrant := (OutletCfg.settleState_valve c o).1
  by_cases hidle : o.state = .idle
  · intro h
    have hzero := h.2 (.inr hidle)
    exact Outlet.Shrinks.to_zero (Nat.le_zero.mp (by rw [hgrant, ← hzero]; exact h.1)) (hdesired.trans hzero) h
  · exact .of_grant (Nat.le_of_eq hgrant) hdesired (OutletCfg.settleState_state (.inr hidle))

theorem OutletCfg.granted_shrinks (c : OutletCfg) (pin : Bool) {g : Nat} {o : Outlet} (hg : g ≤ o.grant) :
    o.Shrinks (OutletCfg.granted c pin g o) :=
  OutletCfg.granted_ind (P := fun o' => o.Shrinks o') (fun _ => .of_grant hg rfl rfl)
    (fun rated => Outlet.Shrinks.trans (o' := (o.strokeTo rated pin g).settleRecord) (.of_grant hg rfl rfl)
      (OutletCfg.settleState_shrinks c _)) (.of_grant hg rfl rfl)

section
variable (s : State) {v : Svc} {k : Cls} {ch : Chan}

theorem setGrant_shrinks {g : Nat} (hg : g ≤ (s.outlet ch).grant) (p : Chan) : (s.outlet p).Shrinks ((s.setGrant ch g).outlet p) := by
  by_cases hp : p = ch
  · subst hp
    exact setGrant_outlet_ind s (P := fun o => (s.outlet p).Shrinks o) (.refl _) fun c pin => OutletCfg.granted_shrinks c pin hg
  · rw [setGrant_outlet_of_ne s hp]; exact .refl _

/-- A record put to nothing desired, and then to a grant of 0. -/
theorem setGrant_zero_shrinks (hc : (s.outletCfg? ch).isSome = true) {f : Outlet → Outlet} (hf : (f (s.outlet ch)).desired = 0)
    (p : Chan) : (s.outlet p).Shrinks (((s.modOutlet ch f).setGrant ch 0).outlet p) := by
  by_cases hp : p = ch
  · subst hp
    refine .to_zero (setGrant_grant (s.modOutlet p f) hc) ?_
    rw [setGrant_desired, State.modOutlet_outlet_self, hf]
  · rw [setGrant_outlet_of_ne _ hp, State.modOutlet_outlet_of_ne s f (Ne.symm hp)]
    exact .refl _

theorem cutPulse_shrinks (hc : (s.outletCfg? ch).isSome = true) (p : Chan) : (s.outlet p).Shrinks ((s.cutPulse ch).outlet p) :=
  setGrant_zero_shrinks s hc (f := fun o => { o with pulsePhase := .closing, pulseLength := none, desired := 0 }) rfl p

theorem suspendRun_shrinks (hc : (s.outletCfg? ch).isSome = true) (hrun : (s.outlet ch).state = .running) (p : Chan) :
    (s.outlet p).Shrinks ((s.suspendRun ch).outlet p) := by
  unfold State.suspendRun
  split
  · rw [State.leaveStartOrder_outlet]
    exact setGrant_zero_shrinks s hc (f := Outlet.discardRun .off) rfl p
  · refine .trans ?_ (setGrant_shrinks (s.modOutlet ch _) (Nat.zero_le _) p)
    by_cases hp : p = ch
    · subst hp
      rw [State.modOutlet_outlet_self]
      refine fun h => ⟨⟨h.1, fun e => ?_⟩, ?_⟩
      · rcases e with e | e <;> cases e
      · rw [h.share_of_desired]; exact Nat.le_refl _
    · rw [State.modOutlet_outlet_of_ne s _ (Ne.symm hp)]
      exact .refl _

/-- A keep cut takes off grants, and what it takes off the demand of a class it takes with the grant (R146 to R150). -/
theorem keepCut_shrinks (hs : s.ordersSound = true) (p : Chan) : (s.outlet p).Shrinks ((s.keepCut v k).outlet p) := by
  refine keepCut_inv s hs (P := fun t => (s.outlet p).Shrinks (t.outlet p)) (.refl _) (fun ch t hch ht => ht.trans ?_)
    (fun ch t hch ht => ht.trans ?_) (fun ch t hch ht => ht.trans ?_) (fun ch t hch ht => ht.trans ?_) fun t ht => ?_
  · unfold cutPulseStep
    split
    · exact cutPulse_shrinks t (outletCfg_of_inClass t hch) p
    · exact .refl _
  · unfold trimStep
    split
    · split
      · exact setGrant_shrinks t (Nat.min_le_left _ _) p
      · exact .refl _
    · exact .refl _
  · unfold closeStep
    split
    · exact setGrant_shrinks t (Nat.zero_le _) p
    · exact .refl _
  · unfold cutRunStep
    split
    · next h => exact suspendRun_shrinks t (outletCfg_of_inClass t hch) (by simpa using (Bool.and_eq_true_iff.mp h).2) p
    · exact .refl _
  · rw [requeue_outlet]; exact ht

/-- Every outlet of the class is within what it desires. -/
def State.classAsking (s : State) (v : Svc) (k : Cls) : Prop := ∀ ch, s.inClass v k ch = true → (s.outlet ch).Asking

variable {s}

theorem sumGrants_le_demand (h : s.classAsking v k) : s.sumGrants v k ≤ s.demand v k := by
  change ((s.classChannels v k).map fun ch => (s.outlet ch).grant).sum ≤ ((s.classChannels v k).map fun ch => (s.outlet ch).share).sum
  exact sum_map_le fun ch hch => (h ch (inClass_of_mem_classChannels hch)).grant_le_share

theorem demand_of_shrinks {t : State} (hloader : t.loader = s.loader) (hask : s.classAsking v k)
    (h : ∀ ch, (s.outlet ch).Shrinks (t.outlet ch)) : t.classAsking v k ∧ t.demand v k ≤ s.demand v k := by
  refine ⟨fun ch hch => (h ch (hask ch (by rwa [← inClass_of_loader hloader]))).1, ?_⟩
  change ((t.classChannels v k).map fun ch => (t.outlet ch).share).sum ≤ ((s.classChannels v k).map fun ch => (s.outlet ch).share).sum
  rw [classChannels_of_loader hloader]
  exact sum_map_le fun ch hch => (h ch (hask ch (inClass_of_mem_classChannels hch))).2

/-- The normal term for a demand (R86): `may` says that the class is releasing and the station holds spares. -/
def normalFor (may : Bool) (band threshold holding demand : Nat) : Nat :=
  if may = true ∧ min demand band + threshold ≤ holding then min demand band else holding

variable (s v k) in
theorem normalTerm_eq : s.normalTerm v k =
    normalFor ((s.classHold v k).releasing && s.station.holdsSpares) (s.classHold v k).bandLimit
      (s.svcSetting v ServiceCfg.giveThreshold) (s.ownHolding v k) (s.demand v k) := by
  rw [State.normalTerm, State.spareStands, normalFor]
  refine ite_congr (propext ?_) (fun _ => rfl) fun _ => rfl
  rw [Bool.and_eq_true, Bool.and_eq_true, Bool.and_eq_true, decide_eq_true_iff, and_assoc]
  exact Iff.rfl

/-- A fall of the demand leaves the normal term, or leaves it no lower than the demand. -/
theorem normalFor_of_le {may : Bool} {band threshold holding demand demand' : Nat} (h : demand' ≤ demand) :
    normalFor may band threshold holding demand' = normalFor may band threshold holding demand ∨
      demand' ≤ normalFor may band threshold holding demand' := by
  unfold normalFor
  by_cases hmay : may = true
  · simp only [hmay, true_and]
    split <;> split <;> omega
  · exact .inl (by rw [if_neg fun e => hmay e.1, if_neg fun e => hmay e.1])

/-- The normal term after a keep cut is as before it, or leaves room for what is granted. -/
theorem keepCut_normalTerm (hs : s.ordersSound = true) (hask : s.classAsking v k) :
    (s.keepCut v k).normalTerm v k = s.normalTerm v k ∨ (s.keepCut v k).sumGrants v k ≤ (s.keepCut v k).normalTerm v k := by
  have hcuts := keepCut_cuts s v k
  obtain ⟨hask', hdemand⟩ := demand_of_shrinks hcuts.loader hask (keepCut_shrinks s (v := v) (k := k) hs)
  have hsum := sumGrants_le_demand hask'
  have hcopy : (s.keepCut v k).ledger.copy = s.ledger.copy := by rw [ledger_of_apart hcuts.apart]
  have hstation : (s.keepCut v k).station = s.station := by rw [State.station, memb_of_apart hcuts.apart]; rfl
  rw [normalTerm_eq, normalTerm_eq, hcuts.classHold, hstation, ownHolding_of_parts hcuts.loader hcopy, svcSetting_of_loader hcuts.loader]
  exact (normalFor_of_le hdemand).imp_right (Nat.le_trans hsum)

end

end Sys2Proof.Machine

namespace Sys2Proof.Machine

open Sys2Proof.Claims (CutIsMade)

/-! ### The keep amount of a class, and its cut, in a class step -/

section
variable {s t u : State} {v : Svc} {k : Cls}

/-- The keep amount and the duty mark are what the three terms give (R86, R87). -/
def State.keepFits (s : State) (v : Svc) (k : Cls) : Prop :=
  (s.classHold v k).keep =
    min (s.normalTerm v k) (min (s.ownHolding v k - s.shortageBurden v k) (s.ownHolding v k - s.reclaimBurden v k)) ∧
  ((s.classHold v k).dutyMark = true ↔
    s.ownHolding v k - s.shortageBurden v k < s.normalTerm v k ∨ s.ownHolding v k - s.reclaimBurden v k < s.normalTerm v k)

/-- The three terms of a keep amount are as they were. -/
structure SameTerms (v : Svc) (k : Cls) (s t : State) : Prop where
  normal : t.normalTerm v k = s.normalTerm v k
  holding : t.ownHolding v k = s.ownHolding v k
  shortage : t.shortageBurden v k = s.shortageBurden v k
  reclaim : t.reclaimBurden v k = s.reclaimBurden v k

/-- What the three terms read of a class, and the carries it bears. -/
def ClassHold.basis (c : ClassHold) : Nat × Bool × Nat × Nat := (c.bandLimit, c.releasing, c.carriedShortage, c.carriedReclaim)

theorem SameTerms.of_shares (hloader : t.loader = s.loader) (hcopy : t.ledger.copy = s.ledger.copy) (hstation : t.station = s.station)
    (hshares : ∀ ch, s.inClass v k ch = true → (t.outlet ch).share = (s.outlet ch).share)
    (hbasis : (t.classHold v k).basis = (s.classHold v k).basis) : SameTerms v k s t := by
  simp only [ClassHold.basis, Prod.mk.injEq] at hbasis
  obtain ⟨hband, hreleasing, hshortage, hreclaim⟩ := hbasis
  refine ⟨normalTerm_of_shares hloader hcopy hstation hshares hband hreleasing, ownHolding_of_parts hloader hcopy, ?_, ?_⟩
  · rw [State.shortageBurden, State.shortageBurden, hcopy, own_of_loader hloader, hshortage]
  · rw [State.reclaimBurden, State.reclaimBurden, hcopy, own_of_loader hloader, hreclaim]

theorem SameTerms.keepFits (h : SameTerms v k s t) (hkeep : (t.classHold v k).keep = (s.classHold v k).keep)
    (hduty : (t.classHold v k).dutyMark = (s.classHold v k).dutyMark) (hs : s.keepFits v k) : t.keepFits v k := by
  rw [State.keepFits, hkeep, hduty, h.normal, h.holding, h.shortage, h.reclaim]
  exact hs

theorem take_basis (keeps : Bool) (normal shortage reclaim : Nat) (c : ClassHold) :
    (c.take keeps normal shortage reclaim).basis = c.basis := by
  unfold ClassHold.take
  split <;> rfl

theorem presentKeep_outlet (w : Svc) (j : Cls) (ch : Chan) : (s.presentKeep w j).outlet ch = s.outlet ch := by
  unfold State.presentKeep
  dsimp only
  split <;> rfl

theorem presentKeep_orders : (s.presentKeep v k).app.orders = s.app.orders := by
  unfold State.presentKeep
  dsimp only
  split <;> rfl

theorem presentKeep_sameTerms : SameTerms v k s (s.presentKeep v k) := by
  have hwithin : Within v k s (s.presentKeep v k) := presentKeep_within v k
  refine .of_shares hwithin.loader (by rw [hwithin.ledger]) (by rw [State.station, hwithin.memb]; rfl)
    (fun ch _ => by rw [presentKeep_outlet]) ?_
  rw [presentKeep_classHold]
  exact take_basis _ _ _ _ _

variable (s v k) in
theorem presented_of_member (hm : s.isMember = true) (c : ClassHold) :
    (s.presented v k c).keep =
      min (s.normalTerm v k) (min (s.ownHolding v k - s.shortageBurden v k) (s.ownHolding v k - s.reclaimBurden v k)) ∧
    (s.presented v k c).dutyMark = (decide (s.ownHolding v k - s.shortageBurden v k < s.normalTerm v k) ||
      decide (s.ownHolding v k - s.reclaimBurden v k < s.normalTerm v k)) := by
  have hkeeps : s.station.keeps = true := by rw [station_of_isMember s hm]; rfl
  rw [State.presented, ClassHold.take, if_pos hkeeps]
  exact ⟨rfl, rfl⟩

theorem presentKeep_keepFits (hm : s.isMember = true) : (s.presentKeep v k).keepFits v k := by
  have hterms : SameTerms v k s (s.presentKeep v k) := presentKeep_sameTerms
  obtain ⟨hkeep, hduty⟩ := presented_of_member s v k hm (s.classHold v k)
  rw [State.keepFits, presentKeep_classHold, hterms.normal, hterms.holding, hterms.shortage, hterms.reclaim, hkeep, hduty,
    Bool.or_eq_true, decide_eq_true_iff, decide_eq_true_iff]
  exact ⟨rfl, Iff.rfl⟩

theorem isMember_of_memb_eq (h : t.memb = s.memb) : t.isMember = s.isMember := by rw [State.isMember, State.station, h]; rfl

theorem presentKeep_isMember : (s.presentKeep v k).isMember = s.isMember :=
  isMember_of_memb_eq (presentKeep_within (v := v) (k := k) v k).memb

theorem keepCut_isMember : (s.keepCut v k).isMember = s.isMember := isMember_of_memb_eq (memb_of_apart (State.keepCut_apart s v k))

theorem cutStep_keepFits (hm : s.isMember = true) : (s.cutStep v k).keepFits v k := by
  rcases cutStep_cases (s := s) (v := v) (k := k) with e | e
  · rw [e]; exact presentKeep_keepFits hm
  · rw [e]; exact presentKeep_keepFits (by rw [keepCut_isMember, presentKeep_isMember, hm])

/-! ### The cut as it stands after the keep is presented again -/

theorem sumGrants_of_grants (hloader : t.loader = s.loader)
    (h : ∀ ch, s.inClass v k ch = true → (t.outlet ch).grant = (s.outlet ch).grant) : t.sumGrants v k = s.sumGrants v k := by
  change ((t.classChannels v k).map fun ch => (t.outlet ch).grant).sum = ((s.classChannels v k).map fun ch => (s.outlet ch).grant).sum
  rw [classChannels_of_loader hloader]
  exact congrArg List.sum (List.map_congr_left fun ch hch => h ch (inClass_of_mem_classChannels hch))

/-- A cut stays made where the outlets of the class, its orders and the guard stay. -/
theorem cutIsMade_transfer {keep : Nat} {duty : Bool} (h : CutIsMade keep duty s.guarded s v k) (hs : s.ordersSound = true)
    (hloader : t.loader = s.loader) (hguard : t.app.guard = s.app.guard)
    (hmarks : ∀ ch, s.inClass v k ch = true → (t.outlet ch).shareMarks = (s.outlet ch).shareMarks)
    (hraise : t.app.raiseOrder.get v k = s.app.raiseOrder.get v k) (hstart : t.app.startOrder.get v k = s.app.startOrder.get v k) :
    CutIsMade keep duty t.guarded t v k := by
  have hcfg : ∀ ch, t.outletCfg? ch = s.outletCfg? ch := fun ch => outletCfg_of_image (by rw [hloader])
  have hgrant : ∀ ch, s.inClass v k ch = true → (t.outlet ch).grant = (s.outlet ch).grant := fun ch hch =>
    congrArg (fun m => m.2.2.1) (hmarks ch hch)
  have hrotating : t.rotating = s.rotating := by simp only [State.rotating, hloader]
  have hreverse : t.reverseOrder v k = s.reverseOrder v k := by
    rw [State.reverseOrder, State.reverseOrder, hrotating, hraise, classChannels_of_loader hloader]
  refine h.imp (fun hle => by rwa [sumGrants_of_grants hloader hgrant]) fun hleft ch c hc hpos hopen => ?_
  rw [hcfg] at hc
  have hguarded : t.guarded ch = s.guarded ch := by rw [State.guarded, State.guarded, hcfg, hguard]
  rw [hguarded] at hopen
  rw [hreverse, hstart]
  have hsame : s.inClass v k ch = true → (t.outlet ch).state = (s.outlet ch).state ∧
      (t.outlet ch).pulsePhase = (s.outlet ch).pulsePhase ∧ 0 < (s.outlet ch).grant := fun hch =>
    ⟨congrArg Prod.fst (hmarks ch hch), congrArg (fun m => m.2.2.2.2) (hmarks ch hch), by rwa [← hgrant ch hch]⟩
  refine ⟨fun hch => ?_, fun hch => ?_⟩
  · obtain ⟨hstate, hphase, hpos'⟩ := hsame (inClass_of_reverseOrder hs hch)
    rw [hstate, hphase]
    exact (hleft ch c hc hpos' hopen).1 hch
  · obtain ⟨hstate, -, hpos'⟩ := hsame (inClass_of_startOrder hs hch)
    rw [hstate]
    exact (hleft ch c hc hpos' hopen).2 hch

/-- The keep presented again after a cut: the cut is made by it too, since what has fallen with the demand has been cut. -/
theorem cutIsMade_of_recut {keep keep' normal normal' shortage reclaim : Nat} {duty duty' : Bool} {guarded : Chan → Bool}
    (h : CutIsMade keep duty guarded s v k) (hkeep : keep = min normal (min shortage reclaim))
    (hkeep' : keep' = min normal' (min shortage reclaim)) (hduty : duty = (decide (shortage < normal) || decide (reclaim < normal)))
    (hduty' : duty' = (decide (shortage < normal') || decide (reclaim < normal')))
    (hnormal : normal' = normal ∨ s.sumGrants v k ≤ normal') : CutIsMade keep' duty' guarded s v k := by
  by_cases hwithin : s.sumGrants v k ≤ keep'
  · exact .inl hwithin
  · rcases hnormal with rfl | hroom
    · rwa [hkeep', hduty', ← hkeep, ← hduty]
    · have hmarked : duty' = true := by
        rw [hduty', Bool.or_eq_true, decide_eq_true_iff, decide_eq_true_iff]
        omega
      have hover : ¬s.sumGrants v k ≤ keep := by omega
      refine .inr fun ch c hc hpos hopen => h.resolve_left hover ch c hc hpos (hopen.imp_left fun e => ?_)
      rw [hmarked] at e
      cases e

theorem classAsking_of_outlets (hloader : t.loader = s.loader) (h : ∀ ch, t.outlet ch = s.outlet ch) (hs : s.classAsking v k) :
    t.classAsking v k := fun ch hch => by rw [h]; exact hs ch (by rwa [← inClass_of_loader hloader])

theorem keepCut_burdens : (s.keepCut v k).ownHolding v k = s.ownHolding v k ∧
    (s.keepCut v k).shortageBurden v k = s.shortageBurden v k ∧ (s.keepCut v k).reclaimBurden v k = s.reclaimBurden v k := by
  have hcuts := keepCut_cuts s v k
  have hcopy : (s.keepCut v k).ledger.copy = s.ledger.copy := by rw [ledger_of_apart hcuts.apart]
  refine ⟨ownHolding_of_parts hcuts.loader hcopy, ?_, ?_⟩
  · rw [State.shortageBurden, State.shortageBurden, hcopy, own_of_loader hcuts.loader, hcuts.classHold]
  · rw [State.reclaimBurden, State.reclaimBurden, hcopy, own_of_loader hcuts.loader, hcuts.classHold]

/-- A keep amount presented, cut to and presented again is cut to (R146). -/
theorem recut_made (hm : s.isMember = true) (hs : s.ordersSound = true) (hask : s.classAsking v k)
    (hkeep : (s.classHold v k).keep =
      min (s.normalTerm v k) (min (s.ownHolding v k - s.shortageBurden v k) (s.ownHolding v k - s.reclaimBurden v k)))
    (hduty : (s.classHold v k).dutyMark = (decide (s.ownHolding v k - s.shortageBurden v k < s.normalTerm v k) ||
      decide (s.ownHolding v k - s.reclaimBurden v k < s.normalTerm v k))) :
    CutIsMade (((s.keepCut v k).presentKeep v k).classHold v k).keep (((s.keepCut v k).presentKeep v k).classHold v k).dutyMark
      ((s.keepCut v k).presentKeep v k).guarded ((s.keepCut v k).presentKeep v k) v k := by
  have hsound : (s.keepCut v k).ordersSound = true := (keepCut_works (up := True) s v k).ordersSound hs
  have hreach := Claims.cutReachesTheKeep s v k
  obtain ⟨hholding, hshortage, hreclaim⟩ := keepCut_burdens (s := s) (v := v) (k := k)
  obtain ⟨hkeep', hduty'⟩ := presented_of_member (s.keepCut v k) v k (by rw [keepCut_isMember, hm])
    ((s.keepCut v k).classHold v k)
  rw [← presentKeep_classHold, hholding, hshortage, hreclaim] at hkeep' hduty'
  have hguarded : (s.keepCut v k).guarded = s.guarded := funext (keepCut_cuts s v k).guarded
  rw [← hguarded] at hreach
  have hmade := cutIsMade_of_recut hreach hkeep hkeep' hduty hduty' (keepCut_normalTerm hs hask)
  have horders : ((s.keepCut v k).presentKeep v k).app.orders = (s.keepCut v k).app.orders := presentKeep_orders
  simp only [Apportioner.orders, Prod.mk.injEq] at horders
  obtain ⟨hguard, hraise, hstart⟩ := horders
  exact cutIsMade_transfer hmade hsound (presentKeep_within (v := v) (k := k) v k).loader hguard
    (fun ch _ => by rw [presentKeep_outlet]) (by rw [hraise]) (by rw [hstart])

/-- After the keep amount and its cut, the class is within its keep or nothing is left to cut (R146). -/
theorem cutStep_made (hm : s.isMember = true) (hs : s.ordersSound = true) (hask : s.classAsking v k) :
    CutIsMade ((s.cutStep v k).classHold v k).keep ((s.cutStep v k).classHold v k).dutyMark (s.cutStep v k).guarded
      (s.cutStep v k) v k := by
  have hmember : (s.presentKeep v k).isMember = true := by rw [presentKeep_isMember, hm]
  unfold State.cutStep State.cutIfOver
  rw [hmember, Bool.true_and]
  by_cases hover : (s.presentKeep v k).isOver v k = true
  · rw [if_pos hover]
    have hloader : (s.presentKeep v k).loader = s.loader := (presentKeep_within (v := v) (k := k) v k).loader
    have hterms : SameTerms v k s (s.presentKeep v k) := presentKeep_sameTerms
    obtain ⟨hkeep, hduty⟩ := presented_of_member s v k hm (s.classHold v k)
    rw [← presentKeep_classHold, ← hterms.normal, ← hterms.holding, ← hterms.shortage, ← hterms.reclaim] at hkeep hduty
    exact recut_made hmember (presentKeep_ordersSound hs) (classAsking_of_outlets hloader (presentKeep_outlet v k) hask) hkeep hduty
  · rw [if_neg hover]
    exact .inl (Nat.not_lt.mp fun h => hover (decide_eq_true h))

end

end Sys2Proof.Machine

namespace Sys2Proof.Machine

open Sys2Proof.Claims (CutIsMade)

/-! ### What a service pass leaves of the keep and its cut -/

section
variable {s t : State} {v : Svc} {k : Cls} {ch : Chan}

theorem OutletCfg.granted_state {c : OutletCfg} {pin : Bool} {g : Nat} {o : Outlet} (h : c.batch? = none ∨ o.state ≠ .idle) :
    (OutletCfg.granted c pin g o).state = o.state :=
  OutletCfg.granted_ind (P := fun o' => o'.state = o.state) (fun _ => rfl) (fun _ => OutletCfg.settleState_state h) rfl

theorem setGrant_share {g : Nat} (h : ∀ c, s.outletCfg? ch = some c → c.batch? = none ∨ (s.outlet ch).state ≠ .idle) :
    ((s.setGrant ch g).outlet ch).share = (s.outlet ch).share := by
  have hstate : ((s.setGrant ch g).outlet ch).state = (s.outlet ch).state := by
    by_cases hg : (s.outlet ch).grant = g
    · rw [setGrant_of_eq s hg]
    · cases hc : s.outletCfg? ch with
      | none => rw [setGrant_of_none s hc]
      | some c => rw [setGrant_outlet_self s hc hg, OutletCfg.granted_state (h c hc)]
  rw [Outlet.share, Outlet.share, hstate, setGrant_desired]

/-- A member asks for a part only where it is no run, and for the whole where it is no idle run (R126, R127). -/
theorem not_idle_of_request (h : s.request ch ≠ .nothing) {c : OutletCfg} (hc : s.outletCfg? ch = some c) :
    c.batch? = none ∨ (s.outlet ch).state ≠ .idle := by
  rw [State.request, hc] at h
  cases hk : c.kind with
  | modulating w m => left; rw [OutletCfg.batch?, hk]
  | monitor r => left; rw [OutletCfg.batch?, hk]
  | batch w b =>
    right
    intro hidle
    simp only [hk, hidle] at h
    exact h (if_neg (by rintro (e | e) <;> cases e))

theorem beginRaise_cases : (s.outlet ch).state = .standby ∨ (s.outlet ch).state = .waiting ∨ (s.outlet ch).state = .suspended ∨
    s.beginRaise ch = s := by
  unfold State.beginRaise
  cases h : (s.outlet ch).state <;> simp

theorem beginRaise_share : ((s.beginRaise ch).outlet ch).share = (s.outlet ch).share ∧
    ((s.outlet ch).state ≠ .idle → ((s.beginRaise ch).outlet ch).state ≠ .idle) := by
  rcases beginRaise_cases (s := s) (ch := ch) with h | h | h | h
  · simp only [State.beginRaise, h, State.modOutlet_outlet_self]
    exact ⟨by rw [Outlet.share, Outlet.share, h], fun _ e => by cases e⟩
  · simp only [State.beginRaise, h, State.enterStartOrder_outlet, State.modOutlet_outlet_self]
    exact ⟨by rw [Outlet.share, Outlet.share, h]; rfl, fun _ e => by cases e⟩
  · simp only [State.beginRaise, h, State.modOutlet_outlet_self]
    exact ⟨by rw [Outlet.share, Outlet.share, h]; rfl, fun _ e => by cases e⟩
  · rw [h]; exact ⟨rfl, id⟩

/-- A member that is raised asks for as much as before. -/
theorem passMember_share (p : Chan) : ((passMember v k (s, none) ch).1.outlet p).share = (s.outlet p).share := by
  by_cases hp : p = ch
  · subst hp
    by_cases hreq : s.request p = .nothing
    · rw [passMember_of_nothing hreq]
    · have hidle := fun c hc => not_idle_of_request (s := s) (ch := p) hreq (c := c) hc
      rw [passMember_request]
      split
      · dsimp only
        split
        · rw [replace_outlet, setGrant_share hidle]
        · rfl
      · split
        · obtain ⟨hshare, hstate⟩ := beginRaise_share (s := s) (ch := p)
          rw [replace_outlet, raiseWhole_eq, setGrant_share fun c hc => ?_, hshare]
          exact (hidle c (by rwa [← beginRaise_outletCfg])).imp_right hstate
        · split <;> rfl
      · rfl
  · rw [passMember_outlet_of_ne s v k none hp]

theorem servicePass_share (p : Chan) : ((s.servicePass v k).outlet p).share = (s.outlet p).share := by
  rw [servicePass_outlet]
  exact foldl_passMember_inv (P := fun t => (t.outlet p).share = (s.outlet p).share) _
    (fun t ch _ ht => (passMember_share p).trans ht) none rfl

/-- Where a room is negative, a member within its desired draw gets nothing (R125). -/
theorem passMember_of_no_room (hroom : s.keepRoom v k < 0 ∨ s.holdingRoom v k < 0) (hle : (s.outlet ch).grant ≤ (s.outlet ch).desired) :
    (passMember v k (s, none) ch).1 = s := by
  rw [passMember_request]
  split
  · have hno : largestRaise (s.keepRoom v k) (s.holdingRoom v k) (s.outlet ch) = (s.outlet ch).grant := by
      rw [largestRaise, if_pos hroom]
    dsimp only
    rw [hno, if_neg fun h => Nat.lt_irrefl _ h.1]
  · have hno : ¬raiseAllowed (s.keepRoom v k) (s.holdingRoom v k) (s.outlet ch).grant (s.outlet ch).peak
        (s.outlet ch).desired = true := by
      rw [raiseAllowed_iff]; omega
    rw [if_neg hno]
    split <;> rfl
  · rfl

theorem servicePass_of_no_room (hroom : s.keepRoom v k < 0 ∨ s.holdingRoom v k < 0) (hq : s.queueSound v k) (hask : s.classAsking v k) :
    ∃ f, s.servicePass v k = s.modQueue v k f := by
  have hsame : ((s.queue v k).members.foldl (passMember v k) (s, none)).1 = s :=
    foldl_passMember_inv (P := fun t => t = s) _ (fun t ch hch ht => by
      subst ht
      exact passMember_of_no_room hroom (hask ch (hq ch hch)).1) none rfl
  exact ⟨WaitQueue.afterPass ((s.queue v k).members.foldl (passMember v k) (s, none)).2, by rw [State.servicePass, hsame]⟩

theorem keepRoom_nonneg_iff : 0 ≤ s.keepRoom v k ↔ s.sumGrants v k ≤ (s.classHold v k).keep := by
  rw [State.keepRoom]; omega

/-- A pass keeps a keep cut made: it raises only within the keep (R125, R146). -/
theorem servicePass_made (hs : s.ordersSound = true) (hq : s.queueSound v k) (hask : s.classAsking v k)
    (h : CutIsMade (s.classHold v k).keep (s.classHold v k).dutyMark s.guarded s v k) :
    CutIsMade ((s.servicePass v k).classHold v k).keep ((s.servicePass v k).classHold v k).dutyMark (s.servicePass v k).guarded
      (s.servicePass v k) v k := by
  by_cases hroom : 0 ≤ s.keepRoom v k ∧ 0 ≤ s.holdingRoom v k
  · exact .inl (keepRoom_nonneg_iff.mp (Claims.passKeepsTheRooms s v k hroom.1 hroom.2).1)
  · obtain ⟨f, e⟩ := servicePass_of_no_room (by omega) hq hask
    rw [e]
    exact cutIsMade_transfer (t := s.modQueue v k f) h hs rfl rfl (fun _ _ => rfl) rfl rfl

theorem cutStep_classAsking (hs : s.ordersSound = true) (hask : s.classAsking v k) : (s.cutStep v k).classAsking v k := by
  have h1 : (s.presentKeep v k).classAsking v k :=
    classAsking_of_outlets (presentKeep_within (v := v) (k := k) v k).loader (presentKeep_outlet v k) hask
  have h2 : ((s.presentKeep v k).keepCut v k).classAsking v k :=
    (demand_of_shrinks (keepCut_cuts _ v k).loader h1 (keepCut_shrinks _ (presentKeep_ordersSound hs))).1
  rcases cutStep_cases (s := s) (v := v) (k := k) with e | e
  · rw [e]; exact h1
  · rw [e]; exact classAsking_of_outlets (presentKeep_within (v := v) (k := k) v k).loader (presentKeep_outlet v k) h2

/-- The keep and its cut after the pass of a class step. -/
theorem passStep_serves (hm : s.isMember = true) (hs : s.ordersSound = true) (hq : s.queueSound v k) (hask : s.classAsking v k) :
    (s.passStep v k).keepFits v k ∧
      CutIsMade ((s.passStep v k).classHold v k).keep ((s.passStep v k).classHold v k).dutyMark (s.passStep v k).guarded
        (s.passStep v k) v k := by
  have hfits : (s.cutStep v k).keepFits v k := cutStep_keepFits hm
  have hmade := cutStep_made hm hs hask
  have hsound : (s.cutStep v k).ordersSound = true :=
    ((Reacts.aside (presentKeep_aside s v k)).trans (cutIfOver_reacts _ v k)).ordersSound hs
  have hqueue : (s.cutStep v k).queueSound v k := cutStep_queueSound hq
  have hasking := cutStep_classAsking (k := k) hs hask
  unfold State.passStep State.passIfDue
  generalize s.cutStep v k = a at *
  split
  · refine ⟨?_, servicePass_made (s := a.clearPass v k) hsound hqueue hasking hmade⟩
    have hwithin : Within v k (a.clearPass v k) ((a.clearPass v k).servicePass v k) := servicePass_within hqueue
    have hhold : ((a.clearPass v k).servicePass v k).classHold v k = (a.clearPass v k).classHold v k := by
      rw [State.classHold, hold_of_apart (State.servicePass_apart (a.clearPass v k) v k)]; rfl
    have hterms : SameTerms v k (a.clearPass v k) ((a.clearPass v k).servicePass v k) :=
      .of_shares hwithin.loader (by rw [hwithin.ledger]) (by rw [State.station, hwithin.memb]; rfl)
        (fun ch _ => servicePass_share ch) (by rw [hhold])
    exact hterms.keepFits (by rw [hhold]) (by rw [hhold]) hfits
  · exact ⟨hfits, hmade⟩

end

end Sys2Proof.Machine

namespace Sys2Proof

/-- The class that a class step carries to (R91). -/
def Cls.next : Cls → Option Cls
  | .c3 => some .c2
  | .c2 => some .c1
  | .c1 => some .c0
  | .c0 => none

theorem Cls.next_inj {i j k : Cls} (hj : j.next = some i) (hk : k.next = some i) : j = k := by
  cases i <;> cases j <;> cases hj <;> cases k <;> cases hk <;> rfl

theorem Cls.next_ne_self (k : Cls) : k.next ≠ some k := by cases k <;> exact fun h => by cases h

end Sys2Proof

namespace Sys2Proof.Machine

open Sys2Proof.Claims (CutIsMade)

/-! ### What a class step carries on -/

section
variable {s t u : State} {v w : Svc} {j k : Cls}

theorem carry_classHold_of_ne (h : v ≠ w ∨ k.next ≠ some j) : (s.carry v k).classHold w j = s.classHold w j := by
  have hmod : ∀ (f : ClassHold → ClassHold) i, k.next = some i → (s.modClass v i f).classHold w j = s.classHold w j := fun f i hi =>
    modClass_classHold_of_ne s f (h.imp_right fun hn e => hn (by rw [hi, e]))
  unfold State.carry
  dsimp only
  split
  · exact hmod _ .c2 rfl
  · exact hmod _ .c1 rfl
  · exact (modHold_classHold_of_classes (by exact fun _ => rfl)).trans (hmod _ .c0 rfl)
  · exact modHold_classHold_of_classes (by exact fun _ => rfl)

/-- What a class cannot give goes to the next class (R91); no reclaim goes into class 0 (R92). -/
theorem carry_carried (h : k.next = some j) :
    ((s.carry v k).classHold v j).carriedShortage = s.shortageBurden v k - s.giveable v k ∧
    ((s.carry v k).classHold v j).carriedReclaim = if j = .c0 then 0 else s.reclaimBurden v k - s.giveable v k := by
  have hmod : ∀ a b : Nat, ((s.modClass v j fun c => { c with carriedShortage := a, carriedReclaim := b }).classHold v j) =
      { s.classHold v j with carriedShortage := a, carriedReclaim := b } := fun a b => modClass_classHold_self s v j _
  cases k <;> cases h
  · rw [State.carry, modHold_classHold_of_classes, hmod]
    · exact ⟨rfl, rfl⟩
    · exact fun _ => rfl
  · rw [State.carry, hmod]; exact ⟨rfl, rfl⟩
  · rw [State.carry, hmod]; exact ⟨rfl, rfl⟩

theorem carry_unplacedShortage (v : Svc) (s : State) :
    ((s.carry v .c0).hold.get v).unplacedShortage = s.shortageBurden v .c0 - s.giveable v .c0 := by
  rw [State.carry, modHold_get, if_pos rfl]

theorem carry_unplacedReclaim (v : Svc) (s : State) :
    ((s.carry v .c1).hold.get v).unplacedReclaim = s.reclaimBurden v .c1 - s.giveable v .c1 := by
  rw [State.carry, modHold_get, if_pos rfl]

theorem carry_unplacedShortage_of_ne (h : v ≠ w ∨ k ≠ .c0) :
    ((s.carry v k).hold.get w).unplacedShortage = (s.hold.get w).unplacedShortage := by
  have hmod : ∀ (t : State) i f, ((t.modClass v i f).hold.get w).unplacedShortage = (t.hold.get w).unplacedShortage := fun t i f =>
    congrArg Prod.fst (modClass_unplaced (s := t) (v := v) (k := i) (w := w) f)
  unfold State.carry
  dsimp only
  split
  · exact hmod s _ _
  · exact hmod s _ _
  · rw [modHold_get]
    split
    · exact hmod s _ _
    · exact hmod s _ _
  · rw [modHold_get, if_neg (h.resolve_right fun hn => hn rfl)]

theorem carry_unplacedReclaim_of_ne (h : v ≠ w ∨ k ≠ .c1) :
    ((s.carry v k).hold.get w).unplacedReclaim = (s.hold.get w).unplacedReclaim := by
  have hmod : ∀ (t : State) i f, ((t.modClass v i f).hold.get w).unplacedReclaim = (t.hold.get w).unplacedReclaim := fun t i f =>
    congrArg Prod.snd (modClass_unplaced (s := t) (v := v) (k := i) (w := w) f)
  unfold State.carry
  dsimp only
  split
  · exact hmod s _ _
  · exact hmod s _ _
  · rw [modHold_get, if_neg (h.resolve_right fun hn => hn rfl)]
    exact hmod s _ _
  · rw [modHold_get]
    split <;> rfl

/-! ### A class step as a whole -/

theorem classStep_classHold_of_ne (hne : v ≠ w ∨ k ≠ j) (hnext : v ≠ w ∨ k.next ≠ some j) :
    (classStep v k s).classHold w j = s.classHold w j :=
  (carry_classHold_of_ne hnext).trans (passStep_classHold_of_ne hne)

theorem passStep_basis : ((s.passStep v k).classHold v k).basis = (s.classHold v k).basis := by
  have hpass : (s.passStep v k).classHold v k = (s.cutStep v k).classHold v k := by rw [State.classHold, passStep_hold]; rfl
  have hpresent : ∀ t : State, ((t.presentKeep v k).classHold v k).basis = (t.classHold v k).basis := fun t => by
    rw [presentKeep_classHold]; exact take_basis _ _ _ _ _
  rw [hpass]
  rcases cutStep_cases (s := s) (v := v) (k := k) with e | e
  · rw [e, hpresent]
  · rw [e, hpresent, (keepCut_cuts _ v k).classHold, hpresent]

theorem classStep_basis (hnext : v ≠ w ∨ k.next ≠ some j) :
    ((classStep v k s).classHold w j).basis = (s.classHold w j).basis := by
  rw [classStep_eq, carry_classHold_of_ne hnext]
  by_cases h : v = w ∧ k = j
  · obtain ⟨rfl, rfl⟩ := h
    exact passStep_basis
  · rw [passStep_classHold_of_ne (Classical.not_and_iff_not_or_not.mp h)]

/-- What a class can give reads its outlets, its holding and the guard (R90). -/
theorem giveable_of_parts (hloader : t.loader = s.loader) (hcopy : t.ledger.copy = s.ledger.copy) (hguard : t.app.guard = s.app.guard)
    (hgrants : ∀ ch, s.inClass v k ch = true → (t.outlet ch).grant = (s.outlet ch).grant) : t.giveable v k = s.giveable v k := by
  have hguarded : ∀ ch, t.guarded ch = s.guarded ch := fun ch => by
    rw [State.guarded, State.guarded, outletCfg_of_image (ch := ch) (congrArg Loader.image hloader), hguard]
  have htotal : t.guardedTotal v k = s.guardedTotal v k := by
    rw [State.guardedTotal, State.guardedTotal, classChannels_of_loader hloader]
    refine congrArg List.sum (List.map_congr_left fun ch hch => ?_)
    rw [hguarded, hgrants ch (inClass_of_mem_classChannels hch)]
  rw [State.giveable, State.giveable, htotal, ownHolding_of_parts hloader hcopy]

/-- A class is served: its keep is as its terms give it, its cut is made, and what it cannot give is carried on or left unplaced. -/
structure ClassServed (v : Svc) (k : Cls) (s : State) : Prop where
  fits : s.keepFits v k
  made : CutIsMade (s.classHold v k).keep (s.classHold v k).dutyMark s.guarded s v k
  carried : ∀ j, k.next = some j → (s.classHold v j).carriedShortage = s.shortageBurden v k - s.giveable v k ∧
    (s.classHold v j).carriedReclaim = if j = .c0 then 0 else s.reclaimBurden v k - s.giveable v k
  unplacedShortage : k = .c0 → (s.hold.get v).unplacedShortage = s.shortageBurden v k - s.giveable v k
  unplacedReclaim : k = .c1 → (s.hold.get v).unplacedReclaim = s.reclaimBurden v k - s.giveable v k

/-- A class step serves its class. -/
theorem classStep_serves (hm : s.isMember = true) (hs : s.ordersSound = true) (hq : s.queueSound v k) (hask : s.classAsking v k) :
    ClassServed v k (classStep v k s) := by
  obtain ⟨hfits, hmade⟩ := passStep_serves hm hs hq hask
  have hsound : (s.passStep v k).ordersSound = true :=
    (((Reacts.aside (presentKeep_aside s v k)).trans (cutIfOver_reacts _ v k)).trans (passIfDue_reacts _ v k)).ordersSound hs
  rw [classStep_eq]
  generalize s.passStep v k = a at *
  obtain ⟨hloader, hledger, hmemb, houtlets, happ⟩ := carry_leaves (s := a) (v := v) (k := k)
  have hclass : (a.carry v k).classHold v k = a.classHold v k := carry_classHold_of_ne (.inr k.next_ne_self)
  have houtlet : ∀ ch, (a.carry v k).outlet ch = a.outlet ch := outlet_of_outlets houtlets
  have hterms : SameTerms v k a (a.carry v k) :=
    .of_shares hloader (by rw [hledger]) (by rw [State.station, hmemb]; rfl) (fun ch _ => by rw [houtlet]) (by rw [hclass])
  have hgive : (a.carry v k).giveable v k = a.giveable v k :=
    giveable_of_parts hloader (by rw [hledger]) (by rw [happ]) fun ch _ => by rw [houtlet]
  refine ⟨hterms.keepFits (by rw [hclass]) (by rw [hclass]) hfits, ?_, fun j hj => ?_, ?_, ?_⟩
  · rw [hclass]
    exact cutIsMade_transfer hmade hsound hloader (by rw [happ]) (fun ch _ => by rw [houtlet]) (by rw [happ]) (by rw [happ])
  · rw [hterms.shortage, hterms.reclaim, hgive]
    exact carry_carried hj
  · rintro rfl
    rw [hterms.shortage, hgive]
    exact carry_unplacedShortage v a
  · rintro rfl
    rw [hterms.reclaim, hgive]
    exact carry_unplacedReclaim v a

/-- A class stays served through the step of another class that does not carry into it. -/
theorem ClassServed.classStep (h : ClassServed v k s) (hs : s.ordersSound = true) (hq : s.queueSound w j)
    (hother : w ≠ v ∨ (j ≠ k ∧ j.next ≠ some k)) : ClassServed v k (classStep w j s) := by
  have hne : w ≠ v ∨ j ≠ k := hother.imp_right And.left
  have hnext : w ≠ v ∨ j.next ≠ some k := hother.imp_right And.right
  have hwithin : Within w j s (Machine.classStep w j s) := classStep_within hs hq
  have hclass : (Machine.classStep w j s).classHold v k = s.classHold v k := classStep_classHold_of_ne hne hnext
  have hbasis : ∀ i, k.next = some i → ((Machine.classStep w j s).classHold v i).basis = (s.classHold v i).basis := fun i hi =>
    classStep_basis (hne.imp_right fun hjk e => hjk (Cls.next_inj e hi))
  have hshort : w ≠ v ∨ j ≠ .c0 ∨ k ≠ .c0 := by
    refine hne.imp_right fun hjk => Classical.not_and_iff_not_or_not.mp fun e => hjk (e.1.trans e.2.symm)
  have hunplacedShortage : k = .c0 →
      ((Machine.classStep w j s).hold.get v).unplacedShortage = (s.hold.get v).unplacedShortage := fun hk =>
    (carry_unplacedShortage_of_ne (hshort.imp_right fun e => e.resolve_right fun hn => hn hk)).trans
      (congrArg Prod.fst (passStep_unplaced (s := s) (v := w) (k := j) v))
  have hunplacedReclaim : k = .c1 →
      ((Machine.classStep w j s).hold.get v).unplacedReclaim = (s.hold.get v).unplacedReclaim := fun hk =>
    (carry_unplacedReclaim_of_ne (hne.imp_right fun hjk e => hjk (e.trans hk.symm))).trans
      (congrArg Prod.snd (passStep_unplaced (s := s) (v := w) (k := j) v))
  generalize Machine.classStep w j s = t at *
  have houtlet : ∀ ch, s.inClass v k ch = true → t.outlet ch = s.outlet ch := fun ch hch =>
    hwithin.outlets ch (not_inClass_of_ne s hne hch)
  have hcopy : t.ledger.copy = s.ledger.copy := by rw [hwithin.ledger]
  have hterms : SameTerms v k s t := .of_shares hwithin.loader hcopy (by rw [State.station, hwithin.memb]; rfl)
    (fun ch hch => by rw [houtlet ch hch]) (by rw [hclass])
  have hgive : t.giveable v k = s.giveable v k :=
    giveable_of_parts hwithin.loader hcopy hwithin.guard fun ch hch => by rw [houtlet ch hch]
  refine ⟨hterms.keepFits (by rw [hclass]) (by rw [hclass]) h.fits, ?_, fun i hi => ?_, fun hk => ?_, fun hk => ?_⟩
  · rw [hclass]
    exact cutIsMade_transfer h.made hs hwithin.loader hwithin.guard (fun ch hch => by rw [houtlet ch hch]) (hwithin.raise v k hne)
      (hwithin.start v k hne)
  · have hcarried := hbasis i hi
    simp only [ClassHold.basis, Prod.mk.injEq] at hcarried
    rw [hcarried.2.2.1, hcarried.2.2.2, hterms.shortage, hterms.reclaim, hgive]
    exact h.carried i hi
  · rw [hunplacedShortage hk, hterms.shortage, hgive]
    exact h.unplacedShortage hk
  · rw [hunplacedReclaim hk, hterms.reclaim, hgive]
    exact h.unplacedReclaim hk

end

end Sys2Proof.Machine

namespace Sys2Proof.Machine

/-! ### The outlets and queues that the outlet phase leaves -/

section
variable {s t : State} {v w : Svc} {j k : Cls} {ch : Chan}

theorem desiredDraw_of_rest (c : OutletCfg) {o : Outlet} (h : o.state.counts = false ∨ o.state = .idle) :
    OutletCfg.desiredDraw c o = 0 := by
  unfold OutletCfg.desiredDraw
  have hstate : o.state = .off ∨ o.state = .fault ∨ o.state = .idle := by
    rcases h with h | h
    · cases hs : o.state <;> simp [hs, OutletState.counts] at h ⊢
    · exact .inr (.inr h)
  rcases hstate with h | h | h <;> cases c.kind <;> simp [h]

theorem settleState_resting (c : OutletCfg) {o : Outlet} (h : o.Resting) : (OutletCfg.settleState c o).Resting := by
  by_cases hidle : o.state = .idle
  · exact fun _ => (OutletCfg.settleState_desired c o).trans (h (.inr hidle))
  · intro e
    rw [OutletCfg.settleState_state (.inr hidle)] at e
    rw [OutletCfg.settleState_desired]
    exact h e

theorem setGrant_resting {p : Chan} {g : Nat} (h : (s.outlet p).Resting) : ((s.setGrant ch g).outlet p).Resting := by
  by_cases hp : p = ch
  · subst hp
    exact setGrant_outlet_ind s (P := Outlet.Resting) h fun c pin =>
      OutletCfg.granted_ind (P := Outlet.Resting) (fun _ => h) (fun _ => settleState_resting c h) h
  · rwa [setGrant_outlet_of_ne s hp]

theorem lowerStep_loader : (lowerStep ch s).loader = s.loader := (lowerStep_works (up := True) s ch).loader

/-- After the outlet phase no outlet is granted more than it desires (R130). -/
theorem forEach_lowerStep_asking (hc : (s.outletCfg? ch).isSome = true) (h : (s.outlet ch).Resting) :
    ((forEach channels lowerStep s).outlet ch).Asking := by
  have hresting : ∀ p t, (t.outlet ch).Resting → ((lowerStep p t).outlet ch).Resting := by
    intro p t ht
    unfold lowerStep
    split
    · exact setGrant_resting ht
    · exact ht
  refine forEach_reaches (P := fun t => (t.outlet ch).Asking) (I := fun t => t.loader = s.loader ∧ (t.outlet ch).Resting)
    (mem_channels ch) (fun p t ht => ⟨lowerStep_loader.trans ht.1, hresting p t ht.2⟩) (fun p t _ ht => ?_) (fun t ht => ?_)
    ⟨rfl, h⟩
  · unfold lowerStep
    split
    · next hlt => exact (setGrant_shrinks t (Nat.le_of_lt hlt) ch ht).1
    · exact ht
  · refine ⟨?_, hresting ch t ht.2⟩
    unfold lowerStep
    split
    · have hcfg : t.outletCfg? ch = s.outletCfg? ch := outletCfg_of_image (by rw [ht.1])
      exact Nat.le_of_eq ((setGrant_grant t (by rwa [hcfg])).trans (setGrant_desired ..).symm)
    · next hn => exact Nat.not_lt.mp hn

theorem forEach_desiredStep_resting (hc : (s.outletCfg? ch).isSome = true) :
    ((forEach channels desiredStep s).outlet ch).Resting := by
  refine forEach_reaches (P := fun t => (t.outlet ch).Resting) (I := fun t => t.loader = s.loader) (mem_channels ch)
    (fun p t ht => (desiredStep_works (up := True) t p).loader.trans ht) (fun p t _ ht => ?_) (fun t ht => ?_) rfl
  · unfold desiredStep
    split
    · next c _ =>
      by_cases hp : p = ch
      · subst hp
        rw [State.modOutlet_outlet_self]
        exact desiredDraw_of_rest c
      · rwa [State.modOutlet_outlet_of_ne t _ hp]
    · exact ht
  · obtain ⟨c, hc⟩ := Option.isSome_iff_exists.mp hc
    have hcfg : t.outletCfg? ch = some c := (outletCfg_of_image (by rw [ht])).trans hc
    simp only [desiredStep, hcfg, State.modOutlet_outlet_self]
    exact desiredDraw_of_rest c

theorem outletPhase_asking (s : State) (v : Svc) (k : Cls) : s.outletPhase.classAsking v k := by
  intro ch hch
  have hc := outletCfg_of_inClass _ hch
  rw [(outletPhase_works (up := True) s).outletCfg] at hc
  have hgroup := (Works.forEach channels levelStep (fun ch t => levelStep_works (up := True) t ch) s).trans
    (.forEach channels groupStep (fun ch t => groupStep_works t ch) _)
  have hdesired := hgroup.trans (.forEach channels desiredStep (fun ch t => desiredStep_works t ch) _)
  rw [State.outletPhase, requeueAll_outlet]
  exact forEach_lowerStep_asking (by rwa [hdesired.outletCfg]) (forEach_desiredStep_resting (by rwa [hgroup.outletCfg]))

theorem requeueAll_queueSound (s : State) (v : Svc) (k : Cls) : s.requeueAll.queueSound v k := by
  refine forEach_reaches (P := fun t => t.queueSound v k) (I := fun _ => True) (mem_serviceClasses v k) (fun _ _ _ => trivial)
    (fun p t _ ht => ?_) (fun t _ => requeue_queueSound t) trivial
  by_cases h : p.1 = v ∧ p.2 = k
  · obtain ⟨rfl, rfl⟩ := h
    exact requeue_queueSound t
  · exact (requeue_within t).queueSound (Classical.not_and_iff_not_or_not.mp h) ht

/-! ### The classes of both services, from class 3 to class 0 -/

/-- The order of the class steps in an event (R91). -/
def keepOrder : List (Svc × Cls) :=
  [(.hw, .c3), (.hw, .c2), (.hw, .c1), (.hw, .c0), (.st, .c3), (.st, .c2), (.st, .c1), (.st, .c0)]

theorem keepPhases_eq (s : State) : forEach services keepPhase s = forEach keepOrder (fun p => classStep p.1 p.2) s := rfl

/-- The step of the second class neither is that of the first nor carries into it. -/
def Undisturbed (p q : Svc × Cls) : Prop := q.1 ≠ p.1 ∨ (q.2 ≠ p.2 ∧ q.2.next ≠ some p.2)

theorem keepOrder_undisturbed : keepOrder.Pairwise Undisturbed := by
  unfold keepOrder Undisturbed
  decide

theorem mem_keepOrder (v : Svc) (k : Cls) : (v, k) ∈ keepOrder := by cases v <;> cases k <;> decide

/-- What a class step needs of the station and its class. -/
structure Ready (s : State) (l : List (Svc × Cls)) : Prop where
  member : s.isMember = true
  orders : s.ordersSound = true
  queues : ∀ p ∈ l, s.queueSound p.1 p.2
  asking : ∀ p ∈ l, s.classAsking p.1 p.2

theorem Ready.step {p : Svc × Cls} {rest : List (Svc × Cls)} (h : Ready s (p :: rest)) (hp : ∀ q ∈ rest, Undisturbed p q) :
    Ready (classStep p.1 p.2 s) rest := by
  have hmem : p ∈ p :: rest := List.mem_cons_self ..
  have hwithin := classStep_within h.orders (h.queues p hmem)
  have hne : ∀ q ∈ rest, p.1 ≠ q.1 ∨ p.2 ≠ q.2 := fun q hq => (hp q hq).imp Ne.symm fun e => e.1.symm
  refine ⟨(isMember_of_memb_eq hwithin.memb).trans h.member, (classStep_reacts s p.1 p.2).ordersSound h.orders, fun q hq => ?_,
    fun q hq ch hch => ?_⟩
  · exact hwithin.queueSound (hne q hq) (h.queues q (List.mem_cons_of_mem p hq))
  · rw [inClass_of_loader hwithin.loader] at hch
    rw [hwithin.outlets ch (not_inClass_of_ne _ (hne q hq) hch)]
    exact h.asking q (List.mem_cons_of_mem p hq) ch hch

/-- Class steps in an undisturbed order serve each class, and leave served what was before them. -/
theorem classSteps_serve {l : List (Svc × Cls)} (hl : l.Pairwise Undisturbed) (h : Ready s l) :
    (∀ p ∈ l, ClassServed p.1 p.2 (forEach l (fun p => classStep p.1 p.2) s)) ∧
    ∀ p, (∀ q ∈ l, Undisturbed p q) → ClassServed p.1 p.2 s → ClassServed p.1 p.2 (forEach l (fun p => classStep p.1 p.2) s) := by
  induction l generalizing s with
  | nil => exact ⟨fun p hp => (by cases hp), fun p _ hs => hs⟩
  | cons p rest ih =>
    obtain ⟨hp, hrest⟩ := List.pairwise_cons.mp hl
    have hmem : p ∈ p :: rest := List.mem_cons_self ..
    obtain ⟨hserved, hkept⟩ := ih hrest (h.step hp)
    refine ⟨fun q hq => ?_, fun q hq hs => ?_⟩
    · rcases List.mem_cons.mp hq with rfl | hq
      · exact hkept q hp (classStep_serves h.member h.orders (h.queues q hmem) (h.asking q hmem))
      · exact hserved q hq
    · exact hkept q (fun r hr => hq r (List.mem_cons_of_mem p hr)) (hs.classStep h.orders (h.queues p hmem) (hq p hmem))

/-- After the keep phases of a MEMBER every class is served. -/
theorem keepPhases_serve (x : State) (hm : x.isMember = true) (hs : x.ordersSound = true) (v : Svc) (k : Cls) :
    ClassServed v k (forEach services keepPhase x.outletPhase) := by
  have hready : Ready x.outletPhase keepOrder := by
    refine ⟨(outletPhase_works (up := True) x).isMember.trans hm, (outletPhase_reacts x).ordersSound hs, fun p _ => ?_,
      fun p _ => outletPhase_asking x p.1 p.2⟩
    exact requeueAll_queueSound _ p.1 p.2
  rw [keepPhases_eq]
  exact (classSteps_serve keepOrder_undisturbed hready).1 (v, k) (mem_keepOrder v k)

end

end Sys2Proof.Machine

namespace Sys2Proof.Machine

open Sys2Proof.Claims (CutIsMade)

/-! ### The classes at the end of an event -/

section
variable {s t u : State} {v : Svc} {k : Cls}

/-- A served class stays served where the figures stay. -/
theorem Figures.classServed (h : Figures s t) (hs : s.ordersSound = true) (hserved : ClassServed v k s) : ClassServed v k t := by
  obtain ⟨hguard, hraise, hstart⟩ : t.app.guard = s.app.guard ∧ t.app.raiseOrder = s.app.raiseOrder ∧
      t.app.startOrder = s.app.startOrder := by simpa only [Apportioner.orders, Prod.mk.injEq] using h.orders
  have hfigures : ∀ j, (t.classHold v j).keep = (s.classHold v j).keep ∧ (t.classHold v j).dutyMark = (s.classHold v j).dutyMark ∧
      (t.classHold v j).carriedShortage = (s.classHold v j).carriedShortage ∧
      (t.classHold v j).carriedReclaim = (s.classHold v j).carriedReclaim := fun j => by
    have hj := h.classes v j
    simp only [ClassHold.figures, Prod.mk.injEq] at hj
    exact hj.2
  obtain ⟨hkeep, hduty, hshortage, hreclaim⟩ := hfigures k
  have hown := own_of_loader h.loader
  have hterms : SameTerms v k s t := by
    refine ⟨h.normal v k, ownHolding_of_parts h.loader h.copy, ?_, ?_⟩
    · rw [State.shortageBurden, State.shortageBurden, h.copy, hown, hshortage]
    · rw [State.reclaimBurden, State.reclaimBurden, h.copy, hown, hreclaim]
  have hgive : t.giveable v k = s.giveable v k :=
    giveable_of_parts h.loader h.copy hguard fun ch _ => congrArg (fun m => m.2.2.1) (h.outlets ch)
  have hunplaced := Prod.mk.inj (h.unplaced v)
  refine ⟨hterms.keepFits hkeep hduty hserved.fits, ?_, fun j hj => ?_, fun hk => ?_, fun hk => ?_⟩
  · rw [hkeep, hduty]
    exact cutIsMade_transfer hserved.made hs h.loader hguard (fun ch _ => h.outlets ch) (by rw [hraise]) (by rw [hstart])
  · obtain ⟨-, -, hshort, hclaim⟩ := hfigures j
    rw [hshort, hclaim, hterms.shortage, hterms.reclaim, hgive]
    exact hserved.carried j hj
  · rw [hunplaced.1, hterms.shortage, hgive]
    exact hserved.unplacedShortage hk
  · rw [hunplaced.2, hterms.reclaim, hgive]
    exact hserved.unplacedReclaim hk

/-- The keep amount in the claim's terms, where a releasing class has its spare (R86). -/
theorem keepIsComputed_of_fits (h : s.keepFits v k) (hreleasing : (s.classHold v k).releasing = true → s.spareStands v k = true) :
    Claims.KeepIsComputed s v k := by
  have hnormal : s.normalTerm v k = if (s.classHold v k).releasing then s.target v k else s.ownHolding v k := by
    rw [State.normalTerm]
    cases hr : (s.classHold v k).releasing with
    | true => rw [hreleasing hr]; rfl
    | false => rfl
  rw [State.keepFits, hnormal] at h
  exact h

/-- The carries in the claim's terms (R91, R92). -/
theorem carriesAreComputed_of_served (h : ∀ k, ClassServed v k s) (hs : s.carriesSound = true) : Claims.CarriesAreComputed s v := by
  obtain ⟨hshort3, hclaim3, hclaim0⟩ := s.carriesSound_iff.mp hs v
  obtain ⟨hshort2, hclaim2⟩ := (h .c3).carried .c2 rfl
  obtain ⟨hshort1, hclaim1⟩ := (h .c2).carried .c1 rfl
  obtain ⟨hshort0, -⟩ := (h .c1).carried .c0 rfl
  exact ⟨⟨hshort3, hshort2, hshort1, hshort0, (h .c0).unplacedShortage rfl⟩,
    ⟨hclaim3, hclaim2, hclaim1, hclaim0, (h .c1).unplacedReclaim rfl⟩⟩

/-- The holdings phase after the keep phases. -/
def State.afterKeeps (s : State) : State :=
  forEach services wantStep (forEach services takeStep (forEach serviceClasses (fun p => giveStep p.1 p.2)
    (forEach services reclaimStep s)))

theorem holdPhase_eq (s : State) : s.holdPhase = (forEach services keepPhase s).afterKeeps := rfl

theorem afterKeeps_figures (s : State) : Figures s s.afterKeeps :=
  (((Figures.forEach services reclaimStep reclaimStep_figures s).trans
    (.forEach serviceClasses (fun p => giveStep p.1 p.2) (fun p t => giveStep_figures p.1 p.2 t) _)).trans
    (.forEach services takeStep takeStep_figures _)).trans (.forEach services wantStep wantStep_figures _)

/-- At the end of an event in MEMBER every class is served. -/
theorem lastRound_serves (x : State) (hm : x.isMember = true) (hs : x.ordersSound = true) (v : Svc) (k : Cls) :
    ClassServed v k x.outletPhase.afterContact.rest := by
  have hkeeps : Reacts x (forEach services keepPhase x.outletPhase) :=
    (outletPhase_reacts x).trans (.forEach services keepPhase (fun w t => .forEach _ _ (fun j u => classStep_reacts u w j) t) _)
  have hfigures : Figures (forEach services keepPhase x.outletPhase) x.outletPhase.afterContact.rest := by
    rw [State.afterContact, holdPhase_eq]
    exact (((afterKeeps_figures _).trans (stagePhase_figures _)).trans (framePhase_figures _)).trans (rest_figures _)
  exact hfigures.classServed (hkeeps.ordersSound hs) (keepPhases_serve x hm hs v k)

end

end Sys2Proof.Machine

namespace Sys2Proof.Machine

/-! ### Requests placed in the transmit queue (R45, R46) -/

/-- The amount of a waiting GIVE. -/
def TxQueue.giveAmount (q : TxQueue) (v : Svc) (k : Cls) : Nat :=
  match q.give.get v k with
  | some g => g.amount
  | none => 0

/-- Nothing that waits is taken out, and no GIVE gets smaller. -/
structure TxQueue.Grows (q q' : TxQueue) : Prop where
  waits : ∀ key, q.waitsAt key = true → q'.waitsAt key = true
  gives : ∀ v k, q.giveAmount v k ≤ q'.giveAmount v k

/-- The same for the station: what is busy stays busy, and no waiting GIVE amount falls. -/
structure QueueGrows (s t : State) : Prop where
  busy : ∀ key, s.keyBusy key = true → t.keyBusy key = true
  gives : ∀ v k, s.waitingGive v k ≤ t.waitingGive v k

section
variable {s t u : State}

theorem QueueGrows.refl (s : State) : QueueGrows s s := ⟨fun _ => id, fun _ _ => Nat.le_refl _⟩

theorem QueueGrows.trans (h1 : QueueGrows s t) (h2 : QueueGrows t u) : QueueGrows s u :=
  ⟨fun key h => h2.busy key (h1.busy key h), fun v k => Nat.le_trans (h1.gives v k) (h2.gives v k)⟩

theorem QueueGrows.of_liu (h : t.liu = s.liu) : QueueGrows s t := by
  refine ⟨fun key hb => ?_, fun v k => ?_⟩
  · rw [State.keyBusy, State.txKey, h]; exact hb
  · exact Nat.le_of_eq (by simp only [State.waitingGive, State.queuedGive, State.txGive, h])

theorem QueueGrows.ite {a b : State} {p : Prop} [Decidable p] (ha : p → QueueGrows s a) (hb : ¬p → QueueGrows s b) :
    QueueGrows s (if p then a else b) := by
  split
  · next h => exact ha h
  · next h => exact hb h

theorem QueueGrows.forEach {α : Type} (l : List α) (f : α → State → State) (h : ∀ a t, QueueGrows t (f a t)) (s : State) :
    QueueGrows s (forEach l f s) :=
  forEach_inv (QueueGrows s) l f (fun a t ht => ht.trans (h a t)) s (.refl s)

theorem modTxQueue_grows {f : TxQueue → TxQueue} (h : s.liu.queue.Grows (f s.liu.queue)) : QueueGrows s (s.modTxQueue f) where
  busy key hb := by
    rw [State.keyBusy, Bool.or_eq_true] at hb ⊢
    exact hb.imp_left (h.waits key)
  gives v k := Nat.add_le_add_right (h.gives v k) _

theorem waitsAt_set_of_ne {α : Type} {p : Per2 (Option α)} {v w : Svc} {a : α} (h : (p.get w).isSome = true) :
    ((p.set v (some a)).get w).isSome = true := by
  by_cases e : v = w
  · subst e; rw [Per2.get_set_self]; rfl
  · rw [Per2.get_set_of_ne _ _ e]; exact h

/-- A change of one key other than a GIVE, at which something waits after it. -/
theorem placeOffer_grows (v : Svc) : QueueGrows s (s.placeOffer v) := by
  refine modTxQueue_grows ⟨fun key h => ?_, fun _ _ => Nat.le_refl _⟩
  cases key with
  | offer w => exact waitsAt_set_of_ne h
  | _ => exact h

theorem placeWant_grows (v : Svc) : QueueGrows s (s.placeWant v) := by
  refine modTxQueue_grows ⟨fun key h => ?_, fun _ _ => Nat.le_refl _⟩
  cases key with
  | want w => exact waitsAt_set_of_ne h
  | _ => exact h

theorem placeTake_grows (v : Svc) (k : Cls) (n : Nat) : QueueGrows s (s.placeTake v k n) := by
  refine modTxQueue_grows ⟨fun key h => ?_, fun _ _ => Nat.le_refl _⟩
  cases key with
  | take w =>
    unfold TxQueue.waitsAt TxQueue.ageAt at h ⊢
    rw [Option.isSome_map] at h ⊢
    exact waitsAt_set_of_ne h
  | _ => exact h

theorem placeLapse_grows (n : Stn) (q : BitVec 8) : QueueGrows s (s.placeLapse n q) := by
  refine modTxQueue_grows ⟨fun key h => ?_, fun _ _ => Nat.le_refl _⟩
  cases key with
  | lapse => rfl
  | _ => exact h

theorem placeKeep_grows : QueueGrows s s.placeKeep := by
  refine modTxQueue_grows ⟨fun key h => ?_, fun _ _ => Nat.le_refl _⟩
  cases key with
  | refresh => rfl
  | _ => exact h

/-- The queue after a GIVE has been added. -/
theorem placeGive_queue (v : Svc) (k : Cls) (n : Nat) : ∃ age, (s.placeGive v k n).liu.queue =
    { s.liu.queue with give := s.liu.queue.give.set v k (some ⟨s.liu.queue.giveAmount v k + n, age⟩) } := by
  unfold State.placeGive State.modTxQueue TxQueue.giveAmount
  cases h : s.liu.queue.give.get v k with
  | none => exact ⟨s.now, by simp only [h, Nat.zero_add]⟩
  | some g => exact ⟨g.age, by simp only [h]⟩

theorem placeGive_tx (v : Svc) (k : Cls) (n : Nat) : (s.placeGive v k n).liu.tx = s.liu.tx := rfl

theorem waitingGive_eq (s : State) (v : Svc) (k : Cls) : s.waitingGive v k = s.liu.queue.giveAmount v k + s.txGive v k := rfl

theorem placeGive_txGive (v w : Svc) (k j : Cls) (n : Nat) : (s.placeGive v k n).txGive w j = s.txGive w j := rfl

theorem giveAmount_set_self (q : TxQueue) (v : Svc) (k : Cls) (n age : Nat) :
    TxQueue.giveAmount { q with give := q.give.set v k (some ⟨n, age⟩) } v k = n := by
  simp only [TxQueue.giveAmount, Per8.get_set_self]

theorem placeGive_waitingGive (v : Svc) (k : Cls) (n : Nat) :
    (s.placeGive v k n).waitingGive v k = s.waitingGive v k + n := by
  obtain ⟨age, hqueue⟩ := placeGive_queue (s := s) v k n
  rw [waitingGive_eq, hqueue, placeGive_txGive, waitingGive_eq, giveAmount_set_self]
  omega

theorem placeGive_grows (v : Svc) (k : Cls) (n : Nat) : QueueGrows s (s.placeGive v k n) := by
  obtain ⟨age, hqueue⟩ := placeGive_queue (s := s) v k n
  refine ⟨fun key h => ?_, fun w j => ?_⟩
  · rw [State.keyBusy, State.txKey, placeGive_tx, hqueue, Bool.or_eq_true]
    rw [State.keyBusy, State.txKey, Bool.or_eq_true] at h
    refine h.imp_left fun h => ?_
    cases key with
    | give w j =>
      unfold TxQueue.waitsAt TxQueue.ageAt at h ⊢
      rw [Option.isSome_map] at h ⊢
      by_cases e : v = w ∧ k = j
      · obtain ⟨rfl, rfl⟩ := e
        rw [Per8.get_set_self]; rfl
      · rw [Per8.get_set_of_ne _ _ (Classical.not_and_iff_not_or_not.mp e)]; exact h
    | _ => exact h
  · by_cases e : v = w ∧ k = j
    · obtain ⟨rfl, rfl⟩ := e
      rw [placeGive_waitingGive]
      exact Nat.le_add_right _ _
    · rw [waitingGive_eq, waitingGive_eq, placeGive_txGive, hqueue]
      refine Nat.add_le_add_right (Nat.le_of_eq ?_) _
      unfold TxQueue.giveAmount
      rw [Per8.get_set_of_ne _ _ (Classical.not_and_iff_not_or_not.mp e)]

/-! ### The phases that place requests -/

theorem giveStep_grows (v : Svc) (k : Cls) : QueueGrows s (giveStep v k s) :=
  .ite (fun _ => placeGive_grows v k _) fun _ => .refl s

theorem takeStep_grows (v : Svc) : QueueGrows s (takeStep v s) := by
  unfold takeStep
  refine .ite (fun _ => ?_) fun _ => .refl s
  split
  · exact .ite (fun _ => (placeTake_grows v _ _).trans (.of_liu rfl)) fun _ => .refl s
  · exact .refl s

theorem wantStep_grows (v : Svc) : QueueGrows s (wantStep v s) := by
  unfold wantStep
  have hmark : ∀ mark, QueueGrows s (s.modHold v fun h => { h with wantMark := mark }) := fun mark => .of_liu rfl
  exact .ite (fun _ => .ite (fun _ => (hmark _).trans (placeWant_grows v)) fun _ => hmark _) fun _ => .refl s

theorem offerStep_grows (v : Svc) : QueueGrows s (offerStep v s) := .ite (fun _ => placeOffer_grows v) fun _ => .refl s

theorem callStep_liu (v : Svc) : (callStep v s).liu = s.liu := by
  unfold callStep
  dsimp only
  split
  · split <;> rfl
  · rfl

theorem stagePhase_grows : QueueGrows s s.stagePhase := by
  unfold State.stagePhase
  refine .ite (fun _ => ?_) fun _ => .of_liu rfl
  refine (((QueueGrows.forEach channels alwaysStep (fun ch t => ?_) s).trans (.forEach services callStep (fun v t => ?_) _)).trans
    (.forEach services offerStep (fun v t => offerStep_grows v) _)).trans (.forEach services dropStep (fun v t => .of_liu rfl) _)
  · exact .ite (fun _ => .of_liu rfl) fun _ => .refl t
  · exact .of_liu (callStep_liu v)

theorem selfStep_grows : QueueGrows s (selfStep s) := .ite (fun _ => .of_liu rfl) fun _ => .refl s

theorem lapseKeyStep_grows : QueueGrows s (lapseKeyStep s) := by
  unfold lapseKeyStep
  refine .ite (fun _ => .refl s) fun _ => .ite (fun _ => (placeLapse_grows _ _).trans (.of_liu rfl)) fun _ => ?_
  split
  · exact .ite (fun _ => (placeLapse_grows _ _).trans (.of_liu rfl)) fun _ => .refl s
  · exact .refl s

theorem refreshStep_grows : QueueGrows s (refreshStep s) := .ite (fun _ => placeKeep_grows) fun _ => .refl s

theorem framePhase_grows : QueueGrows s s.framePhase := by
  have hexpiry : QueueGrows s (if s.isMember then forEach stations expiryStep s else s) :=
    .ite (fun _ => .forEach stations expiryStep (fun n t => .ite (fun _ => .of_liu rfl) fun _ => .refl t) s) fun _ => .refl s
  exact ((hexpiry.trans selfStep_grows).trans lapseKeyStep_grows).trans refreshStep_grows

/-! ### What the requests are judged by -/

/-- A change that leaves the figures of the shares, takes nothing out of the queue and leaves the TAKEs and want marks. -/
structure Quiet (s t : State) : Prop where
  figures : Figures s t
  grows : QueueGrows s t
  asks : ∀ v, (t.hold.get v).asks = (s.hold.get v).asks

theorem Quiet.trans (h1 : Quiet s t) (h2 : Quiet t u) : Quiet s u :=
  ⟨h1.figures.trans h2.figures, h1.grows.trans h2.grows, fun v => (h2.asks v).trans (h1.asks v)⟩

theorem stagePhase_quiet (s : State) : Quiet s s.stagePhase :=
  ⟨stagePhase_figures s, stagePhase_grows, fun v => by rw [stagePhase_hold]⟩

theorem framePhase_quiet (s : State) : Quiet s s.framePhase :=
  ⟨framePhase_figures s, framePhase_grows, fun v => by rw [framePhase_hold]⟩

theorem modHold_asks {v w : Svc} {f : ServiceHold → ServiceHold} (h : ∀ x, (f x).asks = x.asks) :
    ((s.modHold v f).hold.get w).asks = (s.hold.get w).asks := by
  rw [modHold_get]
  split
  · exact h _
  · rfl

theorem rest_asks (s : State) (v : Svc) : (s.rest.hold.get v).asks = (s.hold.get v).asks := by
  have hspare : ∀ (p : Svc × Cls) (t : State), ((spareStep p.1 p.2 t).hold.get v).asks = (t.hold.get v).asks := fun p t =>
    modHold_asks fun _ => rfl
  have hshed : ∀ w (t : State), ((shedShortStep w t).hold.get v).asks = (t.hold.get v).asks := by
    intro w t
    have hmark : ∀ a b, ((t.modHold w fun h => { h with unplacedTrue := a, overrunTrue := b }).hold.get v).asks =
        (t.hold.get v).asks := fun a b => modHold_asks fun _ => rfl
    unfold shedShortStep
    dsimp only
    split
    · exact hmark _ _
    · exact hmark _ _
  have h : ((if s.live then (forEach services shedShortStep s.sparePhase).observe else s).hold.get v).asks =
      (s.hold.get v).asks := by
    split
    · rw [State.observe_hold]
      refine (forEach_keeps (fun t => (t.hold.get v).asks) services shedShortStep hshed _).trans ?_
      exact forEach_keeps (fun t => (t.hold.get v).asks) serviceClasses (fun p => spareStep p.1 p.2) hspare s
    · rfl
  exact h

theorem rest_quiet (s : State) : Quiet s s.rest := ⟨rest_figures s, .of_liu (rest_liu s), rest_asks s⟩

end

end Sys2Proof.Machine

namespace Sys2Proof.Machine

/-! ### GIVE, TAKE and WANT at the end of an event (R81, R85, R88) -/

section
variable {s t u : State} {v w : Svc} {k : Cls}

/-- Nothing is left to give (R88). -/
def State.giveServed (s : State) (v : Svc) (k : Cls) : Prop :=
  s.ownHolding v k ≤ s.waitingGive v k + max (s.sumBounds v k) (s.classHold v k).keep

/-- What is unmet and has headroom has a TAKE outstanding (R81). -/
def State.takeServed (s : State) (v : Svc) : Prop :=
  (s.hold.get v).outstanding = none → ∀ k, s.unmet v k = 0 ∨ s.headroom v = 0

/-- An announced want that does not match the mark has a WANT under way (R85). -/
def State.wantServed (s : State) (v : Svc) : Prop :=
  wantMismatch (s.hold.get v).wantMark (s.unmetTotal v) (s.ownEntry.want v) (s.svcSetting v ServiceCfg.wantOn) = true →
    s.keyBusy (.want v) = true

/-! ### The figures these rules read -/

theorem Figures.ownHolding (h : Figures s t) : t.ownHolding v k = s.ownHolding v k := ownHolding_of_parts h.loader h.copy

theorem Figures.keep (h : Figures s t) : (t.classHold v k).keep = (s.classHold v k).keep :=
  congrArg (fun c => c.2.1) (h.classes v k)

theorem Figures.sumBounds (h : Figures s t) : t.sumBounds v k = s.sumBounds v k := by
  change ((t.classChannels v k).map fun ch => (t.outlet ch).peak).sum = ((s.classChannels v k).map fun ch => (s.outlet ch).peak).sum
  rw [classChannels_of_loader h.loader]
  exact congrArg List.sum (List.map_congr_left fun ch _ => congrArg (fun m => m.2.2.2.1) (h.outlets ch))

theorem Figures.target (h : Figures s t) : t.target v k = s.target v k :=
  target_of_shares h.loader (fun ch _ => share_of_shareMarks (h.outlets ch)) (congrArg Prod.fst (h.classes v k))

theorem Figures.ownEntry (h : Figures s t) : t.ownEntry = s.ownEntry := ownEntry_of_parts h.loader h.copy

theorem Figures.headroom (h : Figures s t) : t.headroom v = s.headroom v := by
  have hquorum : t.quorum = s.quorum := by rw [State.quorum, h.loader]; rfl
  rw [State.headroom, State.headroom, h.copy, hquorum, own_of_loader h.loader, h.ownEntry]

theorem Figures.unmet (h : Figures s t) (ho : (t.hold.get v).outstanding = (s.hold.get v).outstanding) :
    t.unmet v k = s.unmet v k := by
  rw [State.unmet, State.unmet, h.target, h.ownHolding, State.takenFor, State.takenFor, ho]

theorem Figures.unmetTotal (h : Figures s t) (ho : (t.hold.get v).outstanding = (s.hold.get v).outstanding) :
    t.unmetTotal v = s.unmetTotal v := by
  have hunmet : t.unmet v = s.unmet v := funext fun _ => h.unmet ho
  rw [State.unmetTotal, State.unmetTotal, hunmet, h.headroom, State.outstandingAmount, State.outstandingAmount, ho]

theorem Figures.isMember (h : Figures s t) : t.isMember = s.isMember := by rw [State.isMember, State.isMember, h.station]

theorem giveServed_of_figures (h : Figures s t) (hg : QueueGrows s t) (hs : s.giveServed v k) : t.giveServed v k := by
  have hgives := hg.gives v k
  unfold State.giveServed at hs ⊢
  rw [h.ownHolding, h.sumBounds, h.keep]
  omega

theorem takeServed_of_figures (h : Figures s t) (ho : (t.hold.get v).outstanding = (s.hold.get v).outstanding)
    (hs : s.takeServed v) : t.takeServed v := by
  intro hnone k
  rw [h.unmet ho, h.headroom]
  exact hs (ho.symm.trans hnone) k

theorem wantServed_of_figures (h : Figures s t) (hg : QueueGrows s t) (ha : (t.hold.get v).asks = (s.hold.get v).asks)
    (hs : s.wantServed v) : t.wantServed v := by
  obtain ⟨ho, hmark⟩ := Prod.mk.inj ha
  intro hmismatch
  rw [hmark, h.unmetTotal ho, h.ownEntry, svcSetting_of_loader h.loader] at hmismatch
  exact hg.busy _ (hs hmismatch)

/-! ### Each step serves its own rule -/

theorem giveStep_serves (hm : s.isMember = true) : (giveStep v k s).giveServed v k := by
  have hgives : s.station.gives = true := by rw [station_of_isMember s hm]; rfl
  have hfigures : Figures s (s.placeGive v k (s.giveAmount v k)) := placeGive_figures v k _ s
  have hplaced := placeGive_waitingGive (s := s) v k (s.giveAmount v k)
  have hamount : s.giveAmount v k = s.ownHolding v k - s.waitingGive v k - max (s.sumBounds v k) (s.classHold v k).keep := rfl
  unfold giveStep
  dsimp only
  rw [hgives, Bool.true_and]
  split
  · rw [State.giveServed, hfigures.ownHolding, hfigures.sumBounds, hfigures.keep, hplaced]
    omega
  · next h =>
    rw [decide_eq_true_iff] at h
    unfold State.giveServed
    omega

theorem takeStep_serves (hm : s.isMember = true) : (takeStep v s).takeServed v := by
  unfold takeStep
  rw [hm, Bool.true_and]
  split
  · split
    · next k hk =>
      dsimp only
      split
      · intro hnone
        rw [modHold_get, if_pos rfl] at hnone
        cases hnone
      · next hn =>
        have hunmet : s.unmet v k ≠ 0 := by simpa using List.find?_some hk
        exact fun _ _ => .inr (by omega)
    · next hnone =>
      refine fun _ k => .inl ?_
      have := List.find?_eq_none.mp hnone k (by cases k <;> decide)
      simpa using this
  · next h =>
    intro hnone
    rw [hnone] at h
    exact absurd rfl h

theorem keyBusy_placeWant : (s.placeWant v).keyBusy (.want v) = true := by
  rw [State.keyBusy, Bool.or_eq_true]
  refine .inl ?_
  change ((s.liu.queue.want.set v _).get v).isSome = true
  rw [Per2.get_set_self]
  rfl

theorem wantStep_serves (hm : s.isMember = true) : (wantStep v s).wantServed v := by
  unfold wantStep
  rw [if_pos hm]
  dsimp only
  have hmarked : ∀ mark, Figures s (s.modHold v fun h => { h with wantMark := mark }) ∧
      ((s.modHold v fun h => { h with wantMark := mark }).hold.get v).outstanding = (s.hold.get v).outstanding ∧
      ((s.modHold v fun h => { h with wantMark := mark }).hold.get v).wantMark = mark := by
    refine fun mark => ⟨modHold_figures (fun _ => rfl) fun _ => rfl, ?_, ?_⟩
    · rw [modHold_get, if_pos rfl]
    · rw [modHold_get, if_pos rfl]
  generalize wantMarkAfter (s.hold.get v).wantMark (s.unmetTotal v) (s.svcSetting v ServiceCfg.wantOn)
    (s.svcSetting v ServiceCfg.wantOff) = mark
  obtain ⟨hfigures, hout, hmark⟩ := hmarked mark
  generalize s.modHold v (fun h => { h with wantMark := mark }) = t at *
  split
  · exact fun _ => keyBusy_placeWant
  · next hno =>
    intro hmismatch
    rw [hmark, hfigures.unmetTotal hout, svcSetting_of_loader hfigures.loader] at hmismatch
    rw [hmismatch, Bool.true_and, Bool.not_eq_true', Bool.not_eq_false] at hno
    exact hno

/-! ### What the steps leave of the TAKEs and the want marks -/

theorem modHold_get_of_ne {f : ServiceHold → ServiceHold} (h : w ≠ v) : (s.modHold w f).hold.get v = s.hold.get v := by
  rw [modHold_get, if_neg h]

theorem takeStep_hold_of_ne (h : w ≠ v) : (takeStep w s).hold.get v = s.hold.get v := by
  unfold takeStep
  split
  · split
    · dsimp only
      split
      · exact modHold_get_of_ne h
      · rfl
    · rfl
  · rfl

/-- A WANT's step sets its want mark at most. -/
theorem wantStep_hold (w : Svc) (s : State) :
    (wantStep w s).hold = s.hold ∨ ∃ mark, (wantStep w s).hold = (s.modHold w fun h => { h with wantMark := mark }).hold := by
  unfold wantStep
  split
  · dsimp only
    split <;> exact .inr ⟨_, rfl⟩
  · exact .inl rfl

theorem wantStep_hold_of_ne (h : w ≠ v) : (wantStep w s).hold.get v = s.hold.get v := by
  rcases wantStep_hold w s with e | ⟨mark, e⟩
  · rw [e]
  · rw [e, modHold_get_of_ne h]

theorem wantStep_outstanding : ((wantStep w s).hold.get v).outstanding = (s.hold.get v).outstanding := by
  rcases wantStep_hold w s with e | ⟨mark, e⟩
  · rw [e]
  · rw [e, modHold_get]
    split <;> rfl

/-! ### The three phases -/

theorem gives_serve (hm : s.isMember = true) (v : Svc) (k : Cls) :
    (forEach serviceClasses (fun p => giveStep p.1 p.2) s).giveServed v k :=
  forEach_reaches (f := fun p : Svc × Cls => giveStep p.1 p.2) (I := fun t => t.isMember = true) (P := fun t => t.giveServed v k)
    (mem_serviceClasses v k) (fun p t ht => (giveStep_figures p.1 p.2 t).isMember.trans ht)
    (fun p t _ hP => giveServed_of_figures (giveStep_figures p.1 p.2 t) (giveStep_grows p.1 p.2) hP) (fun _ ht => giveStep_serves ht) hm

theorem takes_serve (hm : s.isMember = true) (v : Svc) : (forEach services takeStep s).takeServed v := by
  refine forEach_reaches (I := fun t => t.isMember = true) (P := fun t => t.takeServed v)
    (mem_services v) (fun w t ht => (takeStep_figures w t).isMember.trans ht) (fun w t ht hP => ?_) (fun _ ht => takeStep_serves ht) hm
  by_cases h : w = v
  · subst h; exact takeStep_serves ht
  · exact takeServed_of_figures (takeStep_figures w t) (by rw [takeStep_hold_of_ne h]) hP

theorem wants_serve (hm : s.isMember = true) (v : Svc) : (forEach services wantStep s).wantServed v := by
  refine forEach_reaches (I := fun t => t.isMember = true) (P := fun t => t.wantServed v)
    (mem_services v) (fun w t ht => (wantStep_figures w t).isMember.trans ht) (fun w t ht hP => ?_) (fun _ ht => wantStep_serves ht) hm
  by_cases h : w = v
  · subst h; exact wantStep_serves ht
  · exact wantServed_of_figures (wantStep_figures w t) (wantStep_grows w) (by rw [wantStep_hold_of_ne h]) hP

/-- The three rules of a service, served. -/
structure RequestsServed (s : State) (v : Svc) : Prop where
  gives : ∀ k, s.giveServed v k
  takes : s.takeServed v
  wants : s.wantServed v

theorem Quiet.requestsServed (h : Quiet s t) (hs : RequestsServed s v) : RequestsServed t v where
  gives k := giveServed_of_figures h.figures h.grows (hs.gives k)
  takes := takeServed_of_figures h.figures (congrArg Prod.fst (h.asks v)) hs.takes
  wants := wantServed_of_figures h.figures h.grows (h.asks v) hs.wants

theorem afterKeeps_serves (hm : s.isMember = true) (v : Svc) : RequestsServed s.afterKeeps v := by
  unfold State.afterKeeps
  have hreclaim := Figures.forEach services reclaimStep reclaimStep_figures s
  generalize forEach services reclaimStep s = a at hreclaim ⊢
  have hma : a.isMember = true := hreclaim.isMember.trans hm
  have hgives := gives_serve hma v
  have hgive := Figures.forEach serviceClasses (fun p => giveStep p.1 p.2) (fun p t => giveStep_figures p.1 p.2 t) a
  generalize forEach serviceClasses (fun p => giveStep p.1 p.2) a = b at *
  have hmb : b.isMember = true := hgive.isMember.trans hma
  have htakes := takes_serve hmb v
  have htake := Figures.forEach services takeStep takeStep_figures b
  have htakeGrows := QueueGrows.forEach services takeStep (fun w _ => takeStep_grows w) b
  generalize forEach services takeStep b = c at *
  have hmc : c.isMember = true := htake.isMember.trans hmb
  have hwant := Figures.forEach services wantStep wantStep_figures c
  have hwantGrows := QueueGrows.forEach services wantStep (fun w _ => wantStep_grows w) c
  refine ⟨fun k => giveServed_of_figures (htake.trans hwant) (htakeGrows.trans hwantGrows) (hgives k), ?_, wants_serve hmc v⟩
  exact takeServed_of_figures hwant
    (forEach_keeps (fun t => (t.hold.get v).outstanding) services wantStep (fun w t => wantStep_outstanding) c) htakes

theorem afterContact_requestsServed (hm : s.isMember = true) (v : Svc) : RequestsServed s.afterContact.rest v := by
  have hkeeps : (forEach services keepPhase s).isMember = true :=
    (forEach_inv (fun t => t.isMember = s.isMember) services keepPhase (fun w t ht => by
      have hstep : ∀ j (a : State), (classStep w j a).isMember = a.isMember := fun j a =>
        isMember_of_memb_eq (classStep_memb a w j)
      exact (forEach_keeps State.isMember [Cls.c3, .c2, .c1, .c0] (classStep w) hstep t).trans ht) s rfl).trans hm
  rw [State.afterContact, holdPhase_eq]
  exact (((stagePhase_quiet _).trans (framePhase_quiet _)).trans (rest_quiet _)).requestsServed (afterKeeps_serves hkeeps v)

end

end Sys2Proof.Machine

namespace Sys2Proof.Machine

/-! ### Offers, lapses and ALWAYS stages at the end of an event -/

section
variable {s t : State} {v w : Svc} {ch p : Chan}

theorem stageCfg_of_loader (h : t.loader = s.loader) (ch : Chan) : t.stageCfg? ch = s.stageCfg? ch := by
  simp only [State.stageCfg?, State.cfg, h]

/-- An own offer that is not the intended one has an OFFER under way (R181). -/
def State.offerServed (s : State) (v : Svc) : Prop := s.intendedOffer v ≠ s.ownOffer v → s.keyBusy (.offer v) = true

theorem intendedOffer_of_parts (hloader : t.loader = s.loader) (hstages : t.stages = s.stages) :
    t.intendedOffer v = s.intendedOffer v := by
  have hstageOf : t.stageOf v = s.stageOf v := funext fun ch => by rw [State.stageOf, State.stageOf, stageCfg_of_loader hloader]
  have hrating : t.stageRating = s.stageRating := funext fun ch => by
    rw [State.stageRating, State.stageRating, stageCfg_of_loader hloader]
  simp only [State.intendedOffer, State.stagesOf, State.stage, hstageOf, hrating, hstages]

theorem offerServed_of_parts (hloader : t.loader = s.loader) (hcopy : t.ledger.copy = s.ledger.copy) (hstages : t.stages = s.stages)
    (hgrows : QueueGrows s t) (hs : s.offerServed v) : t.offerServed v := by
  intro hne
  rw [intendedOffer_of_parts hloader hstages, State.ownOffer, ownEntry_of_parts hloader hcopy] at hne
  exact hgrows.busy _ (hs hne)

theorem offerStep_serves : (offerStep v s).offerServed v := by
  have hbusy : (s.placeOffer v).keyBusy (.offer v) = true := by
    rw [State.keyBusy, Bool.or_eq_true]
    refine .inl ?_
    change ((s.liu.queue.offer.set v _).get v).isSome = true
    rw [Per2.get_set_self]
    rfl
  unfold offerStep
  split
  · exact fun _ => hbusy
  · next h =>
    intro hne
    rw [bne_iff_ne.mpr hne, Bool.true_and, Bool.not_eq_true', Bool.not_eq_false] at h
    exact h

theorem offerStep_stages : (offerStep w s).stages = s.stages := by unfold offerStep; split <;> rfl

theorem offers_serve (s : State) (v : Svc) : (forEach services offerStep s).offerServed v := by
  refine forEach_reaches (I := fun _ => True) (P := fun t => t.offerServed v) (mem_services v) (fun _ _ _ => trivial)
    (fun w t _ hP => ?_) (fun t _ => offerStep_serves) trivial
  have h := offerStep_figures w t
  exact offerServed_of_parts h.loader h.copy offerStep_stages (offerStep_grows w) hP

theorem stagePhase_of_member (hm : s.isMember = true) : s.stagePhase =
    forEach services dropStep (forEach services offerStep (forEach services callStep (forEach channels alwaysStep s))) := by
  rw [State.stagePhase, if_pos hm]

theorem stagePhase_offers (hm : s.isMember = true) (v : Svc) : s.stagePhase.offerServed v := by
  rw [stagePhase_of_member hm]
  have hoffers := offers_serve (forEach services callStep (forEach channels alwaysStep s)) v
  generalize forEach services offerStep _ = a at hoffers ⊢
  have h := Figures.forEach services dropStep dropStep_figures a
  refine offerServed_of_parts h.loader h.copy ?_ (.forEach services dropStep (fun _ _ => .of_liu rfl) a) hoffers
  exact forEach_keeps State.stages services dropStep (fun _ _ => rfl) a

/-! ### ALWAYS stages (R183) -/

/-- An untripped ALWAYS stage does not stand DOWN. -/
def State.alwaysServed (s : State) (ch : Chan) : Prop :=
  ∀ c : StageCfg, s.stageCfg? ch = some c → c.mode = .always → s.pins.trip[ch] = false → (s.stage ch).state ≠ .down

theorem alwaysServed_of_stands (hloader : t.loader = s.loader) (h : StagesStand s t) (hs : s.alwaysServed ch) : t.alwaysServed ch := by
  intro c hc hmode htrip
  rw [stageCfg_of_loader hloader] at hc
  rw [h.pins] at htrip
  have hstate := hs c hc hmode htrip
  rw [((h.stage ch).state (.inl hstate)).1]
  exact hstate

theorem callStage_not_down : ((s.callStage ch).stage ch).state ≠ .down := by
  rw [State.callStage, State.modStage_stage_self]
  split <;> exact fun e => by cases e

theorem alwaysStep_stagesStand : StagesStand s (alwaysStep p s) := by
  refine .ite (fun h => callStage_stagesStand ?_) fun _ => .refl s
  rw [Bool.and_eq_true] at h
  exact h.2

theorem alwaysStep_serves : (alwaysStep ch s).alwaysServed ch := by
  unfold alwaysStep
  split
  · exact fun _ _ _ _ => callStage_not_down
  · next h =>
    intro c hc hmode htrip hdown
    refine h ?_
    rw [State.stageModeIs, hc, State.callable, hdown, htrip, Option.any_some, hmode]
    rfl

theorem stagePhase_always (hm : s.isMember = true) (ch : Chan) : s.stagePhase.alwaysServed ch := by
  rw [stagePhase_of_member hm]
  have halways : (forEach channels alwaysStep s).alwaysServed ch :=
    forEach_reaches (I := fun _ => True) (P := fun t => t.alwaysServed ch) (mem_channels ch) (fun _ _ _ => trivial)
      (fun p t _ hP => alwaysServed_of_stands (alwaysStep_figures p t).loader alwaysStep_stagesStand hP)
      (fun t _ => alwaysStep_serves) trivial
  generalize forEach channels alwaysStep s = a at halways ⊢
  have hfigures := ((Figures.forEach services callStep callStep_figures a).trans (.forEach services offerStep offerStep_figures _)).trans
    (.forEach services dropStep dropStep_figures _)
  refine alwaysServed_of_stands hfigures.loader ?_ halways
  refine ((StagesStand.forEach services callStep (fun v t => callStep_stagesStand v) a).trans
    (.forEach services offerStep (fun v t => ?_) _)).trans (.forEach services dropStep (fun v t => ?_) _)
  · exact .ite (fun _ => .of_unit rfl id) fun _ => .refl t
  · unfold dropStep
    exact modSupply_stagesStand fun _ => rfl

/-! ### The LAPSE key (R49) -/

/-- A candidate, or a LAPSE of self asked for, leaves the LAPSE key no time free. -/
def State.lapseServed (s : State) : Prop :=
  s.memb.lapseSelfRequested = true ∨ s.ledger.candidates ≠ [] → s.keyBusy .lapse = true

theorem keyBusy_placeLapse (n : Stn) (q : BitVec 8) : (s.placeLapse n q).keyBusy .lapse = true := rfl

theorem lapseKeyStep_serves (hdisowns : s.station.disowns = true) : (lapseKeyStep s).lapseServed := by
  unfold lapseKeyStep
  split
  · next hbusy => exact fun _ => hbusy
  · split
    · exact fun _ => keyBusy_placeLapse _ _
    · next hself =>
      split
      · exact fun _ => keyBusy_placeLapse _ _
      · next hnone => exact fun h => absurd h (not_or.mpr ⟨hself, fun hn => hn hnone⟩)

theorem lapseServed_of_parts (hmemb : t.memb = s.memb) (hledger : t.ledger = s.ledger) (hgrows : QueueGrows s t)
    (hs : s.lapseServed) : t.lapseServed := by
  intro h
  rw [hmemb, hledger] at h
  exact hgrows.busy _ (hs h)

theorem framePhase_lapseServed (hm : s.isMember = true) : s.framePhase.lapseServed := by
  have hstation : (selfStep (if s.isMember then forEach stations expiryStep s else s)).station = .member := by
    rw [← lapseKeyStep_station]
    exact (beforeRefresh_station s).trans (station_of_isMember s hm)
  have hkey : s.beforeRefresh.lapseServed := lapseKeyStep_serves (by rw [hstation]; rfl)
  obtain ⟨hledger, -, hmemb⟩ := refreshStep_leaves s.beforeRefresh
  exact lapseServed_of_parts hmemb hledger refreshStep_grows hkey

/-! ### The end of a round in MEMBER -/

theorem Watched.symm (h : Watched s t) : Watched t s := ⟨h.silence.symm, h.copy.symm, h.loader.symm, h.ownLanding.symm⟩

theorem rest_watched (s : State) : Watched s s.rest := by
  have hledger := rest_ledger s
  exact ⟨by rw [hledger], by rw [hledger], (rest_reacts s).loader, by rw [rest_memb]⟩

theorem afterContact_offers (hm : s.isMember = true) (v : Svc) : s.afterContact.rest.offerServed v := by
  have hmember : s.holdPhase.isMember = true := by rw [State.isMember, State.station, State.holdPhase_memb]; exact hm
  have hserved := stagePhase_offers hmember v
  rw [State.afterContact]
  generalize s.holdPhase.stagePhase = a at hserved ⊢
  obtain ⟨⟨hloader, hcopy⟩, hgrows, -⟩ := (framePhase_quiet a).trans (rest_quiet _)
  exact offerServed_of_parts hloader hcopy (unit_parts ((rest_stageUnit a.framePhase).trans (framePhase_stageUnit a))).1 hgrows hserved

theorem afterContact_always (hm : s.isMember = true) (ch : Chan) : s.afterContact.rest.alwaysServed ch := by
  have hmember : s.holdPhase.isMember = true := by rw [State.isMember, State.station, State.holdPhase_memb]; exact hm
  have hserved := stagePhase_always hmember ch
  rw [State.afterContact]
  generalize s.holdPhase.stagePhase = a at hserved ⊢
  have hfigures := (framePhase_figures a).trans (rest_figures _)
  have hunit := (rest_stageUnit a.framePhase).trans (framePhase_stageUnit a)
  refine alwaysServed_of_stands hfigures.loader (.of_unit hunit fun h => ?_) hserved
  exact hfigures.station.trans h

theorem afterContact_lapses (hm : s.isMember = true) : Claims.LapsesAreServed s.afterContact.rest := by
  have hmember : s.holdPhase.stagePhase.isMember = true := by
    rw [State.isMember, State.station, State.stagePhase_memb, State.holdPhase_memb]; exact hm
  rw [State.afterContact]
  generalize s.holdPhase.stagePhase = a at hmember ⊢
  refine ⟨fun n hown hentry hsilent => ?_, lapseServed_of_parts (rest_memb _) (rest_ledger _) (.of_liu (rest_liu _))
    (framePhase_lapseServed hmember)⟩
  have hsilent' : a.silent n := ((framePhase_watched a).trans (rest_watched _)).symm.silent ⟨hown, hentry, hsilent⟩
  exact (lapsing_of_eq (rest_liu _) (by rw [rest_ledger]) (framePhase_lapsing a hmember hsilent')).symm

theorem afterContact_refreshes (hm : s.isMember = true)
    (h : Timer.atLeast (s.afterContact.rest.limit Image.tKeep) s.afterContact.rest.memb.ownLanding = true) :
    s.afterContact.rest.refreshBusy = true := by
  have hmember : s.holdPhase.stagePhase.isMember = true := by
    rw [State.isMember, State.station, State.stagePhase_memb, State.holdPhase_memb]; exact hm
  rw [State.afterContact] at h ⊢
  generalize s.holdPhase.stagePhase = a at hmember h ⊢
  have hwatched := (framePhase_watched a).trans (rest_watched _)
  rw [hwatched.limit, hwatched.ownLanding] at h
  exact (rest_quiet a.framePhase).grows.busy _ (framePhase_refreshes a (station_of_isMember a hmember) h)

theorem afterContact_shares (hm : s.isMember = true) : Claims.SharesAreServed s.afterContact.rest := by
  intro v
  obtain ⟨hgives, htakes, hwants⟩ := afterContact_requestsServed hm v
  exact ⟨afterContact_offers hm v, hwants, htakes, hgives, afterContact_refreshes hm⟩

end

end Sys2Proof.Machine

namespace Sys2Proof.Proofs

open Machine Claims

/-- Settles O7: an event that ends in MEMBER ends with a round of reactions of a MEMBER, in which each phase serves its rules and no
later one undoes them. -/
theorem standingRulesAreServed : Obligations.StandingRulesAreServed := by
  intro s hm hlive
  obtain ⟨x, hreacts, hmember, -, hsettle⟩ := settle_lastRound s hlive hm
  have hphase : x.outletPhase.isMember = true := (outletPhase_works (up := True) x).isMember.trans hmember
  have hreleasing : ∀ v k, (s.settle.classHold v k).releasing = true → s.settle.spareStands v k = true := by
    intro v k hr
    have hjudged := settle_spareOf s v k hlive fun e => by
      rw [isMember_of_station _ e] at hm
      cases hm
    have hmark : (s.settle.classHold v k).releasing = ((s.classHold v k).releasing && s.settle.spareStands v k) :=
      congrArg Prod.snd hjudged
    rw [hmark, Bool.and_eq_true] at hr
    exact hr.2
  have hall : Reacts s x.outletPhase.afterContact.rest :=
    ((hreacts.trans (outletPhase_reacts x)).trans (afterContact_reacts _)).trans (rest_reacts _)
  intro t
  have ht : t = x.outletPhase.afterContact.rest := hsettle
  have hreleasing' : ∀ v k, (t.classHold v k).releasing = true → t.spareStands v k = true := hreleasing
  clear_value t
  subst ht
  refine ⟨afterContact_shares hphase, afterContact_lapses hphase, fun ch => afterContact_always hphase ch, fun horders => ?_⟩
  have hserved := fun v k => lastRound_serves x hmember (hreacts.ordersSound horders) v k
  exact ⟨fun v k => ⟨keepIsComputed_of_fits (hserved v k).fits (hreleasing' v k), (hserved v k).made⟩,
    fun hcarries v => carriesAreComputed_of_served (hserved v) (hall.carriesSound hcarries)⟩

end Sys2Proof.Proofs
